-- ==== Sys2Proof/Word.lean ====
section
/-!
DEFINITION. The word types of the GK1024: 64-bit registers and Ihluc values (R2, R136), bytes of frames and memories.
-/
namespace Sys2Proof

/-- A register, an Ihluc value, an instruction: 64 bits (R2). -/
abbrev Word := BitVec 64
/-- A byte of a frame, of a scratchpad or of a record. -/
abbrev Byte := BitVec 8
/-- A number as a 64-bit word, wrapping. -/
abbrev word (n : Nat) : Word := BitVec.ofNat 64 n
/-- A number as a byte, wrapping. -/
abbrev byte (n : Nat) : Byte := BitVec.ofNat 8 n

end Sys2Proof
end

