-- ==== Sys2Proof/Syntax.lean ====
section
/-!
DEFINITION. The commands of the GK1024: one constructor per row of the opcode table, in its order, each citing the row's
rule.  An instruction row names the slice, the thread within the slice and the low 56 bits of the instruction word.
A command row names its requester and the written command word; the row itself fixes the OP field.  An event row carries
what the outside world supplies at the event.
-/
namespace Sys2Proof

/-- Who makes a register access: a physical function of a host, or the Scribe (Table 20.5). -/
inductive Requester where
  | pf (n : Fin 16)
  | scribe
  deriving DecidableEq, Repr

/-- Which aligned part of a register an access covers (R2). -/
inductive Half where
  | both | low | high
  deriving DecidableEq, Repr

/-- The commands: one constructor per row of the opcode table. -/
inductive Instr where
  /-- REGISTER_WRITE (R2): A write to a register that has no row of its own, judged for width, alignment, requester and reserved fields. -/
  | registerWrite (r : Requester) (off : Nat) (size : Nat) (data : Word)
  /-- RC_FIELD_READ (R6): A read of an RC field returns its value and clears it, counting an event of the same cycle after the clear. -/
  | rcFieldRead (r : Requester) (off : Nat) (size : Nat)
  /-- ENTER_RETENTION (R17): SLC_CMD operation that starts moving an ACTIVE slice with no enabled port into RETENTION. -/
  | enterRetention (i : Fin 16) (r : Requester) (w : Word)
  /-- RETENTION_ENTERED (R17): After draining packets and closing its Copybook block, the slice completes ENTER_RETENTION with OK. -/
  | retentionEntered (i : Fin 16)
  /-- EXIT_RETENTION (R18): SLC_CMD operation that starts waking a slice from RETENTION. -/
  | exitRetention (i : Fin 16) (r : Requester) (w : Word)
  /-- EXIT_RETENTION_DONE (R18): After memory wake and missed Folio commits are taken, the slice becomes ACTIVE and EXIT_RETENTION completes with OK. -/
  | exitRetentionDone (i : Fin 16)
  /-- XBR_PART_MAP_WRITE (R26): A write of the partition map is accepted as a new map or discarded while APPLY_PENDING is 1. -/
  | xbrPartMapWrite (r : Requester) (h : Half) (w : Word)
  /-- XBR_APPLY_DONE (R25): The last cell accepted under the previous map leaves the crossbar and APPLY_PENDING clears. -/
  | xbrApplyDone
  /-- ROOT_PLL_LOSS (R36): The root PLL loses lock, a fatal fault that idles transmitters, de-asserts HEALTH_N and holds the core in reset. -/
  | rootPllLoss
  /-- SCRIBE_PLL_LOSS (R37): The Scribe PLL loses lock, resetting the Scribe domain and zeroising the secure scratchpad. -/
  | scribePllLoss
  /-- FRAME_START (R82): A lane detects a start-of-frame delimiter and captures the bounded receive timestamp. -/
  | frameStart (i : Fin 16) (l : Fin 64) (interp : Fin 11)
  /-- FRAME_CELL_RECEIVED (R247): A further 128 bytes of a frame body arrive and are stored in a newly allocated cell of the packet's chain. -/
  | frameCellReceived (i : Fin 16) (l : Fin 64) (bytes : List Byte)
  /-- FRAME_END (R75): The last byte of a frame arrives and the MAC checks length, FCS, PCS errors and FEC, discarding and counting a bad frame. -/
  | frameEnd (i : Fin 16) (l : Fin 64) (tail : List Byte) (pcs : Bool) (corrected : Nat) (uncorrectable : Nat) (frags : Nat)
  /-- PARSE_COMPLETE (R98): The parse record completes, the frame takes its port sequence number and enters its home dispatch queue. -/
  | parseComplete (i : Fin 16) (l : Fin 64) (len : Nat)
  /-- FRAG_WAIT_RELEASE (R103): A fragment in the wait list is released when its entry resolves and takes the table again. -/
  | fragWaitRelease (i : Fin 16)
  /-- PACKET_START (R113): A cluster starts the head of its queue on a free thread with a free restorer entry. -/
  | packetStart (i : Fin 16) (c : Fin 16)
  /-- WORK_STEAL (R116): An idle cluster takes the unpinned head of a queue at ring distance 1 or 2 that has waited past STEAL_THRESH. -/
  | workSteal (i : Fin 16) (thief : Fin 16) (victim : Fin 16)
  /-- ICACHE_FILL (R126): The program store delivers a missed line to an instruction cache and the stalled thread resumes. -/
  | icacheFill (i : Fin 16) (c : Fin 16)
  /-- RUN_LIMIT_EXPIRY (R115): A thread reaches RUN_LIMIT cycles and is ended, its packet dropped with reason 0x82. -/
  | runLimitExpiry (i : Fin 16) (t : Fin 1024)
  /-- RESTORER_HAND_ON (R121): The order restorer hands committed copies onward once every earlier packet of the port is handed on or retired. -/
  | restorerHandOn (i : Fin 16) (l : Fin 64)
  /-- EGRESS_ARRIVAL (R30): A packet's cells reach the egress slice buffer and its copies are made and enqueued. -/
  | egressArrival (i : Fin 16) (src : Fin 16) (cls : Fin 8)
  /-- PORT_FRAME_BOUNDARY (R273): At a frame boundary a port starts an Equinox copy, a due merge entry or the hierarchy's selection. -/
  | portFrameBoundary (i : Fin 16) (l : Fin 64)
  /-- TRANSMIT_COMPLETE (R247): A copy's transmission ends and the egress chain is freed once its last copy is sent or dropped. -/
  | transmitComplete (i : Fin 16) (l : Fin 64)
  /-- TIME_MARKER (R61): The central reference issues a 1 µs marker and each slice measures skew and updates its skew term, CHECK_VALID and ALARM. -/
  | timeMarker (lost : BitVec 16) (late : List Nat)
  /-- CHECK_MISSED (R61): A marker not received 40 ns after issue clears CHECK_VALID and raises TBU_CHECK_MISSED. -/
  | checkMissed (i : Fin 16)
  /-- TOD_LOAD (R67): TRF_CMD operation that schedules loading the operand time and bound into device time. -/
  | todLoad (r : Requester) (w : Word)
  /-- TOD_LOAD_APPLY (R67): At the first marker 100 ns after TOD_LOAD all time units take the loaded time as a step. -/
  | todLoadApply
  /-- ENTER_HOLDOVER (R68): TRF_CMD operation that moves the servo from ACQUIRING or LOCKED to HOLDOVER. -/
  | enterHoldover (r : Requester) (w : Word)
  /-- FREERUN (R68): TRF_CMD operation that sends the servo to FREERUN. -/
  | freerun (r : Requester) (w : Word)
  /-- FREERUN_APPLY (R58): At the next 1 µs marker all bounds become unbounded after a FREERUN command. -/
  | freerunApply
  /-- TRF_OFFSET_WRITE (R51): A PTP offset sample is written and accepted into the servo or discarded. -/
  | trfOffsetWrite (r : Requester) (h : Half) (w : Word)
  /-- PPS_EDGE (R50): A rising edge on PPS_IN yields one offset sample for the servo. -/
  | ppsEdge (interp : Fin 11)
  /-- SERVO_STEP_APPLY (R55): At the next 1 µs marker after a stepping sample the central reference and all time base units step by −e. -/
  | servoStepApply
  /-- REF_LOSS_TIMEOUT (R497): The loss timer of the selected reference expires and the servo enters HOLDOVER with TIME_REF_LOST. -/
  | refLossTimeout
  /-- FREQ_MEASURE (R53): Each 1 ms the servo measures CCLK against the frequency source and recomputes the addend. -/
  | freqMeasure (f : Int)
  /-- FREQ_SRC_LOSS (R53): The selected frequency source is lost, raising TIME_FREQ_LOST with the last f_src kept. -/
  | freqSrcLoss
  /-- TRF_CTRL_WRITE (R497): A write of TRF_CTRL changes the reference, restarting its loss timer, or deselects a frequency source and loads integ. -/
  | trfCtrlWrite (r : Requester) (h : Half) (w : Word)
  /-- TRF_BOUND_CFG_WRITE (R58): A write of bound terms raises terms at once and schedules lowered terms for the next marker. -/
  | trfBoundCfgWrite (r : Requester) (h : Half) (w : Word)
  /-- BOUND_LOWER_APPLY (R58): A lowered bound term takes effect at the next 1 µs marker. -/
  | boundLowerApply
  /-- TIME0_READ (R66): A read of TRF_TIME0 or TBU_TIME0 latches the whole time and bound for the upper register. -/
  | time0Read (r : Requester) (unit : Option (Fin 16)) (h : Half)
  /-- ENABLE (R72): PRT_CMD operation that configures a port from PRT_CFG and starts link training. -/
  | enable (i : Fin 16) (l : Fin 64) (r : Requester) (w : Word)
  /-- DISABLE (R73): PRT_CMD operation that aborts reception, finishes the current transmission, idles the port and drops its queue. -/
  | disable (i : Fin 16) (l : Fin 64) (r : Requester) (w : Word)
  /-- LINK_UP (R72): Training, block lock, FEC alignment and deskew complete and LINK_UP rises. -/
  | linkUp (i : Fin 16) (l : Fin 64) (deskew : Nat)
  /-- LINK_DOWN (R74): An enabled port loses its link, ending any frame in transmission with an invalid FCS. -/
  | linkDown (i : Fin 16) (l : Fin 64)
  /-- CAL_VALID_RISE (R85): 1 µs after LINK_UP the calibration entry is filled and CAL_VALID rises. -/
  | calValidRise (i : Fin 16) (l : Fin 64)
  /-- PRT_CAL_ADJ_WRITE (R87): A calibration adjustment write applies to captures more than two cycles later. -/
  | prtCalAdjWrite (i : Fin 16) (l : Fin 64) (r : Requester) (h : Half) (w : Word)
  /-- PAUSE_FRAME_RECEIVED (R77): A received 802.3x PAUSE or PFC frame stops the port or its priorities for the stated quanta. -/
  | pauseFrameReceived (i : Fin 16) (l : Fin 64) (pfc : Option (BitVec 8)) (quanta : List Nat)
  /-- PAUSE_EXPIRY (R77): The received pause time runs out and the port or priority may start frames again. -/
  | pauseExpiry (i : Fin 16) (l : Fin 64)
  /-- PAUSE_FRAME_REPEAT (R79): While pause is asked, the port sends a new pause frame each time half its quanta has passed. -/
  | pauseFrameRepeat (i : Fin 16) (l : Fin 64)
  /-- PREEMPT_VERIFY (R80): A verify exchange of the MAC merge sublayer succeeds or fails, setting or clearing PREEMPT_ACTIVE. -/
  | preemptVerify (i : Fin 16) (l : Fin 64) (good : Bool)
  /-- GLB_HEALTH_WRITE (R90): A write of GLB_HEALTH arms or de-asserts HEALTH_N and restarts the watchdog. -/
  | glbHealthWrite (r : Requester) (h : Half) (w : Word)
  /-- HEALTH_WATCHDOG_EXPIRY (R91): No ARM = 1 write arrives within WDOG_MS and HEALTH_N de-asserts. -/
  | healthWatchdogExpiry
  /-- FRG_FLUSH (R108): FRG_CMD FLUSH removes every fragment entry and releases waiting fragments to the miss action. -/
  | frgFlush (i : Fin 16) (r : Requester) (w : Word)
  /-- PROGRAM_STORE_WRITE (R125): A window write to the staging program bank, invalidating cached lines, or discarded and counted. -/
  | programStoreWrite (i : Fin 16) (r : Requester) (bank : Fin 2) (n : Fin 32768) (h : Half) (w : Word)
  /-- SPAD_WINDOW_ACCESS (R128): A register access to a cluster scratchpad through the indirect window, granted after Quill accesses. -/
  | spadWindowAccess (i : Fin 16) (r : Requester) (c : Fin 16) (n : Fin 8192) (h : Half) (data : Option Word)
  /-- PGM_TRAP_WRITE (R160): A write of PGM_TRAP whose halves are applied only for the staging bank. -/
  | pgmTrapWrite (i : Fin 16) (r : Requester) (h : Half) (w : Word)
  /-- SEQ_MICROWORD (R134): A slice sequencer executes one microword per PCLK cycle. -/
  | seqMicroword (i : Fin 16) (ecc : Fin 3)
  /-- SEQ_TRAP (R134): A micro-trap is taken between microwords, saving state, or halts the sequencer for causes 0 to 3. -/
  | seqTrap (i : Fin 16) (cause : Fin 16)
  /-- NOP (R143): Instruction that does nothing. -/
  | nop (i : Fin 16) (t : Fin 1024) (f : BitVec 56)
  /-- ADD (R143): Instruction d := a + b. -/
  | add (i : Fin 16) (t : Fin 1024) (f : BitVec 56)
  /-- SUB (R143): Instruction d := a − b. -/
  | sub (i : Fin 16) (t : Fin 1024) (f : BitVec 56)
  /-- AND (R143): Instruction d := a AND b. -/
  | and (i : Fin 16) (t : Fin 1024) (f : BitVec 56)
  /-- OR (R143): Instruction d := a OR b. -/
  | or (i : Fin 16) (t : Fin 1024) (f : BitVec 56)
  /-- XOR (R143): Instruction d := a XOR b. -/
  | xor (i : Fin 16) (t : Fin 1024) (f : BitVec 56)
  /-- ANDN (R143): Instruction d := a AND NOT b. -/
  | andn (i : Fin 16) (t : Fin 1024) (f : BitVec 56)
  /-- SHL (R143): Instruction shifting a left by b[5:0]. -/
  | shl (i : Fin 16) (t : Fin 1024) (f : BitVec 56)
  /-- SHR (R143): Instruction shifting a right with zeros in. -/
  | shr (i : Fin 16) (t : Fin 1024) (f : BitVec 56)
  /-- SAR (R143): Instruction shifting a right with bit 63 copied in. -/
  | sar (i : Fin 16) (t : Fin 1024) (f : BitVec 56)
  /-- ROL (R143): Instruction rotating a left by b[5:0]. -/
  | rol (i : Fin 16) (t : Fin 1024) (f : BitVec 56)
  /-- MUL (R143): Instruction d := low 64 bits of a × b. -/
  | mul (i : Fin 16) (t : Fin 1024) (f : BitVec 56)
  /-- MINU (R143): Instruction d := unsigned minimum of a and b. -/
  | minu (i : Fin 16) (t : Fin 1024) (f : BitVec 56)
  /-- MAXU (R143): Instruction d := unsigned maximum of a and b. -/
  | maxu (i : Fin 16) (t : Fin 1024) (f : BitVec 56)
  /-- BSWAP (R143): Instruction reversing the low IMM32 bytes of a. -/
  | bswap (i : Fin 16) (t : Fin 1024) (f : BitVec 56)
  /-- CLZ (R143): Instruction counting leading zero bits of a. -/
  | clz (i : Fin 16) (t : Fin 1024) (f : BitVec 56)
  /-- MOV (R143): Instruction d := b. -/
  | mov (i : Fin 16) (t : Fin 1024) (f : BitVec 56)
  /-- MOVHI (R143): Instruction placing IMM32 in the high half of d over a[31:0]. -/
  | movhi (i : Fin 16) (t : Fin 1024) (f : BitVec 56)
  /-- CMP (R143): Instruction setting flags from a − b. -/
  | cmp (i : Fin 16) (t : Fin 1024) (f : BitVec 56)
  /-- TST (R143): Instruction setting flags from a AND b. -/
  | tst (i : Fin 16) (t : Fin 1024) (f : BitVec 56)
  /-- EXT (R145): Instruction reading a field from the header window or parse record. -/
  | ext (i : Fin 16) (t : Fin 1024) (f : BitVec 56)
  /-- EXTR (R148): Instruction extracting a bit field of a register. -/
  | extr (i : Fin 16) (t : Fin 1024) (f : BitVec 56)
  /-- INS (R148): Instruction inserting a[WM1:0] into a field of d. -/
  | ins (i : Fin 16) (t : Fin 1024) (f : BitVec 56)
  /-- BR (R150): Instruction branching to TARGET. -/
  | br (i : Fin 16) (t : Fin 1024) (f : BitVec 56)
  /-- CALL (R150): Instruction saving PC + 1 in d and branching to TARGET. -/
  | call (i : Fin 16) (t : Fin 1024) (f : BitVec 56)
  /-- JR (R150): Instruction branching to the PC held in a. -/
  | jr (i : Fin 16) (t : Fin 1024) (f : BitVec 56)
  /-- BC (R149): Instruction branching when the flags meet the condition. -/
  | bc (i : Fin 16) (t : Fin 1024) (f : BitVec 56)
  /-- CB (R149): Instruction branching when a and b meet the condition. -/
  | cb (i : Fin 16) (t : Fin 1024) (f : BitVec 56)
  /-- CBI (R149): Instruction branching when a and the immediate meet the condition. -/
  | cbi (i : Fin 16) (t : Fin 1024) (f : BitVec 56)
  /-- BBIT (R149): Instruction branching when a bit of a equals D. -/
  | bbit (i : Fin 16) (t : Fin 1024) (f : BitVec 56)
  /-- BT (R149): Instruction branching when a tag meets the test. -/
  | bt (i : Fin 16) (t : Fin 1024) (f : BitVec 56)
  /-- LD (R151): Instruction loading from the cluster scratchpad. -/
  | ld (i : Fin 16) (t : Fin 1024) (f : BitVec 56)
  /-- ST (R151): Instruction storing to the cluster scratchpad. -/
  | st (i : Fin 16) (t : Fin 1024) (f : BitVec 56)
  /-- SFA (R152): Instruction atomically fetching and adding a scratchpad word. -/
  | sfa (i : Fin 16) (t : Fin 1024) (f : BitVec 56)
  /-- CSRR (R153): Instruction reading a thread CSR. -/
  | csrr (i : Fin 16) (t : Fin 1024) (f : BitVec 56)
  /-- CSRW (R153): Instruction writing a thread CSR. -/
  | csrw (i : Fin 16) (t : Fin 1024) (f : BitVec 56)
  /-- TRAP (R157): Instruction raising exception cause 5 with a code in m12. -/
  | trap (i : Fin 16) (t : Fin 1024) (f : BitVec 56)
  /-- END (R155): Instruction that waits for pending tags and ends the thread, committing copies and record. -/
  | endThread (i : Fin 16) (t : Fin 1024) (f : BitVec 56)
  /-- LKP_EM (R170): Instruction starting an exact-match lookup under a tag. -/
  | lkpEm (i : Fin 16) (t : Fin 1024) (f : BitVec 56)
  /-- LKP_RM (R172): Instruction starting a rule matcher search under a tag. -/
  | lkpRm (i : Fin 16) (t : Fin 1024) (f : BitVec 56)
  /-- LKP_SR (R172): Instruction starting a Session Record read under a tag. -/
  | lkpSr (i : Fin 16) (t : Fin 1024) (f : BitVec 56)
  /-- LKP_COMPLETE (R163): A lookup completes, writing its destinations and setting its tag DONE with a status. -/
  | lkpComplete (i : Fin 16) (t : Fin 1024) (tag : Fin 8) (err : Fin 3)
  /-- WAIT (R165): Instruction blocking the thread until no tag of its mask is PENDING. -/
  | wait (i : Fin 16) (t : Fin 1024) (f : BitVec 56)
  /-- METER (R173): Instruction applying the packet to a meter under a tag. -/
  | meter (i : Fin 16) (t : Fin 1024) (f : BitVec 56)
  /-- METER_COMPLETE (R278): A meter updates its token state and the colour is written with the tag set DONE. -/
  | meterComplete (i : Fin 16) (t : Fin 1024) (tag : Fin 8)
  /-- STAMP_READ_NOW (R184): Instruction reading current slice time and bound into d and d+1. -/
  | stampReadNow (i : Fin 16) (t : Fin 1024) (f : BitVec 56)
  /-- STAMP_INS_RX (R185): Instruction adding an edit that writes the receive capture into the frame. -/
  | stampInsRx (i : Fin 16) (t : Fin 1024) (f : BitVec 56)
  /-- STAMP_INS_TX (R185): Instruction adding an edit that writes each copy's transmit instant into the frame. -/
  | stampInsTx (i : Fin 16) (t : Fin 1024) (f : BitVec 56)
  /-- STAMP_CORR (R186): Instruction adding an edit that adds residence time to a PTP correctionField. -/
  | stampCorr (i : Fin 16) (t : Fin 1024) (f : BitVec 56)
  /-- EDIT_SET (R181): Instruction adding an edit that writes bytes of b into the frame. -/
  | editSet (i : Fin 16) (t : Fin 1024) (f : BitVec 56)
  /-- EDIT_INS (R181): Instruction adding an edit that inserts bytes of b into the frame. -/
  | editIns (i : Fin 16) (t : Fin 1024) (f : BitVec 56)
  /-- EDIT_DEL (R181): Instruction adding an edit that deletes bytes of the frame. -/
  | editDel (i : Fin 16) (t : Fin 1024) (f : BitVec 56)
  /-- EDIT_CSUM_IP4 (R181): Instruction adding an edit that recomputes an IPv4 header checksum. -/
  | editCsumIp4 (i : Fin 16) (t : Fin 1024) (f : BitVec 56)
  /-- EDIT_CSUM_L4 (R182): Instruction adding an edit that adjusts an L4 checksum for earlier changes. -/
  | editCsumL4 (i : Fin 16) (t : Fin 1024) (f : BitVec 56)
  /-- EDIT_TRUNC (R183): Instruction cutting the edit list back to b[5:0] entries. -/
  | editTrunc (i : Fin 16) (t : Fin 1024) (f : BitVec 56)
  /-- SEQ (R175): Instruction requesting a fetch-add on a sequence counter under a tag, optionally ordered. -/
  | seq (i : Fin 16) (t : Fin 1024) (f : BitVec 56)
  /-- SEQ_COMPLETE (R176): A sequence counter performs the fetch-add, once ORD's condition holds, and the tag becomes DONE. -/
  | seqComplete (i : Fin 16) (t : Fin 1024) (tag : Fin 8)
  /-- HASH_FAST (R177): Instruction computing a CRC-64 of one register synchronously. -/
  | hashFast (i : Fin 16) (t : Fin 1024) (f : BitVec 56)
  /-- HASH_SHA (R178): Instruction starting a SHA-256 of header bytes on a digest unit under a tag. -/
  | hashSha (i : Fin 16) (t : Fin 1024) (f : BitVec 56)
  /-- HASH_SHA_COMPLETE (R178): A digest unit finishes a HASH and writes the digest with the tag set DONE. -/
  | hashShaComplete (i : Fin 16) (t : Fin 1024) (tag : Fin 8)
  /-- LEDG (R187): Instruction marking the packet evidential with a record index. -/
  | ledg (i : Fin 16) (t : Fin 1024) (f : BitVec 56)
  /-- MARK (R188): Instruction writing CLASS or COLOUR of m9. -/
  | mark (i : Fin 16) (t : Fin 1024) (f : BitVec 56)
  /-- FRAG (R189): Instruction storing a first fragment's decision in its fragment entry. -/
  | frag (i : Fin 16) (t : Fin 1024) (f : BitVec 56)
  /-- EMIT_QUEUE (R192): Instruction adding a copy toward a device-wide subscriber queue. -/
  | emitQueue (i : Fin 16) (t : Fin 1024) (f : BitVec 56)
  /-- EMIT_PORT (R192): Instruction adding a copy toward a port's default queue for its class. -/
  | emitPort (i : Fin 16) (t : Fin 1024) (f : BitVec 56)
  /-- EMIT_MERGE (R192): Instruction adding a class 7 copy toward a Ligature merge port. -/
  | emitMerge (i : Fin 16) (t : Fin 1024) (f : BitVec 56)
  /-- EMIT_EQX (R192): Instruction adding a class 7 copy toward an Equinox group. -/
  | emitEqx (i : Fin 16) (t : Fin 1024) (f : BitVec 56)
  /-- EMIT_MCAST (R192): Instruction adding a copy toward a multicast list. -/
  | emitMcast (i : Fin 16) (t : Fin 1024) (f : BitVec 56)
  /-- PUNT (R193): Instruction adding a copy toward a host ring of the slice. -/
  | punt (i : Fin 16) (t : Fin 1024) (f : BitVec 56)
  /-- DROP (R195): Instruction that waits for tags, discards every copy and record, and ends the thread with a program code. -/
  | drop (i : Fin 16) (t : Fin 1024) (f : BitVec 56)
  /-- RPLY (R194): Instruction fetching a packet from the replay archive under a tag. -/
  | rply (i : Fin 16) (t : Fin 1024) (f : BitVec 56)
  /-- RPLY_COMPLETE (R194): The archive read completes, adding a copy on OK or reporting NOT_FOUND or TIMEOUT. -/
  | rplyComplete (i : Fin 16) (t : Fin 1024) (tag : Fin 8) (err : Fin 3)
  /-- LEARN (R196): Instruction posting a key and result to the learn queue. -/
  | learn (i : Fin 16) (t : Fin 1024) (f : BitVec 56)
  /-- INSERT (R215): TBL_CMD operation inserting an entry by the cuckoo insertion procedure.  `rd` is as in LOOKUP. -/
  | insert (i : Fin 16) (r : Requester) (rd : Word × Fin 3)
  /-- DELETE (R215): TBL_CMD operation deleting the entry with a key and visibility.  `rd` is as in LOOKUP. -/
  | delete (i : Fin 16) (r : Requester) (rd : Word × Fin 3)
  /-- UPDATE (R215): TBL_CMD operation replacing the result of an entry.  `rd` is as in LOOKUP. -/
  | update (i : Fin 16) (r : Requester) (rd : Word × Fin 3)
  /-- LOOKUP (R215): TBL_CMD operation finding a key in both tiers and returning its entry and location.  `rd` is the word, and the ECC
  error that its read meets (R224, R356): 1 corrected, 2 not. -/
  | lookup (i : Fin 16) (r : Requester) (rd : Word × Fin 3)
  /-- READ_SLOT (R215): TBL_CMD operation reading one slot or Session Record.  `rd` is as in LOOKUP. -/
  | readSlot (i : Fin 16) (r : Requester) (rd : Word × Fin 3)
  /-- WRITE_SLOT (R216): TBL_CMD operation writing or erasing one slot or a staging Session Record.  `rd` is as in LOOKUP. -/
  | writeSlot (i : Fin 16) (r : Requester) (rd : Word × Fin 3)
  /-- FLUSH_STASH (R210): TBL_CMD operation starting a background pass that re-inserts stash entries. -/
  | flushStash (i : Fin 16) (r : Requester) (w : Word)
  /-- FLUSH_STASH_PASS_END (R210): The background stash flush pass ends and FLUSH_NEAR or FLUSH_FAR clears.  `far` is the tier, and
  the ECC error that the pass meets. -/
  | flushStashPassEnd (i : Fin 16) (far : Bool × Fin 3)
  /-- DIGEST_SET (R215): TBL_CMD operation setting a segment's expected digest. -/
  | digestSet (i : Fin 16) (r : Requester) (w : Word)
  /-- DIGEST_READ (R215): TBL_CMD operation reading a segment's computed and expected digest. -/
  | digestRead (i : Fin 16) (r : Requester) (w : Word)
  /-- MIGRATION_END (R205): A seed migration of a tier finishes moving entries and clears MIG_NEAR or MIG_FAR.  `far` is the tier,
  and the ECC error that the migration meets. -/
  | migrationEnd (i : Fin 16) (far : Bool × Fin 3)
  /-- LEARN_REQUEST_PROCESS (R219): The learn engine takes one request and refreshes, inserts or refuses, posting an
  event.  `i` is the slice, and the ECC error that its search meets. -/
  | learnRequestProcess (i : Fin 16 × Fin 3)
  /-- SWEEP_PASS_START (R221): At each SWEEP_PERIOD the sweeper flips parity and starts a pass, counting an overrun if one runs. -/
  | sweepPassStart (i : Fin 16)
  /-- SWEEP_ENTRY (R221): The sweeper examines one entry, correcting ECC, aging learned entries and accumulating digests. -/
  | sweepEntry (i : Fin 16) (far : Bool) (err : Fin 3) (hit : Bool)
  /-- SWEEP_PASS_END (R226): A sweeper pass ends and segment digests are compared or skipped. -/
  | sweepPassEnd (i : Fin 16) (far : Bool)
  /-- ECC_WRITEBACK (R224): The sequencer writes back a corrected single-bit error within 10 µs. -/
  | eccWriteback (i : Fin 16)
  /-- READ_ROW (R240): RMX_CMD operation reading one row of a copy. -/
  | readRow (i : Fin 16) (r : Requester) (w : Word) (err : Fin 3)
  /-- WRITE_ROW (R238): RMX_CMD operation writing one staging row with its group states. -/
  | writeRow (i : Fin 16) (r : Requester) (w : Word)
  /-- RMX_COPY (R237): RMX_CMD COPY making staging rows and bank configuration equal to active. -/
  | rmxCopy (i : Fin 16) (r : Requester) (w : Word)
  /-- CLEAR_BANK (R237): RMX_CMD operation zeroing every staging row of a bank. -/
  | clearBank (i : Fin 16) (r : Requester) (w : Word)
  /-- READ_CFG (R237): RMX_CMD operation reading RMX_BANK and RMX_SIGSEL of any copy. -/
  | readCfg (i : Fin 16) (r : Requester) (w : Word)
  /-- RMX_CFG_WRITE (R239): A write of RMX_BANK or RMX_SIGSEL goes to staging or is discarded outside STAGING. -/
  | rmxCfgWrite (i : Fin 16) (r : Requester) (sig : Bool) (b : Fin 16) (h : Half) (w : Word)
  /-- RMX_SCRUB_PASS (R241): Every 10 ms the sequencer scrubs all rows of the three copies, correcting or fencing errors. -/
  | rmxScrubPass (i : Fin 16) (errs : List (Nat × Nat × Bool)) (overrun : Bool)
  /-- ALLOC (R254): BPM_CMD operation taking a buffer from the smallest fitting pool. -/
  | alloc (i : Fin 16) (r : Requester) (w : Word)
  /-- FREE (R256): BPM_CMD operation freeing a pool buffer after range, double-free and owner checks. -/
  | free (i : Fin 16) (r : Requester) (w : Word)
  /-- QUERY (R264): BPM_CMD operation reporting a cell's state, owner and link. -/
  | query (i : Fin 16) (r : Requester) (w : Word)
  /-- POOL_FORMAT (R255): BPM_CMD operation rebuilding the three pool free lists from BPM_POOL_CFG. -/
  | poolFormat (i : Fin 16) (r : Requester) (w : Word)
  /-- BANK_RETAIN (R262): BPM_CMD operation setting a general bank DRAINING. -/
  | bankRetain (i : Fin 16) (r : Requester) (w : Word)
  /-- BANK_WAKE (R262): BPM_CMD operation returning a DRAINING or retained bank toward ACTIVE. -/
  | bankWake (i : Fin 16) (r : Requester) (w : Word)
  /-- BANK_DRAINED (R262): A DRAINING bank holds no allocated or quarantined cell and enters RETENTION. -/
  | bankDrained (i : Fin 16) (b : Fin 16)
  /-- BANK_WAKE_DONE (R262): A waking bank finishes its 2 µs wake with a rebuilt free list and becomes ACTIVE. -/
  | bankWakeDone (i : Fin 16)
  /-- FREELIST_REBUILD (R250): A broken free list finishes its rebuild and its bank or pool returns to allocation. -/
  | freelistRebuild (i : Fin 16) (k : Fin 17)
  /-- SCH_READ (R283): SCH_CMD operation reading an entry of a bank or gate list. -/
  | schRead (i : Fin 16) (r : Requester) (w : Word)
  /-- SCH_WRITE (R283): SCH_CMD operation writing a staging or PENDING entry. -/
  | schWrite (i : Fin 16) (r : Requester) (w : Word)
  /-- SCH_COPY (R283): SCH_CMD operation making staging scheduler entries equal to active. -/
  | schCopy (i : Fin 16) (r : Requester) (w : Word)
  /-- GCL_SWITCH (R281): SCH_CMD operation scheduling a gate list switch at a time or at the pending commit. -/
  | gclSwitch (i : Fin 16) (r : Requester) (w : Word)
  /-- GCL_CANCEL (R283): SCH_CMD operation removing a scheduled gate list switch. -/
  | gclCancel (i : Fin 16) (r : Requester) (w : Word)
  /-- GCL_SWITCH_TIME (R281): Slice time reaches SWITCH_TIME and the PENDING gate list becomes ACTIVE. -/
  | gclSwitchTime (i : Fin 16)
  /-- GATE_BOUNDARY (R279): Slice time reaches a gate list interval boundary and the gates change state. -/
  | gateBoundary (i : Fin 16) (l : Fin 64)
  /-- MCL_READ (R500): MCL_CMD operation reading a multicast list entry. -/
  | mclRead (i : Fin 16) (r : Requester) (w : Word)
  /-- MCL_WRITE (R500): MCL_CMD operation writing a multicast list entry. -/
  | mclWrite (i : Fin 16) (r : Requester) (w : Word)
  /-- MERGE_ENTRY_DUE (R288): Egress slice time reaches TS + H and a merge entry becomes due. -/
  | mergeEntryDue (i : Fin 16) (l : Fin 64)
  /-- LIG_CFG_WRITE (R310): A write of a merge port's configuration is applied or discarded and counted. -/
  | ligCfgWrite (i : Fin 16) (r : Requester) (l : Fin 64) (h : Half) (w : Word)
  /-- SCHEDULE (R300): LIG_SEED_CMD operation scheduling the next Ligature seed at SWITCH_TIME. -/
  | schedule (r : Requester) (w : Word)
  /-- CANCEL (R300): LIG_SEED_CMD operation cancelling a pending seed switch. -/
  | cancel (r : Requester) (w : Word)
  /-- SEED_SWITCH (R300): SWITCH_TIME is reached and the next seed takes force with CUR_EPOCH incremented. -/
  | seedSwitch
  /-- SEED_ERASE (R300): A slice erases the previous seed once 10 µs have passed and no earlier packet is uncommitted. -/
  | seedErase (i : Fin 16)
  /-- EQX_READ (R311): EQX_CMD operation reading an Equinox group entry. -/
  | eqxRead (i : Fin 16) (r : Requester) (w : Word)
  /-- EQX_WRITE (R311): EQX_CMD operation writing an Equinox group entry. -/
  | eqxWrite (i : Fin 16) (r : Requester) (w : Word)
  /-- EQX_RELEASE_START (R303): At S = T − TX_DELAY − preamble the port starts an Equinox copy so its delimiter crosses at T. -/
  | eqxReleaseStart (i : Fin 16) (l : Fin 64)
  /-- MERGE_REPORT_ARRIVAL (R315): A merge release report reaches the ingress Copybook unit, completing or following a record. -/
  | mergeReportArrival (i : Fin 16)
  /-- REPORT_WAIT_EXPIRY (R315): REPORT_WAIT passes with a report missing and the record is written with an OUTCOME TIMEOUT record. -/
  | reportWaitExpiry (i : Fin 16)
  /-- SEAL_TICK (R326): At a seal tick every slice closes its open block and the signer starts or skips a seal. -/
  | sealTick
  /-- SEAL_SIGNED (R327): Signing completes and the seal is delivered to the host ring and the Scribe buffer. -/
  | sealSigned
  /-- BLOCK_CLOSE_DONE (R322): The sequencer completes a block close, hashing it as the new chain head. -/
  | blockCloseDone (i : Fin 16)
  /-- BLOCK_DRAIN_DMA (R325): A closed block's DMA to DRAIN_RING completes and it counts as taken by HOST.  `errs` lists the bursts of the
  block that are read with a corrected error, and with one that is not (R326, R356). -/
  | blockDrainDma (i : Fin 16) (errs : List Nat × List Nat)
  /-- SCRIBE_RELEASE (R331): CPB_CMD operation marking blocks up to CPB_ARG taken by the SCRIBE path. -/
  | scribeRelease (i : Fin 16) (r : Requester) (w : Word)
  /-- CPB_CFG_WRITE (R325): A write of CPB_CFG changes policy and drain paths or is discarded and counted. -/
  | cpbCfgWrite (i : Fin 16) (r : Requester) (h : Half) (w : Word)
  /-- CPB_SEAL_CFG_WRITE (R332): A write of seal configuration, discarded for an out-of-range INTERVAL. -/
  | cpbSealCfgWrite (r : Requester) (h : Half) (w : Word)
  /-- STAGE_OPEN (R341): FOL_CMD operation allocating a staged epoch and starting the opening steps. -/
  | stageOpen (r : Requester) (w : Word)
  /-- STAGING_READY (R341): The opening steps complete and Folio enters STAGING. -/
  | stagingReady
  /-- COMMIT (R342): FOL_CMD operation scheduling a commit at time T. -/
  | commit (r : Requester) (w : Word)
  /-- ROLLBACK (R346): FOL_CMD operation scheduling a switch back to the previous epoch at T. -/
  | rollback (r : Requester) (w : Word)
  /-- ABORT (R347): FOL_CMD operation closing staging or cancelling a pending switch. -/
  | abort (r : Requester) (w : Word)
  /-- SLICE_ARMED (R342): A slice sequencer loads the new dispatch records and comparator and sets ARMED. -/
  | sliceArmed (i : Fin 16)
  /-- ARM_DEADLINE (R339): 20 µs before T any unarmed slice fails the switch and Folio returns to STAGING or IDLE. -/
  | armDeadline
  /-- FOLIO_SWITCH (R344): Slice time reaches T and the slice rotates its bank roles and active epoch. -/
  | folioSwitch (i : Fin 16)
  /-- SLICE_DRAINED (R345): A slice holds no packet of the old epoch after T + 1 µs and sets DRAINED, ending DRAINING when all have. -/
  | sliceDrained (i : Fin 16)
  /-- COHERENCE_CHECK (R349): Every 1 µs the monitor compares slice epochs, time and fence state and raises mismatches. -/
  | coherenceCheck
  /-- FOL_TIME_WRITE (R352): A write of FOL_TIME0 or FOL_TIME1, discarded and counted while PENDING. -/
  | folTimeWrite (r : Requester) (one : Bool) (h : Half) (w : Word)
  /-- FOL_SLICE_REG_WRITE (R353): A write of a slice's seed staging registers, discarded outside STAGING. -/
  | folSliceRegWrite (i : Fin 16) (r : Requester) (k : Fin 5) (h : Half) (w : Word)
  /-- INIT (R358): DRM_CMD operation reading SPD, taking regions and masks and starting training. -/
  | init (i : Fin 16) (r : Requester) (w : Word) (spd : Option Word)
  /-- SET_SPEED (R360): DRM_CMD operation changing, or holding pending, the channel speed. -/
  | setSpeed (i : Fin 16) (r : Requester) (w : Word)
  /-- DRAM_QUEUE_DRAINED (R360): The controller completes its queued accesses and enters self-refresh for a speed change. -/
  | dramQueueDrained (i : Fin 16)
  /-- TRAIN_SWEEP_DONE (R359): The training sweep of all ranks completes and the channel becomes READY, FAILED or relocks. -/
  | trainSweepDone (i : Fin 16) (rd : List (BitVec 128)) (wr : List (BitVec 128))
  /-- PHY_RELOCK (R357): The PHY relocks at the pending speed and training restarts. -/
  | phyRelock (i : Fin 16)
  /-- DRAM_TRACKING_STEP (R363): Every 128 ms per rank the controller recentres delays and may raise DRM_DRIFT. -/
  | dramTrackingStep (i : Fin 16) (rank : Fin 2) (centres : List (Nat × Nat))
  /-- DRAM_REFRESH (R354): A refresh falls due and a same-bank or all-bank refresh is issued.  `at_` is the bank, and how many of the
  commands that the channel sent since the last one were repeated after a parity error (R354). -/
  | dramRefresh (i : Fin 16) (rank : Fin 2) (at_ : Fin 32 × Fin 16)
  /-- ROW_CLOSE_IDLE (R364): A bank idle for CLOSE_IDLE cycles closes its open row. -/
  | rowCloseIdle (i : Fin 16) (rank : Fin 2) (bank : Fin 64)
  /-- RANK_POWER_DOWN (R369): A rank idle for PD_IDLE cycles enters power-down. -/
  | rankPowerDown (i : Fin 16) (rank : Fin 2)
  /-- ARCHIVE_SLOT_WRITTEN (R375): A replay slot write completes and its number becomes findable. -/
  | archiveSlotWritten (i : Fin 16)
  /-- RPL_GROUP_WRITE (R376): A write of an archive group's registers is applied or discarded and counted. -/
  | rplGroupWrite (i : Fin 16) (r : Requester) (g : Fin 256) (one : Bool) (h : Half) (w : Word)
  /-- HOST_REQUEST (R385): A host TLP to BAR0 or BAR2 is translated by its window and checked for ownership. -/
  | hostRequest (pf : Fin 16) (bar : Fin 2) (addr : Nat) (len : Nat) (data : Option (List Byte)) (err : Fin 3)
  /-- MSIX_ACCESS (R479): A host access to the MSI-X table or PBA in BAR4. -/
  | msixAccess (pf : Fin 16) (off : Fin 65536) (len : Nat) (data : Option (List Byte))
  /-- WIN_WRITE (R387): HST_CMD operation replacing a window entry of a PF. -/
  | winWrite (r : Requester) (w : Word)
  /-- WIN_READ (R387): HST_CMD operation reading a window entry into the data registers. -/
  | winRead (r : Requester) (w : Word)
  /-- WIN_FLUSH_DONE (R387): Every request under a replaced window entry has finished and WIN_FLUSHED rises. -/
  | winFlushDone
  /-- SET_OWNER (R403): HST_CMD operation giving a slice in RETENTION to a PF. -/
  | setOwner (r : Requester) (w : Word)
  /-- RELEASE (R402): HST_CMD operation ending the freeze of a link and stopping its frozen rings. -/
  | release (r : Requester) (w : Word)
  /-- RNG_CFG_WRITE (R390): A write of a ring's configuration that starts or stops it, discarded while RUNNING unless it clears EN. -/
  | rngCfgWrite (i : Fin 16) (r : Requester) (q : Fin 256) (h : Half) (w : Word)
  /-- RNG_TAIL_WRITE (R390): The host posts descriptors by writing TAIL, or sends the ring to ERROR if out of range. -/
  | rngTailWrite (i : Fin 16) (r : Requester) (q : Fin 256) (h : Half) (w : Word)
  /-- RX_ITEM_DELIVER (R391): An RX item is written into the buffer at HEAD and its completion written back. -/
  | rxItemDeliver (i : Fin 16) (q : Fin 256)
  /-- TX_DESCRIPTOR_PROCESS (R394): A TX descriptor's frame is fetched into a pool buffer and injected as PORT or PROGRAM. -/
  | txDescriptorProcess (i : Fin 16) (q : Fin 256)
  /-- RING_COALESCE_TIMEOUT (R393): COAL_US passes after the first unsignalled completion and the ring's vector is sent. -/
  | ringCoalesceTimeout (i : Fin 16) (q : Fin 256)
  /-- COMPLETION_RECEIVED (R399): A completion arrives for a device read and is delivered, discarded as late or treated as unexpected. -/
  | completionReceived (l : Fin 5) (tag : Fin 16384) (status : Fin 4) (data : List Byte)
  /-- COMPLETION_TIMEOUT (R398): A read lacks its completions after CTO_US, its tag is quarantined and the link freezes. -/
  | completionTimeout (tag : Fin 16384)
  /-- QUARANTINE_EXPIRY (R398): A quarantined tag is freed 2 × CTO_US after its timeout. -/
  | quarantineExpiry (tag : Fin 16384)
  /-- TAGS_EXHAUSTED (R407): A requester has waited 1 ms for a read tag and HST_TAGS_EXHAUSTED is raised. -/
  | tagsExhausted (i : Fin 16) (q : Fin 256)
  /-- LINK_FREEZE (R400): An uncorrectable AER error or Surprise Down freezes the link and its rings. -/
  | linkFreeze (l : Fin 4) (pf : Fin 16) (cause : Fin 16)
  /-- FUNCTION_LEVEL_RESET (R405): An FLR of a PF stops the rings of its slices and clears its MSI-X state. -/
  | functionLevelReset (pf : Fin 16)
  /-- LINK_RESET (R472): PERST_N or a hot reset resets a link's PFs, applies HST_PF_MAP and ends its freeze. -/
  | linkReset (l : Fin 4)
  /-- SCRIBE_BOOT (R412): After a Scribe reset the boot ROM verifies both firmware slots and starts the best valid image. -/
  | scribeBoot
  /-- SCRIBE_WATCHDOG_EXPIRY (R409): The Scribe's 1 s watchdog expires and the Scribe domain resets. -/
  | scribeWatchdogExpiry
  /-- KEY_DERIVE (R416): The Scribe derives the seal key into the secure scratchpad and SIGNER_READY rises. -/
  | keyDerive
  /-- TAMPER_PIN (R418): An enabled TAMPER_N input stays low for 1 µs, recording a tamper event and zeroising.
  `p` is the pin, and whether it has been low for 1 µs or is high again. -/
  | tamperPin (p : Fin 2 × Bool)
  /-- VOLTAGE_GLITCH (R418): VDD_SCR or the core rail leaves ±10% for 20 ns, recording a tamper event and zeroising. -/
  | voltageGlitch
  /-- CLOCK_GLITCH (R418): SCLK departs more than 5% while locked, recording a tamper event and zeroising. -/
  | clockGlitch
  /-- SEND (R425): SCB_MBX_CMD operation submitting the mailbox message to the Scribe. -/
  | send (r : Requester) (w : Word)
  /-- MBX_DATA_WRITE (R434): A write to SCB_MBX_DATA, discarded and counted while BUSY. -/
  | mbxDataWrite (r : Requester) (k : Fin 192) (h : Half) (w : Word)
  /-- SCRIBE_MESSAGE_RECEIVE (R427): A Scribe message arrives by UDP or MCTP and is authenticated, queued or discarded.
  `path` is 0 for UDP, with the destination port of the datagram, and 1 for MCTP, whose packets `bytes` holds one after another. -/
  | scribeMessageReceive (path : Fin 2 × Fin 65536) (bytes : List Byte)
  /-- HELLO (R429): Scribe opcode returning BOOT_NONCE, life-cycle state and versions. -/
  | hello
  /-- REG_READ (R2): Scribe opcode reading registers by offset. -/
  | regRead
  /-- REG_WRITE (R2): Scribe opcode writing one register by offset. -/
  | regWrite
  /-- FAULT_READ (R449): Scribe opcode returning a fault unit's history queue. -/
  | faultRead
  /-- CPB_READ (R429): Scribe opcode reading bytes of a Copybook block. -/
  | cpbRead
  /-- CPB_RELEASE (R331): Scribe opcode running SCRIBE_RELEASE for a slice. -/
  | cpbRelease
  /-- SEAL_READ (R327): Scribe opcode reading a seal from the seal buffer. -/
  | sealRead
  /-- CERT_READ (R328): Scribe opcode reading the device certificate. -/
  | certRead
  /-- LINK_RELEASE (R402): Scribe opcode running RELEASE for a link. -/
  | linkRelease
  /-- LC_TRANSITION_FIELD (R415): Scribe opcode moving PROVISIONED to FIELD and burning the management key. -/
  | lcTransitionField
  /-- LC_TRANSITION_RETURNED (R415): Scribe opcode moving the device to RETURNED and erasing its keys. -/
  | lcTransitionReturned
  /-- TAMPER_CLEAR (R419): Scribe opcode acknowledging one tamper event in OTP. -/
  | tamperClear (low : BitVec 2)
  /-- PROVISION (R415): Scribe opcode drawing and burning the device seed and deriving the seal key. -/
  | provision
  /-- CERT_WRITE (R415): Scribe opcode burning the device certificate and moving to PROVISIONED. -/
  | certWrite
  /-- NOTIFY_SET (R430): Scribe opcode setting the NOTIFY destination and class mask. -/
  | notifySet
  /-- FW_WRITE (R414): Scribe opcode writing the idle firmware slot or the microcode region. -/
  | fwWrite
  /-- FW_COMMIT_SVN (R414): Scribe opcode raising MIN_SVN to the running image's SVN. -/
  | fwCommitSvn
  /-- MCU_RELOAD (R413): Scribe opcode reloading microcode into EMPTY or HALTED sequencers. -/
  | mcuReload
  /-- SCRIBE_RESET (R409): Scribe opcode that responds and then resets the Scribe domain. -/
  | scribeReset
  /-- SET_ENDPOINT_ID (R424): MCTP control command assigning the endpoint's EID. -/
  | setEndpointId (op : Fin 256) (eid : Fin 256)
  /-- GET_ENDPOINT_ID (R424): MCTP control command returning the endpoint's EID. -/
  | getEndpointId
  /-- GET_MCTP_VERSION_SUPPORT (R424): MCTP control command returning supported versions. -/
  | getMctpVersionSupport
  /-- GET_MESSAGE_TYPE_SUPPORT (R424): MCTP control command returning supported message types. -/
  | getMessageTypeSupport
  /-- GET_VENDOR_DEFINED_MSG_SUPPORT (R424): MCTP control command returning vendor-defined message support. -/
  | getVendorDefinedMsgSupport
  /-- ARP_REQUEST (R423): The management Ethernet answers an ARP request. -/
  | arpRequest (mac : List Byte) (ip : List Byte) (target : List Byte)
  /-- ECHO_REQUEST (R423): The management Ethernet answers an ICMP or ICMPv6 echo request.  `v6`: whether it
  is ICMPv6, and the address that asked. -/
  | echoRequest (v6 : Bool × List Byte) (body : List Byte)
  /-- NEIGHBOUR_DISCOVERY (R423): The management Ethernet answers IPv6 neighbour discovery.  `target`: the address asked
  for, and the address that asked. -/
  | neighbourDiscovery (target : List Byte × List Byte)
  /-- ALERT_RESPONSE (R430): The Scribe answers the SMBus Alert Response Address with its address. -/
  | alertResponse
  /-- APPLY (R433): PMX_CMD operation checking and applying the staged pin and timer assignment. -/
  | apply (r : Requester) (w : Word)
  /-- PPS_OUT_PULSE (R432): At each whole TAI second a PPS_OUT pin drives its pulse. -/
  | ppsOutPulse (f : Fin 2)
  /-- GATE_TRIG_PULSE (R432): At each gate list cycle start a GATE_TRIG pin drives its pulse. -/
  | gateTrigPulse (g : Fin 4)
  /-- FAULT_RAISE (R437): A fault source rises, setting SEEN and ACTIVE and applying its reaction. -/
  | faultRaise (unit : Fin 17) (id : Fin 4096) (syn : Nat)
  /-- FAULT_AUTO_LIFT (R444): LIVE has been 0 for QUIET µs with AUTO set and the source is lifted. -/
  | faultAutoLift (unit : Fin 17) (id : Fin 4096)
  /-- FLT_SRC_WRITE (R445): A write of a source's configuration, FORCE or CLEAR, lifting or refusing as judged. -/
  | fltSrcWrite (r : Requester) (unit : Fin 17) (id : Fin 4096) (h : Half) (w : Word)
  /-- FAULT_INTERRUPT_DEFERRED (R451): The 10 µs interval ends and a deferred fault interrupt is sent. -/
  | faultInterruptDeferred (unit : Fin 17)
  /-- FLT_HIST_READ (R450): A read of word 0 of a history entry latches words 1 and 2. -/
  | fltHistRead (r : Requester) (unit : Fin 17) (entry : Fin 64) (h : Half)
  /-- PMC_INT_DEFERRED (R456): The 10 µs interval ends and a deferred overflow interrupt is sent. -/
  | pmcIntDeferred (i : Fin 16)
  /-- PMC_SMP0_READ (R459): A read of PMC_SMP0 removes the oldest sample record and latches its other words. -/
  | pmcSmp0Read (i : Fin 16) (r : Requester) (h : Half)
  /-- PMC_CFG_WRITE (R458): A write of a counter configuration, discarded if it sets SAMPLE for an unsampled event. -/
  | pmcCfgWrite (i : Fin 16) (r : Requester) (k : Fin 16) (h : Half) (w : Word)
  /-- TALLY_TICK (R460): At a Tally tick every listed register is latched for a snapshot, or the tick is skipped. -/
  | tallyTick
  /-- TALLY_SNAPSHOT_DONE (R462): A snapshot's values and header are written to host memory and HEAD advances. -/
  | tallySnapshotDone
  /-- TALLY_REG_WRITE (R461): A write of a Tally register, discarded while EN is 1 unless it only clears EN. -/
  | tallyRegWrite (r : Requester) (k : Fin 8192) (h : Half) (w : Word)
  /-- VDD_SCR_POWER_UP (R466): VDD_SCR reaches tolerance and the Scribe domain powers on. -/
  | vddScrPowerUp (straps : Word)
  /-- PWR_OK_RISE (R463): PWR_OK rises, core straps are latched and the root PLL may lock. -/
  | pwrOkRise (straps : Word)
  /-- PWR_OK_FALL (R464): PWR_OK falls and the core goes to OFF with transmitters idle. -/
  | pwrOkFall
  /-- CORE_RAIL_LOW (R464): A core rail falls below its minimum while PWR_OK is high, raising CORE_SUPPLY. -/
  | coreRailLow (rail : Fin 4096)
  /-- ROOT_PLL_LOCK (R468): With power good the root PLL locks and the core moves from OFF to HELD. -/
  | rootPllLock
  /-- RESET_N (R466): RESET_N held low for 1 µs causes a device reset. -/
  | resetN (straps : Word)
  /-- START (R469): GLB_RST_CMD operation starting the core from HELD.  `w` is the word, and whether every junction sensor reads at
  least 10 °C below the trip limit. -/
  | start (r : Requester) (w : Word × Bool)
  /-- START_COMPLETE (R470): Arrays are cleared, time started and microcode loaded, and the core reaches UP. -/
  | startComplete
  /-- CORE_RESET (R471): GLB_RST_CMD operation resetting the core domain to HELD. -/
  | coreReset (r : Requester) (w : Word)
  /-- DEVICE_RESET (R471): GLB_RST_CMD operation resetting the core and resampling straps. -/
  | deviceReset (r : Requester) (w : Word)
  /-- AUTO_START (R475): With AUTO_START strapped the Scribe writes START once START_READY and the thermal check hold. -/
  | autoStart
  /-- THERMAL_TRIP (R487): A sensor reads above 115 °C for 10 µs and the fatal source THERMAL_TRIP rises. -/
  | thermalTrip (sensor : Fin 17)
  /-- SHAPER_ELIGIBLE (R275): A shaper's token count grows back to zero, so its queue or service becomes eligible and an idle port may start a frame. -/
  | shaperEligible (i : Fin 16) (l : Fin 64)
  /-- FRG_FLUSH_DONE (R108): The fragment table FLUSH finishes within 4 µs, BUSY falls, and inserts and hits resume. -/
  | frgFlushDone (i : Fin 16)
  /-- POOL_FORMAT_DONE (R255): POOL_FORMAT finishes rebuilding the pool free lists and pool requests stop finding their pools empty. -/
  | poolFormatDone (i : Fin 16)
  /-- FRAGMENT_ENTRY_EXPIRY (R107): A fragment entry reaches its creation time plus LIFETIME, expires and leaves OCCUPANCY. -/
  | fragmentEntryExpiry (i : Fin 16) (place : Fin 4096)
  /-- TABLE_COMMAND_TIMEOUT (R217): A Far table command that could not start within 1 ms returns TIMEOUT before its first write. -/
  | tableCommandTimeout (i : Fin 16)
  /-- PCIE_LINK_UP (R402): A host link finishes training and DL_Active rises, which makes RELEASE and DMA on that link possible again. -/
  | pcieLinkUp (l : Fin 4) (width : Fin 17) (speed : Fin 7) (flit : Bool)
  /-- PCIE_LINK_DOWN (R381): A host link leaves DL_Active while no PF of it is in D0, and HST_PF_MAP is applied to the link. -/
  | pcieLinkDown (l : Fin 4)
  /-- CONFIGURATION_REQUEST (R382): A host configuration read or write to a PF's configuration header or capabilities, such as BARs, MSI-X, power state or AER status. -/
  | configurationRequest (pf : Fin 16) (off : Fin 4096) (data : Option (BitVec 4 × BitVec 32))
  /-- FREQ_SRC_RETURN (R53): A lost 10 MHz or SyncE frequency source returns, and the TIME_FREQ_LOST condition stops holding. -/
  | freqSrcReturn
  deriving DecidableEq, Repr

end Sys2Proof
end

