-- ==== Sys2Proof/Decode.lean ====
section
/-!
DEFINITION. Words that spell commands: none.  The opcode table gives the rows of this block no bits.
-/
namespace Sys2Proof

/-- The command that a table word spells: no row has bits, so there is none. -/
def decodeTableWord (_nbits _w : Nat) : Option Instr := none

end Sys2Proof
end

