-- ==== Sys2Proof/Config.lean ====
section
/-!
DEFINITION. What an implementation fixes and the free values.  Every constant here has no body: nothing can evaluate it,
so a statement that holds does so whatever its value is.
-/
namespace Sys2Proof

/-- The `n`-th free value drawn by a step: a value that the spec leaves open (log 2). -/
opaque Config.free : Nat → Nat
/-- Fused factory calibration of a lane in a mode: receive delay, transmit delay (1/16 ns) (Table 03.9, log 12). -/
opaque Config.factoryRx : Nat → Nat → Nat
opaque Config.factoryTx : Nat → Nat → Nat
/-- The compensated tree's leg delay to a slice in 1/256 ns, at most 10 ns (Table 02.8, log 13). -/
opaque Config.legDelay : Nat → Fin 2561
/-- The micro-ALU and the conditions of the slice sequencer, whose codes the spec does not give (Table 04.10, log 14):
result and flags from the ALU field and the operands; whether a condition code holds in a slice's state. -/
opaque Config.microAlu : Word → Word → Word → Word
opaque Config.microFlags : Word → Word → Word → Nat → Nat
opaque Config.microDest : Word → Nat
opaque Config.microCond : Nat → Nat → Bool
opaque Config.microOperand : Nat → Bool

/-- The ring size used for a LOG2_SIZE outside 6 to 16 (Table 15.5, log 16). -/
opaque Config.ringLog2 : Nat → Nat

/-- The device serial number, fused (Table 16.4), and the 256-bit device seed that an index names (R415, R416, log 21). -/
opaque Config.serial : Word
opaque Config.deviceSeed : Nat → BitVec 256
/-- Sothal's firmware public key in SEC1 form, which the boot ROM holds (R412); the public key that a certificate binds (log 21). -/
opaque Config.firmwareKey : List Byte
opaque Config.certKey : List Byte → List Byte
/-- Board data that the Scribe loads from the flash: Subsystem IDs of the PFs, management addresses, SMBus address (R382, R423,
R430, log 23). -/
opaque Config.subsystem : Nat
opaque Config.mgtMac : List Byte
opaque Config.mgtIp4 : List Byte
opaque Config.mgtIp6 : List Byte
opaque Config.smbusAddr : Byte

end Sys2Proof
end

