-- ==== Sys2Proof/Machine/Bits.lean ====
section
/-!
DEFINITION. Bit fields, byte orders and small arithmetic used by every block.  Bit ranges are the spec's [high:low].
-/
namespace Sys2Proof.Machine
open Sys2Proof

/-- Bits [hi:lo] of a number. -/
def bitsOf (n hi lo : Nat) : Nat := n / 2 ^ lo % 2 ^ (hi + 1 - lo)
/-- Field [hi:lo] of a word. -/
def fld (w : Word) (hi lo : Nat) : Nat := bitsOf w.toNat hi lo
/-- Bit `i` of a word. -/
def bitAt (w : Word) (i : Nat) : Bool := w.toNat / 2 ^ i % 2 == 1
/-- The ones of bits [hi:lo]. -/
def maskOf (hi lo : Nat) : Word := word ((2 ^ (hi + 1 - lo) - 1) * 2 ^ lo)
/-- A word with field [hi:lo] replaced by the low bits of `v`. -/
def setFld (w : Word) (hi lo v : Nat) : Word :=
  (w &&& ~~~ maskOf hi lo) ||| word (v % 2 ^ (hi + 1 - lo) * 2 ^ lo)
/-- A word built from (high, low, value) fields that do not overlap; every other bit is 0. -/
def pack (fs : List (Nat × Nat × Nat)) : Word :=
  word (fs.foldl (fun a f => a + f.2.2 % 2 ^ (f.1 + 1 - f.2.1) * 2 ^ f.2.1) 0)
/-- 1 for true, 0 for false. -/
def b2n (b : Bool) : Nat := if b then 1 else 0
/-- The signed value of the low `n` bits. -/
def sxNat (n v : Nat) : Int :=
  let m := v % 2 ^ n
  if m < 2 ^ (n - 1) then (m : Int) else (m : Int) - (2 ^ n : Nat)
/-- The two's complement image of an integer in `n` bits. -/
def twos (n : Nat) (i : Int) : Nat := (i % ((2 ^ n : Nat) : Int)).toNat
/-- An integer held within [-lim, lim]. -/
def clampInt (i lim : Int) : Int := if i > lim then lim else if i < -lim then -lim else i
/-- Division rounding up. -/
def ceilDiv (a b : Nat) : Nat := (a + b - 1) / b
/-- A value no larger than the all-ones value of `n` bits: how a saturating field of `n` bits stores it. -/
def satN (n v : Nat) : Nat := min v (2 ^ n - 1)

/-- `n` bytes of a number, least significant first (R43). -/
def bytesLE : Nat → Nat → List Byte
  | 0, _ => []
  | n + 1, v => byte v :: bytesLE n (v / 256)
/-- `n` bytes of a number, most significant first. -/
def bytesBE (n v : Nat) : List Byte := (bytesLE n v).reverse
/-- The number whose bytes, least significant first, are given. -/
def ofBytesLE : List Byte → Nat
  | [] => 0
  | b :: bs => b.toNat + 256 * ofBytesLE bs
/-- The number whose bytes, most significant first, are given. -/
def ofBytesBE (bs : List Byte) : Nat := ofBytesLE bs.reverse

/-- Byte `i` of a list, 0 beyond its end. -/
def byteAt (bs : List Byte) (i : Nat) : Byte := (bs[i]?).getD 0
/-- `n` bytes from `off`, 0 beyond the end. -/
def slice (bs : List Byte) (off n : Nat) : List Byte := (List.range n).map (fun k => byteAt bs (off + k))
/-- Bytes `new` written over `bs` at `off`; bytes past the end are not written. -/
def overlay (bs : List Byte) (off : Nat) (new : List Byte) : List Byte :=
  bs.take off ++ (new.take (bs.length - off)) ++ bs.drop (off + new.length)
/-- A list cut or filled with zero bytes to `n`. -/
def padTo (n : Nat) (bs : List Byte) : List Byte := bs.take n ++ List.replicate (n - bs.length) 0

/-- Number of ones among the low `n` bits. -/
def onesIn : Nat → Nat → Nat
  | 0, _ => 0
  | n + 1, v => v % 2 + onesIn n (v / 2)
/-- Index of the lowest one among the low `n` bits, `n` when there is none. -/
def lowestOne (n v : Nat) : Nat := (List.range n).findIdx (fun i => v / 2 ^ i % 2 == 1)
/-- The positions of the ones among the low `n` bits, ascending. -/
def onesList (n v : Nat) : List Nat := (List.range n).filter (fun i => v / 2 ^ i % 2 == 1)

/-- One step of a reflected CRC over one bit. -/
def crcStep (poly crc : Nat) : Nat := if crc % 2 == 1 then (crc / 2) ^^^ poly else crc / 2
/-- Eight bit steps of a reflected CRC. -/
def crcByte (poly crc : Nat) (b : Byte) : Nat :=
  Nat.repeat (crcStep poly) 8 (crc ^^^ b.toNat)
/-- CRC-32C (Castagnoli, reflected polynomial 0x82F63B78, initial and final inversion). -/
def crc32c (bs : List Byte) : Nat := bs.foldl (crcByte 0x82F63B78) 0xFFFFFFFF ^^^ 0xFFFFFFFF
/-- CRC-32 of IEEE 802.3 (reflected polynomial 0xEDB88320), the Ethernet FCS. -/
def crc32 (bs : List Byte) : Nat := bs.foldl (crcByte 0xEDB88320) 0xFFFFFFFF ^^^ 0xFFFFFFFF

/-- The sum of a list of numbers. -/
def sumNat (l : List Nat) : Nat := l.foldl (· + ·) 0

end Sys2Proof.Machine
end

