-- ==== Sys2Proof/Machine/Hash.lean ====
section
/-!
DEFINITION. SHA-256 and SHA-384 (FIPS 180-4) and HMAC over SHA-256, for digests, blocks, seals and messages.
-/
namespace Sys2Proof.Machine
open Sys2Proof

-- Constants, from their definition: bits of the fractional parts of roots of primes (FIPS 180-4, 4.2 and 5.3) -----------

/-- `r`, a multiple of 2^b, with its lower `b` bits set as high as its `n`-th power stays at most `x`. -/
def rootBits (n x : Nat) : Nat → Nat → Nat
  | 0, r => r
  | b + 1, r => rootBits n x b (if (r + 2 ^ b) ^ n ≤ x then r + 2 ^ b else r)
/-- The first 64 bits of the fractional part of the `n`-th root of `p`, for a root below 64. -/
def rootFrac (n p : Nat) : Nat := rootBits n (p * 2 ^ (64 * n)) 70 0 % 2 ^ 64
/-- The 80 primes below 410. -/
def smallPrimes : List Nat :=
  (List.range 410).filter (fun p => decide (1 < p) && (List.range 19).all (fun d => decide (p % (d + 2) ≠ 0 ∨ p = d + 2)))

-- The two functions of one scheme --------------------------------------------------------------------------------------

/-- What distinguishes SHA-256 from SHA-384: the word's width, the number of rounds, the rotations of the four sigma functions and the
shifts of the two that extend the message, the primes whose square roots start the hash value. -/
structure ShaKind where
  bits   : Nat
  rounds : Nat
  big0   : List Nat
  big1   : List Nat
  ext0   : List Nat × Nat
  ext1   : List Nat × Nat
  from_  : Nat

def sha256Kind : ShaKind :=
  { bits := 32, rounds := 64, big0 := [2, 13, 22], big1 := [6, 11, 25], ext0 := ([7, 18], 3), ext1 := ([17, 19], 10), from_ := 0 }
def sha384Kind : ShaKind :=
  { bits := 64, rounds := 80, big0 := [28, 34, 39], big1 := [14, 18, 41], ext0 := ([1, 8], 7), ext1 := ([19, 61], 6), from_ := 8 }

/-- The upper bits of a 64-bit constant that a word holds. -/
def ShaKind.top (z : ShaKind) (x : Nat) : Nat := x / 2 ^ (64 - z.bits)
/-- The round constants, and the hash value before the first block. -/
def ShaKind.consts (z : ShaKind) : List Nat := (smallPrimes.take z.rounds).map (fun p => z.top (rootFrac 3 p))
def ShaKind.start (z : ShaKind) : List Nat := ((smallPrimes.drop z.from_).take 8).map (fun p => z.top (rootFrac 2 p))
/-- The exclusive or of a word's rotations right by each of `rs`, and of `y`. -/
def ShaKind.mix (z : ShaKind) (x : Nat) (rs : List Nat) (y : Nat) : Nat :=
  rs.foldl (fun a r => a ^^^ (x / 2 ^ r + x % 2 ^ r * 2 ^ (z.bits - r))) y
def ShaKind.ext (z : ShaKind) (c : List Nat × Nat) (x : Nat) : Nat := z.mix x c.1 (x / 2 ^ c.2)
/-- `n` words more of the message, which is held newest word first. -/
def ShaKind.extend (z : ShaKind) : Nat → List Nat → List Nat
  | 0, w => w
  | n + 1, w =>
    z.extend n ((z.ext z.ext1 (w[1]?.getD 0) + w[6]?.getD 0 + z.ext z.ext0 (w[14]?.getD 0) + w[15]?.getD 0) % 2 ^ z.bits :: w)

/-- The eight working variables: four and four. -/
structure ShaVars where
  a : Nat := 0
  b : Nat := 0
  c : Nat := 0
  d : Nat := 0
  e : Nat := 0
  f : Nat := 0
  g : Nat := 0
  h : Nat := 0
def ShaVars.ofWords (x : List Nat) : ShaVars :=
  let at_ := fun k => x[k]?.getD 0
  { a := at_ 0, b := at_ 1, c := at_ 2, d := at_ 3, e := at_ 4, f := at_ 5, g := at_ 6, h := at_ 7 }
def ShaVars.words (v : ShaVars) : List Nat := [v.a, v.b, v.c, v.d, v.e, v.f, v.g, v.h]
/-- One round with the sum of its message word and constant; Ch takes the bits of f where e has ones and of g elsewhere, Maj is
the majority of a, b and c. -/
def ShaKind.round (z : ShaKind) (v : ShaVars) (wk : Nat) : ShaVars :=
  let ch := v.g ^^^ (v.e &&& (v.f ^^^ v.g))
  let maj := (v.a &&& v.b) ||| (v.c &&& (v.a ||| v.b))
  let up := v.h + z.mix v.e z.big1 0 + ch + wk
  { b := v.a, c := v.b, d := v.c, f := v.e, g := v.f, h := v.g,
    a := (up + z.mix v.a z.big0 0 + maj) % 2 ^ z.bits, e := (v.d + up) % 2 ^ z.bits }

/-- One block of 16 words compressed into the hash value. -/
def ShaKind.compress (z : ShaKind) (h w : List Nat) : List Nat :=
  let m := (z.extend (z.rounds - 16) w.reverse).reverse
  let v := (List.zipWith (fun x y => x + y) m z.consts).foldl z.round (ShaVars.ofWords h)
  List.zipWith (fun x y => (x + y) % 2 ^ z.bits) h v.words

/-- The `i`-th of the words of a message, most significant byte first. -/
def wordsBE (n : Nat) : Nat → List Byte → List Nat
  | 0, _ => []
  | k + 1, bs => ofBytesBE (bs.take n) :: wordsBE n k (bs.drop n)
/-- The blocks of a padded message. -/
def ShaKind.blocks (z : ShaKind) : Nat → List Byte → List Nat → List Nat
  | 0, _, h => h
  | n + 1, bs, h => z.blocks n (bs.drop (2 * z.bits)) (z.compress h (wordsBE (z.bits / 8) 16 bs))
/-- Padding: a one bit, zeros, and the length in bits. -/
def ShaKind.pad (z : ShaKind) (bs : List Byte) : List Byte :=
  let blk := 2 * z.bits
  let lenBytes := z.bits / 4
  let z0 := (2 * blk - (bs.length + 1 + lenBytes) % blk) % blk
  bs ++ [0x80] ++ List.replicate z0 0 ++ bytesBE lenBytes (8 * bs.length)
def ShaKind.hash (z : ShaKind) (bs : List Byte) : List Byte :=
  let p := z.pad bs
  (z.blocks (p.length / (2 * z.bits)) p z.start).flatMap (bytesBE (z.bits / 8))

/-- SHA-256 and SHA-384 in digest order. -/
def sha256 (bs : List Byte) : List Byte := sha256Kind.hash bs
def sha384 (bs : List Byte) : List Byte := (sha384Kind.hash bs).take 48
/-- HMAC-SHA-256 (RFC 2104). -/
def hmac256 (key msg : List Byte) : List Byte :=
  let k := padTo 64 (if 64 < key.length then sha256 key else key)
  sha256 (k.map (· ^^^ 0x5C) ++ sha256 (k.map (· ^^^ 0x36) ++ msg))

end Sys2Proof.Machine
end

