-- ==== Sys2Proof/Machine/Ecdsa.lean ====
section
/-!
DEFINITION. The P-384 arithmetic that the Scribe computes with: HKDF-SHA-384, the key of a device seed (R416), and ECDSA
signatures (R133, R328, R412).  The curve is that of FIPS 186-5 and SP 800-186, which the spec names (log 21).
-/
namespace Sys2Proof.Machine
open Sys2Proof

-- HKDF-SHA-384 (RFC 5869) ------------------------------------------------------------------------------------------

/-- HMAC-SHA-384 (RFC 2104). -/
def hmac384 (key msg : List Byte) : List Byte :=
  let k := padTo 128 (if 128 < key.length then sha384 key else key)
  sha384 (k.map (· ^^^ 0x5C) ++ sha384 (k.map (· ^^^ 0x36) ++ msg))
/-- Extract, without a salt. -/
def hkdfExtract (ikm : List Byte) : List Byte := hmac384 (List.replicate 48 0) ikm
/-- The next block of the expansion after the block `t`, the `k`-th. -/
def hkdfNext (prk info t : List Byte) (k : Nat) : List Byte := hmac384 prk (t ++ info ++ [byte k])

-- The curve --------------------------------------------------------------------------------------------------------

/-- The field prime, the coefficient b (a is −3), and the order of the base point. -/
def p384 : Nat := 2 ^ 384 - 2 ^ 128 - 2 ^ 96 + 2 ^ 32 - 1
def p384B : Nat := 0xB3312FA7E23EE7E4988E056BE3F82D19181D9C6EFE8141120314088F5013875AC656398D8A2ED19D2A85C8EDD3EC2AEF
def p384N : Nat := 0xFFFFFFFFFFFFFFFFFFFFFFFFFFFFFFFFFFFFFFFFFFFFFFFFC7634D81F4372DDF581A0DB248B0A77AECEC196ACCC52973
/-- A point: its coordinates, or `none` for the point at infinity. -/
abbrev CurvePoint := Option (Nat × Nat)
def p384G : CurvePoint :=
  some (0xAA87CA22BE8B05378EB1C71EF320AD746E1D3B628BA79B9859F741E082542A385502F25DBF55296C3A545E3872760AB7,
        0x3617DE4A96262C6F5D9E98BF9292DC29F8F41DBD289A147CE9DA3113B5F0B8C00A60B1CE1D7E819D7A431D7C90EA0E5F)

/-- a ^ e modulo m, over the low `n` bits of e. -/
def modPow (m : Nat) : Nat → Nat → Nat → Nat
  | 0, _, _ => 1 % m
  | n + 1, a, e => if e % 2 = 1 then a * modPow m n (a * a % m) (e / 2) % m else modPow m n (a * a % m) (e / 2)
/-- The inverse modulo a prime of 384 bits. -/
def modInv (m a : Nat) : Nat := modPow m 384 (a % m) (m - 2)
/-- The third point of the chord or tangent with slope `l`, mirrored. -/
def chord (l x1 y1 x2 : Nat) : CurvePoint :=
  let x := (l * l + (p384 - x1) + (p384 - x2)) % p384
  some (x, (l * (x1 + (p384 - x)) + (p384 - y1)) % p384)
def CurvePoint.add : CurvePoint → CurvePoint → CurvePoint
  | none, q => q
  | p, none => p
  | some (x1, y1), some (x2, y2) =>
    if x1 = x2 then
      if (y1 + y2) % p384 = 0 then none
      else chord ((3 * x1 * x1 + (p384 - 3)) * modInv p384 (2 * y1) % p384) x1 y1 x2
    else chord ((y2 + (p384 - y1)) * modInv p384 (x2 + (p384 - x1)) % p384) x1 y1 x2
/-- k · P, over the low `n` bits of k. -/
def CurvePoint.mul : Nat → Nat → CurvePoint → CurvePoint
  | 0, _, _ => none
  | n + 1, k, p => let q := CurvePoint.mul n (k / 2) (p.add p); if k % 2 = 1 then p.add q else q
/-- SEC1 uncompressed form: 0x04, X, Y. -/
def CurvePoint.sec1 : CurvePoint → List Byte
  | none => [0]
  | some (x, y) => 0x04 :: (bytesBE 48 x ++ bytesBE 48 y)
/-- The point that 97 bytes of SEC1 uncompressed form name, when it lies on the curve. -/
def ofSec1 (bs : List Byte) : CurvePoint :=
  let x := ofBytesBE (slice bs 1 48)
  let y := ofBytesBE (slice bs 49 48)
  if bs.length = 97 ∧ byteAt bs 0 = 0x04 ∧ x < p384 ∧ y < p384 ∧ y * y % p384 = (x * x * x + (p384 - 3) * x + p384B) % p384 then
    some (x, y)
  else none

-- Keys and signatures ----------------------------------------------------------------------------------------------

/-- The first candidate of the expansion that lies below the order less one, plus 1 (FIPS 186-5 A.2.2, rejection sampling). -/
def keyCandidate (prk info : List Byte) : Nat → List Byte → Nat → Nat
  | 0, _, _ => 1
  | n + 1, t, k =>
    let t1 := hkdfNext prk info t k
    let c := ofBytesBE t1
    if c < p384N - 1 then c + 1 else keyCandidate prk info n t1 (k + 1)
/-- "GK1024 seal v1" (R416). -/
def sealInfo : List Byte := [0x47, 0x4B, 0x31, 0x30, 0x32, 0x34, 0x20, 0x73, 0x65, 0x61, 0x6C, 0x20, 0x76, 0x31]
/-- The seal key of a device seed, which its index names (R416, log 21). -/
def sealKey (seed : Nat) : Nat := keyCandidate (hkdfExtract (bytesBE 32 (Config.deviceSeed seed).toNat)) sealInfo 255 [] 1
/-- Its public key in SEC1 uncompressed form (R328). -/
def sealPublic (seed : Nat) : List Byte := (p384G.mul 384 (sealKey seed)).sec1
/-- The ECDSA signature, *r* then *s*, of a SHA-384 digest under the seal key of a seed; the per-message number is free (log 21). -/
def ecdsaSign (seed : Nat) (digest : List Byte) (free : Nat) : List Byte :=
  let k := 1 + free % (p384N - 1)
  let r := match p384G.mul 384 k with
    | some (x, _) => x % p384N
    | none => 0
  bytesBE 48 r ++ bytesBE 48 (modInv p384N k * (ofBytesBE digest + r * sealKey seed) % p384N)
/-- ECDSA verification of a SHA-384 digest under a public key in SEC1 form. -/
def ecdsaVerify (key digest sig : List Byte) : Bool :=
  let r := ofBytesBE (slice sig 0 48)
  let s := ofBytesBE (slice sig 48 48)
  let w := modInv p384N s
  let p := ofSec1 key
  p.isSome && decide (sig.length = 96) && decide (0 < r ∧ r < p384N ∧ 0 < s ∧ s < p384N) &&
  (match (p384G.mul 384 (ofBytesBE digest * w % p384N)).add (p.mul 384 (r * w % p384N)) with
   | some (x, _) => decide (x % p384N = r)
   | none => false)

end Sys2Proof.Machine
end

