-- ==== Sys2Proof/Machine/NMap.lean ====
section
/-!
DEFINITION. Sparse arrays and memories: lists of (key, value) pairs in one canonical form.  Keys rise strictly and no
entry equals what an unlisted key reads as, so equal arrays are equal lists.
-/
namespace Sys2Proof.Machine

/-- A sparse array: key and value pairs in the canonical form of `NMap.wf`. -/
abbrev NMap (β : Type) := List (Nat × β)

/-- What key `k` holds; `d` is what an unlisted key reads as. -/
def NMap.get {β : Type} (d : β) : NMap β → Nat → β
  | [], _ => d
  | (k', v) :: m, k => if k' = k then v else NMap.get d m k

/-- The array without an entry at `k`. -/
def NMap.erase {β : Type} : NMap β → Nat → NMap β
  | [], _ => []
  | (k', v) :: m, k => if k' = k then NMap.erase m k else (k', v) :: NMap.erase m k

/-- The array with an entry (k, v) at its place in the order. -/
def NMap.insert {β : Type} : NMap β → Nat → β → NMap β
  | [], k, v => [(k, v)]
  | (k', v') :: m, k, v =>
    if k' = k then (k, v) :: m
    else if k < k' then (k, v) :: (k', v') :: m
    else (k', v') :: NMap.insert m k v

/-- Key `k` set to `v`; writing what an unlisted key reads as removes the entry. -/
def NMap.set {β : Type} [DecidableEq β] (d : β) (m : NMap β) (k : Nat) (v : β) : NMap β :=
  if v = d then NMap.erase m k else NMap.insert m k v

/-- Every key of `m` lies above `k`. -/
def NMap.above {β : Type} (k : Nat) (m : NMap β) : Bool := m.all (fun e => decide (k < e.1))

/-- The canonical form: keys strictly rising, no entry equal to the default of its key. -/
def NMap.wf {β : Type} [DecidableEq β] (d : Nat → β) : NMap β → Bool
  | [] => true
  | (k, v) :: m => decide (v ≠ d k) && NMap.above k m && NMap.wf d m

/-- The number of entries of `m` that satisfy `p`. -/
def NMap.countIf {β : Type} (p : Nat → β → Bool) (m : NMap β) : Nat := (m.filter (fun e => p e.1 e.2)).length

/-- An optional entry: absent keys read `none`. -/
def NMap.look {β : Type} : NMap β → Nat → Option β
  | [], _ => none
  | (k', v) :: m, k => if k' = k then some v else NMap.look m k

/-- Every listed value changed by `f`, which may look at its key; entries that become `d` leave the list. -/
def NMap.mapKey {β : Type} [DecidableEq β] (d : β) (f : Nat → β → β) : NMap β → NMap β
  | [] => []
  | (k, v) :: m => if f k v = d then NMap.erase (NMap.mapKey d f m) k else (k, f k v) :: NMap.mapKey d f m

/-- Every listed value changed by `f`, where `f d = d`. -/
def NMap.mapVal {β : Type} [DecidableEq β] (d : β) (f : β → β) (m : NMap β) : NMap β := NMap.mapKey d (fun _ => f) m

end Sys2Proof.Machine
end

