-- ==== Sys2Proof/Machine/RegTable.lean ====
section
/-!
DEFINITION. The register map of Tables 20.3 and 20.4 with each register's reset value and field accesses, taken from the
register and field tables of the chapters (R2, R5, R6).  A slice register is keyed by its slice-block offset, a global
register by its global-block offset.  Registers whose content is other state (status, occupancy, time) are computed when
they are read; `FLT_SRC`, `FLT_HIST`, program store and scratchpad windows are reached through their own operations.
-/
namespace Sys2Proof.Machine
open Sys2Proof

/-- One register, or one array of registers in one window or in several like windows (ports, clusters, rings). -/
structure RegDesc where
  /-- The spec's name. -/
  name : String
  /-- Offset of the first register. -/
  base : Nat
  /-- Distance of like windows, and how many there are. -/
  winStride : Nat
  winCount : Nat
  /-- Distance of array entries, and how many there are. -/
  stride : Nat
  count : Nat
  /-- Reset value of its register table. -/
  reset : Nat
  /-- Bits of the fields that software writes (RW, RWS). -/
  rw : Nat
  /-- Bits of the fields that a read clears (RC). -/
  rc : Nat
  /-- Bits of the fields that writing 1 clears (W1C). -/
  w1c : Nat
  deriving DecidableEq, Repr

/-- `SLC_ID`. -/
abbrev Reg.SLC_ID : Nat := 0x0
/-- `SLC_CMD`. -/
abbrev Reg.SLC_CMD : Nat := 0x8
/-- `SLC_STATUS`. -/
abbrev Reg.SLC_STATUS : Nat := 0x10
/-- `SLC_REFUSED`. -/
abbrev Reg.SLC_REFUSED : Nat := 0x18
/-- `TBU_TIME0`. -/
abbrev Reg.TBU_TIME0 : Nat := 0xc0000
/-- `TBU_TIME1`. -/
abbrev Reg.TBU_TIME1 : Nat := 0xc0008
/-- `TBU_SKEW`. -/
abbrev Reg.TBU_SKEW : Nat := 0xc0010
/-- `TBU_BOUND`. -/
abbrev Reg.TBU_BOUND : Nat := 0xc0018
/-- `TBU_COUNT`. -/
abbrev Reg.TBU_COUNT : Nat := 0xc0020
/-- `PRT_CFG`. -/
abbrev Reg.PRT_CFG : Nat := 0x10000
/-- `PRT_CMD`. -/
abbrev Reg.PRT_CMD : Nat := 0x10008
/-- `PRT_STATUS`. -/
abbrev Reg.PRT_STATUS : Nat := 0x10010
/-- `PRT_CAL`. -/
abbrev Reg.PRT_CAL : Nat := 0x10018
/-- `PRT_CAL_ADJ`. -/
abbrev Reg.PRT_CAL_ADJ : Nat := 0x10020
/-- `PRT_PAUSE`. -/
abbrev Reg.PRT_PAUSE : Nat := 0x10028
/-- `PRT_PREEMPT`. -/
abbrev Reg.PRT_PREEMPT : Nat := 0x10030
/-- `PRT_CNT`. -/
abbrev Reg.PRT_CNT : Nat := 0x10100
/-- `PAR_CFG`. -/
abbrev Reg.PAR_CFG : Nat := 0x20000
/-- `FRG_CFG`. -/
abbrev Reg.FRG_CFG : Nat := 0x20100
/-- `FRG_CMD`. -/
abbrev Reg.FRG_CMD : Nat := 0x20108
/-- `FRG_STATUS`. -/
abbrev Reg.FRG_STATUS : Nat := 0x20110
/-- `FRG_COUNT0`. -/
abbrev Reg.FRG_COUNT0 : Nat := 0x20118
/-- `FRG_COUNT1`. -/
abbrev Reg.FRG_COUNT1 : Nat := 0x20120
/-- `DSP_CFG`. -/
abbrev Reg.DSP_CFG : Nat := 0x1000
/-- `DSP_STATUS`. -/
abbrev Reg.DSP_STATUS : Nat := 0x1008
/-- `DSP_COUNT0`. -/
abbrev Reg.DSP_COUNT0 : Nat := 0x1010
/-- `DSP_COUNT1`. -/
abbrev Reg.DSP_COUNT1 : Nat := 0x1018
/-- `DSP_LANE`. -/
abbrev Reg.DSP_LANE : Nat := 0x1100
/-- `ENG_STATUS`. -/
abbrev Reg.ENG_STATUS : Nat := 0x30000
/-- `ENG_COUNT0`. -/
abbrev Reg.ENG_COUNT0 : Nat := 0x30008
/-- `ENG_COUNT1`. -/
abbrev Reg.ENG_COUNT1 : Nat := 0x30010
/-- `SEQ_VERSION`. -/
abbrev Reg.SEQ_VERSION : Nat := 0x110000
/-- `SEQ_STATUS`. -/
abbrev Reg.SEQ_STATUS : Nat := 0x110008
/-- `SEQ_TRAP`. -/
abbrev Reg.SEQ_TRAP : Nat := 0x110010
/-- `SEQ_COUNT`. -/
abbrev Reg.SEQ_COUNT : Nat := 0x110018
/-- `PGM_TRAP`. -/
abbrev Reg.PGM_TRAP : Nat := 0x2000
/-- `PGM_COUNT0`. -/
abbrev Reg.PGM_COUNT0 : Nat := 0x2008
/-- `PGM_COUNT1`. -/
abbrev Reg.PGM_COUNT1 : Nat := 0x2010
/-- `PGM_CONST`. -/
abbrev Reg.PGM_CONST : Nat := 0x2100
/-- `TBL_CMD`. -/
abbrev Reg.TBL_CMD : Nat := 0x40000
/-- `TBL_STATUS`. -/
abbrev Reg.TBL_STATUS : Nat := 0x40008
/-- `TBL_KEY`. -/
abbrev Reg.TBL_KEY : Nat := 0x40010
/-- `TBL_RES0`. -/
abbrev Reg.TBL_RES0 : Nat := 0x40038
/-- `TBL_RES1`. -/
abbrev Reg.TBL_RES1 : Nat := 0x40040
/-- `TBL_CFG`. -/
abbrev Reg.TBL_CFG : Nat := 0x40048
/-- `TBL_VIS`. -/
abbrev Reg.TBL_VIS : Nat := 0x40050
/-- `TBL_SEED_NEAR0`. -/
abbrev Reg.TBL_SEED_NEAR0 : Nat := 0x40058
/-- `TBL_SEED_NEAR1`. -/
abbrev Reg.TBL_SEED_NEAR1 : Nat := 0x40060
/-- `TBL_SEED_FAR0`. -/
abbrev Reg.TBL_SEED_FAR0 : Nat := 0x40068
/-- `TBL_SEED_FAR1`. -/
abbrev Reg.TBL_SEED_FAR1 : Nat := 0x40070
/-- `TBL_OCC`. -/
abbrev Reg.TBL_OCC : Nat := 0x40078
/-- `TBL_COUNT0`. -/
abbrev Reg.TBL_COUNT0 : Nat := 0x40080
/-- `TBL_COUNT1`. -/
abbrev Reg.TBL_COUNT1 : Nat := 0x40088
/-- `TBL_FAULT`. -/
abbrev Reg.TBL_FAULT : Nat := 0x40090
/-- `RMX_CMD`. -/
abbrev Reg.RMX_CMD : Nat := 0x41000
/-- `RMX_STATUS`. -/
abbrev Reg.RMX_STATUS : Nat := 0x41008
/-- `RMX_VAL`. -/
abbrev Reg.RMX_VAL : Nat := 0x41010
/-- `RMX_CARE`. -/
abbrev Reg.RMX_CARE : Nat := 0x41028
/-- `RMX_RES`. -/
abbrev Reg.RMX_RES : Nat := 0x41040
/-- `RMX_CTL`. -/
abbrev Reg.RMX_CTL : Nat := 0x41048
/-- `RMX_COUNT0`. -/
abbrev Reg.RMX_COUNT0 : Nat := 0x41050
/-- `RMX_COUNT1`. -/
abbrev Reg.RMX_COUNT1 : Nat := 0x41058
/-- `RMX_COUNT2`. -/
abbrev Reg.RMX_COUNT2 : Nat := 0x41060
/-- `RMX_FAULT`. -/
abbrev Reg.RMX_FAULT : Nat := 0x41068
/-- `RMX_BANK`. -/
abbrev Reg.RMX_BANK : Nat := 0x41100
/-- `RMX_SIGSEL`. -/
abbrev Reg.RMX_SIGSEL : Nat := 0x41180
/-- `BPM_CMD`. -/
abbrev Reg.BPM_CMD : Nat := 0x80000
/-- `BPM_STATUS`. -/
abbrev Reg.BPM_STATUS : Nat := 0x80008
/-- `BPM_ARG`. -/
abbrev Reg.BPM_ARG : Nat := 0x80010
/-- `BPM_RESULT`. -/
abbrev Reg.BPM_RESULT : Nat := 0x80018
/-- `BPM_CFG`. -/
abbrev Reg.BPM_CFG : Nat := 0x80020
/-- `BPM_PAUSE_CFG`. -/
abbrev Reg.BPM_PAUSE_CFG : Nat := 0x80028
/-- `BPM_POOL_CFG`. -/
abbrev Reg.BPM_POOL_CFG : Nat := 0x80030
/-- `BPM_BANK_STATE`. -/
abbrev Reg.BPM_BANK_STATE : Nat := 0x80038
/-- `BPM_FREE`. -/
abbrev Reg.BPM_FREE : Nat := 0x80040
/-- `BPM_COUNT0`. -/
abbrev Reg.BPM_COUNT0 : Nat := 0x80048
/-- `BPM_COUNT1`. -/
abbrev Reg.BPM_COUNT1 : Nat := 0x80050
/-- `BPM_FAULT`. -/
abbrev Reg.BPM_FAULT : Nat := 0x80058
/-- `SCH_CMD`. -/
abbrev Reg.SCH_CMD : Nat := 0x90000
/-- `SCH_STATUS`. -/
abbrev Reg.SCH_STATUS : Nat := 0x90008
/-- `SCH_DATA`. -/
abbrev Reg.SCH_DATA : Nat := 0x90010
/-- `SCH_COUNT0`. -/
abbrev Reg.SCH_COUNT0 : Nat := 0x90038
/-- `MTR_GREEN`. -/
abbrev Reg.MTR_GREEN : Nat := 0x90040
/-- `MTR_YELLOW`. -/
abbrev Reg.MTR_YELLOW : Nat := 0x90048
/-- `MTR_RED`. -/
abbrev Reg.MTR_RED : Nat := 0x90050
/-- `SCH_GCL_PEND`. -/
abbrev Reg.SCH_GCL_PEND : Nat := 0x90058
/-- `SCH_GCL_FOLIO`. -/
abbrev Reg.SCH_GCL_FOLIO : Nat := 0x90060
/-- `MCL_CMD`. -/
abbrev Reg.MCL_CMD : Nat := 0x93000
/-- `MCL_STATUS`. -/
abbrev Reg.MCL_STATUS : Nat := 0x93008
/-- `MCL_DATA0`. -/
abbrev Reg.MCL_DATA0 : Nat := 0x93010
/-- `MCL_DATA1`. -/
abbrev Reg.MCL_DATA1 : Nat := 0x93018
/-- `MCL_COUNT`. -/
abbrev Reg.MCL_COUNT : Nat := 0x93020
/-- `LIG_CFG`. -/
abbrev Reg.LIG_CFG : Nat := 0x91000
/-- `LIG_STATUS`. -/
abbrev Reg.LIG_STATUS : Nat := 0x91200
/-- `LIG_COUNT0`. -/
abbrev Reg.LIG_COUNT0 : Nat := 0x91400
/-- `LIG_COUNT1`. -/
abbrev Reg.LIG_COUNT1 : Nat := 0x91600
/-- `LIG_REFUSED`. -/
abbrev Reg.LIG_REFUSED : Nat := 0x91800
/-- `EQX_CMD`. -/
abbrev Reg.EQX_CMD : Nat := 0x92000
/-- `EQX_STATUS`. -/
abbrev Reg.EQX_STATUS : Nat := 0x92008
/-- `EQX_DATA0`. -/
abbrev Reg.EQX_DATA0 : Nat := 0x92010
/-- `EQX_DATA1`. -/
abbrev Reg.EQX_DATA1 : Nat := 0x92018
/-- `EQX_DATA2`. -/
abbrev Reg.EQX_DATA2 : Nat := 0x92020
/-- `EQX_COUNT`. -/
abbrev Reg.EQX_COUNT : Nat := 0x92028
/-- `EQX_LAST_LATE`. -/
abbrev Reg.EQX_LAST_LATE : Nat := 0x92030
/-- `EQX_PORT_COUNT`. -/
abbrev Reg.EQX_PORT_COUNT : Nat := 0x92100
/-- `CPB_CFG`. -/
abbrev Reg.CPB_CFG : Nat := 0xd0000
/-- `CPB_CMD`. -/
abbrev Reg.CPB_CMD : Nat := 0xd0008
/-- `CPB_ARG`. -/
abbrev Reg.CPB_ARG : Nat := 0xd0010
/-- `CPB_STATUS`. -/
abbrev Reg.CPB_STATUS : Nat := 0xd0018
/-- `CPB_RUN`. -/
abbrev Reg.CPB_RUN : Nat := 0xd0020
/-- `CPB_HEAD`. -/
abbrev Reg.CPB_HEAD : Nat := 0xd0028
/-- `CPB_SEQ`. -/
abbrev Reg.CPB_SEQ : Nat := 0xd0030
/-- `CPB_FREE`. -/
abbrev Reg.CPB_FREE : Nat := 0xd0038
/-- `CPB_HOST_NEXT`. -/
abbrev Reg.CPB_HOST_NEXT : Nat := 0xd0040
/-- `CPB_SCRIBE_NEXT`. -/
abbrev Reg.CPB_SCRIBE_NEXT : Nat := 0xd0048
/-- `CPB_RECORDS`. -/
abbrev Reg.CPB_RECORDS : Nat := 0xd0050
/-- `CPB_UNRECORDED`. -/
abbrev Reg.CPB_UNRECORDED : Nat := 0xd0058
/-- `CPB_COUNT0`. -/
abbrev Reg.CPB_COUNT0 : Nat := 0xd0060
/-- `CPB_COUNT1`. -/
abbrev Reg.CPB_COUNT1 : Nat := 0xd0068
/-- `FOL_SLICE_STATUS`. -/
abbrev Reg.FOL_SLICE_STATUS : Nat := 0x4000
/-- `FOL_SPLIT_COUNT`. -/
abbrev Reg.FOL_SPLIT_COUNT : Nat := 0x4008
/-- `FOL_SEED_CTL`. -/
abbrev Reg.FOL_SEED_CTL : Nat := 0x4010
/-- `FOL_SEED_NEAR0`. -/
abbrev Reg.FOL_SEED_NEAR0 : Nat := 0x4018
/-- `FOL_SEED_NEAR1`. -/
abbrev Reg.FOL_SEED_NEAR1 : Nat := 0x4020
/-- `FOL_SEED_FAR0`. -/
abbrev Reg.FOL_SEED_FAR0 : Nat := 0x4028
/-- `FOL_SEED_FAR1`. -/
abbrev Reg.FOL_SEED_FAR1 : Nat := 0x4030
/-- `DRM_CFG`. -/
abbrev Reg.DRM_CFG : Nat := 0xe0000
/-- `DRM_CMD`. -/
abbrev Reg.DRM_CMD : Nat := 0xe0008
/-- `DRM_STATUS`. -/
abbrev Reg.DRM_STATUS : Nat := 0xe0010
/-- `DRM_GEOM`. -/
abbrev Reg.DRM_GEOM : Nat := 0xe0018
/-- `DRM_REGION_FAR`. -/
abbrev Reg.DRM_REGION_FAR : Nat := 0xe0020
/-- `DRM_REGION_CPB`. -/
abbrev Reg.DRM_REGION_CPB : Nat := 0xe0028
/-- `DRM_REGION_RPL`. -/
abbrev Reg.DRM_REGION_RPL : Nat := 0xe0030
/-- `DRM_REGION_SCR`. -/
abbrev Reg.DRM_REGION_SCR : Nat := 0xe0038
/-- `DRM_XOR`. -/
abbrev Reg.DRM_XOR : Nat := 0xe0040
/-- `DRM_TRAIN`. -/
abbrev Reg.DRM_TRAIN : Nat := 0xe0080
/-- `DRM_COUNT0`. -/
abbrev Reg.DRM_COUNT0 : Nat := 0xe00d0
/-- `DRM_COUNT1`. -/
abbrev Reg.DRM_COUNT1 : Nat := 0xe00d8
/-- `RPL_COUNT0`. -/
abbrev Reg.RPL_COUNT0 : Nat := 0xe1000
/-- `RPL_COUNT1`. -/
abbrev Reg.RPL_COUNT1 : Nat := 0xe1008
/-- `RPL_GROUP0`. -/
abbrev Reg.RPL_GROUP0 : Nat := 0xe2000
/-- `RPL_GROUP1`. -/
abbrev Reg.RPL_GROUP1 : Nat := 0xe2800
/-- `RPL_NEXT`. -/
abbrev Reg.RPL_NEXT : Nat := 0xe3000
/-- `RNG_BASE`. -/
abbrev Reg.RNG_BASE : Nat := 0x8000
/-- `RNG_CFG`. -/
abbrev Reg.RNG_CFG : Nat := 0x8008
/-- `RNG_TAIL`. -/
abbrev Reg.RNG_TAIL : Nat := 0x8010
/-- `RNG_HEAD`. -/
abbrev Reg.RNG_HEAD : Nat := 0x8018
/-- `RNG_STATUS`. -/
abbrev Reg.RNG_STATUS : Nat := 0x8020
/-- `RNG_COUNT`. -/
abbrev Reg.RNG_COUNT : Nat := 0x8028
/-- `FLT_STATUS`. -/
abbrev Reg.FLT_STATUS : Nat := 0xf0000
/-- `FLT_FENCED`. -/
abbrev Reg.FLT_FENCED : Nat := 0xf0008
/-- `FLT_PORT_FENCED`. -/
abbrev Reg.FLT_PORT_FENCED : Nat := 0xf0010
/-- `FLT_HIST_STATUS`. -/
abbrev Reg.FLT_HIST_STATUS : Nat := 0xf0018
/-- `FLT_INT_CFG`. -/
abbrev Reg.FLT_INT_CFG : Nat := 0xf0020
/-- `FLT_REFUSED`. -/
abbrev Reg.FLT_REFUSED : Nat := 0xf0028
/-- `PMC_CTRL`. -/
abbrev Reg.PMC_CTRL : Nat := 0x100000
/-- `PMC_STATUS`. -/
abbrev Reg.PMC_STATUS : Nat := 0x100008
/-- `PMC_SMP_CFG`. -/
abbrev Reg.PMC_SMP_CFG : Nat := 0x100010
/-- `PMC_SMP_STATUS`. -/
abbrev Reg.PMC_SMP_STATUS : Nat := 0x100018
/-- `PMC_SMP`. -/
abbrev Reg.PMC_SMP : Nat := 0x100020
/-- `PMC_CTR`. -/
abbrev Reg.PMC_CTR : Nat := 0x100100
/-- `PMC_CFG`. -/
abbrev Reg.PMC_CFG : Nat := 0x100108
/-- `PMC_FILT`. -/
abbrev Reg.PMC_FILT : Nat := 0x100110
/-- `PMC_RANGE_LO`. -/
abbrev Reg.PMC_RANGE_LO : Nat := 0x100118
/-- `PMC_RANGE_HI`. -/
abbrev Reg.PMC_RANGE_HI : Nat := 0x100120
/-- `PMC_TD`. -/
abbrev Reg.PMC_TD : Nat := 0x101000
/-- `DRP_COUNT`. -/
abbrev Reg.DRP_COUNT : Nat := 0x3000
/-- `XBR_PART_MAP`. -/
abbrev Reg.XBR_PART_MAP : Nat := 0x20008
/-- `XBR_STATUS`. -/
abbrev Reg.XBR_STATUS : Nat := 0x20010
/-- `XBR_PART_DROP`. -/
abbrev Reg.XBR_PART_DROP : Nat := 0x20100
/-- `TRF_CTRL`. -/
abbrev Reg.TRF_CTRL : Nat := 0x30000
/-- `TRF_CMD`. -/
abbrev Reg.TRF_CMD : Nat := 0x30008
/-- `TRF_STATUS`. -/
abbrev Reg.TRF_STATUS : Nat := 0x30010
/-- `TRF_OPERAND0`. -/
abbrev Reg.TRF_OPERAND0 : Nat := 0x30018
/-- `TRF_OPERAND1`. -/
abbrev Reg.TRF_OPERAND1 : Nat := 0x30020
/-- `TRF_BOUND_CFG`. -/
abbrev Reg.TRF_BOUND_CFG : Nat := 0x30028
/-- `TRF_SERVO_CFG`. -/
abbrev Reg.TRF_SERVO_CFG : Nat := 0x30030
/-- `TRF_OFFSET`. -/
abbrev Reg.TRF_OFFSET : Nat := 0x30038
/-- `TRF_TIME0`. -/
abbrev Reg.TRF_TIME0 : Nat := 0x30040
/-- `TRF_TIME1`. -/
abbrev Reg.TRF_TIME1 : Nat := 0x30048
/-- `TRF_TERMS`. -/
abbrev Reg.TRF_TERMS : Nat := 0x30050
/-- `TRF_ADDEND`. -/
abbrev Reg.TRF_ADDEND : Nat := 0x30058
/-- `LIG_SEED_NEXT`. -/
abbrev Reg.LIG_SEED_NEXT : Nat := 0x30100
/-- `LIG_SEED_TIME0`. -/
abbrev Reg.LIG_SEED_TIME0 : Nat := 0x30108
/-- `LIG_SEED_TIME1`. -/
abbrev Reg.LIG_SEED_TIME1 : Nat := 0x30110
/-- `LIG_SEED_CMD`. -/
abbrev Reg.LIG_SEED_CMD : Nat := 0x30118
/-- `LIG_SEED_STATUS`. -/
abbrev Reg.LIG_SEED_STATUS : Nat := 0x30120
/-- `CPB_SEAL_CFG`. -/
abbrev Reg.CPB_SEAL_CFG : Nat := 0x51000
/-- `CPB_SEAL_STATUS`. -/
abbrev Reg.CPB_SEAL_STATUS : Nat := 0x51008
/-- `CPB_SEAL_NUMBER`. -/
abbrev Reg.CPB_SEAL_NUMBER : Nat := 0x51010
/-- `CPB_SEAL_COUNT`. -/
abbrev Reg.CPB_SEAL_COUNT : Nat := 0x51018
/-- `CPB_KEY_ID0`. -/
abbrev Reg.CPB_KEY_ID0 : Nat := 0x51020
/-- `CPB_KEY_ID1`. -/
abbrev Reg.CPB_KEY_ID1 : Nat := 0x51028
/-- `CPB_CERT_LEN`. -/
abbrev Reg.CPB_CERT_LEN : Nat := 0x51030
/-- `CPB_CERT`. -/
abbrev Reg.CPB_CERT : Nat := 0x51800
/-- `FOL_CMD`. -/
abbrev Reg.FOL_CMD : Nat := 0x40000
/-- `FOL_STATUS`. -/
abbrev Reg.FOL_STATUS : Nat := 0x40008
/-- `FOL_TIME0`. -/
abbrev Reg.FOL_TIME0 : Nat := 0x40010
/-- `FOL_TIME1`. -/
abbrev Reg.FOL_TIME1 : Nat := 0x40018
/-- `FOL_EPOCH`. -/
abbrev Reg.FOL_EPOCH : Nat := 0x40020
/-- `FOL_COUNT`. -/
abbrev Reg.FOL_COUNT : Nat := 0x40028
/-- `FOL_MON_STATUS`. -/
abbrev Reg.FOL_MON_STATUS : Nat := 0x40030
/-- `HST_LINK_CFG`. -/
abbrev Reg.HST_LINK_CFG : Nat := 0x10000
/-- `HST_LINK_STATUS`. -/
abbrev Reg.HST_LINK_STATUS : Nat := 0x10020
/-- `HST_PF_MAP`. -/
abbrev Reg.HST_PF_MAP : Nat := 0x10040
/-- `HST_OWNER_PF`. -/
abbrev Reg.HST_OWNER_PF : Nat := 0x10048
/-- `HST_BAR2_SIZE`. -/
abbrev Reg.HST_BAR2_SIZE : Nat := 0x10050
/-- `HST_CMD`. -/
abbrev Reg.HST_CMD : Nat := 0x10058
/-- `HST_STATUS`. -/
abbrev Reg.HST_STATUS : Nat := 0x10060
/-- `HST_WIN_DATA0`. -/
abbrev Reg.HST_WIN_DATA0 : Nat := 0x10068
/-- `HST_WIN_DATA1`. -/
abbrev Reg.HST_WIN_DATA1 : Nat := 0x10070
/-- `HST_TAGS`. -/
abbrev Reg.HST_TAGS : Nat := 0x10078
/-- `HST_COUNT0`. -/
abbrev Reg.HST_COUNT0 : Nat := 0x10080
/-- `HST_COUNT1`. -/
abbrev Reg.HST_COUNT1 : Nat := 0x10088
/-- `HST_COUNT2`. -/
abbrev Reg.HST_COUNT2 : Nat := 0x10090
/-- `PMX_FEAT`. -/
abbrev Reg.PMX_FEAT : Nat := 0x70000
/-- `PMX_CMD`. -/
abbrev Reg.PMX_CMD : Nat := 0x70100
/-- `PMX_STATUS`. -/
abbrev Reg.PMX_STATUS : Nat := 0x70108
/-- `PMX_GPIO`. -/
abbrev Reg.PMX_GPIO : Nat := 0x70110
/-- `SEC_LC`. -/
abbrev Reg.SEC_LC : Nat := 0x50000
/-- `SEC_STATUS`. -/
abbrev Reg.SEC_STATUS : Nat := 0x50008
/-- `SEC_TAMPER_CFG`. -/
abbrev Reg.SEC_TAMPER_CFG : Nat := 0x50010
/-- `SEC_FW_VERSION`. -/
abbrev Reg.SEC_FW_VERSION : Nat := 0x50018
/-- `SEC_SERIAL`. -/
abbrev Reg.SEC_SERIAL : Nat := 0x50020
/-- `SCB_MBX_CMD`. -/
abbrev Reg.SCB_MBX_CMD : Nat := 0x60000
/-- `SCB_MBX_STATUS`. -/
abbrev Reg.SCB_MBX_STATUS : Nat := 0x60008
/-- `SCB_RING_MAP`. -/
abbrev Reg.SCB_RING_MAP : Nat := 0x60010
/-- `SCB_COUNT`. -/
abbrev Reg.SCB_COUNT : Nat := 0x60018
/-- `SCB_MBX_DATA`. -/
abbrev Reg.SCB_MBX_DATA : Nat := 0x60100
/-- `TLY_CFG`. -/
abbrev Reg.TLY_CFG : Nat := 0x90000
/-- `TLY_PERIOD`. -/
abbrev Reg.TLY_PERIOD : Nat := 0x90008
/-- `TLY_BASE`. -/
abbrev Reg.TLY_BASE : Nat := 0x90010
/-- `TLY_HEAD`. -/
abbrev Reg.TLY_HEAD : Nat := 0x90018
/-- `TLY_TAIL`. -/
abbrev Reg.TLY_TAIL : Nat := 0x90020
/-- `TLY_COUNT`. -/
abbrev Reg.TLY_COUNT : Nat := 0x90028
/-- `TLY_LIST`. -/
abbrev Reg.TLY_LIST : Nat := 0x98000
/-- `GLB_RST_CMD`. -/
abbrev Reg.GLB_RST_CMD : Nat := 0x50
/-- `GLB_RST_STATUS`. -/
abbrev Reg.GLB_RST_STATUS : Nat := 0x58
/-- `GLB_STRAPS`. -/
abbrev Reg.GLB_STRAPS : Nat := 0x60
/-- `GLB_REFUSED`. -/
abbrev Reg.GLB_REFUSED : Nat := 0x68
/-- `GLB_ID`. -/
abbrev Reg.GLB_ID : Nat := 0x0
/-- `GLB_CLK_STATUS`. -/
abbrev Reg.GLB_CLK_STATUS : Nat := 0x40
/-- `GLB_HEALTH`. -/
abbrev Reg.GLB_HEALTH : Nat := 0x48
/-- `DFLT_STATUS`. -/
abbrev Reg.DFLT_STATUS : Nat := 0x80000
/-- `DFLT_FENCED`. -/
abbrev Reg.DFLT_FENCED : Nat := 0x80008
/-- `DFLT_PORT_FENCED`. -/
abbrev Reg.DFLT_PORT_FENCED : Nat := 0x80010
/-- `DFLT_HIST_STATUS`. -/
abbrev Reg.DFLT_HIST_STATUS : Nat := 0x80018
/-- `DFLT_INT_CFG`. -/
abbrev Reg.DFLT_INT_CFG : Nat := 0x80020
/-- `DFLT_REFUSED`. -/
abbrev Reg.DFLT_REFUSED : Nat := 0x80028
/-- Registers of a slice block (Table 20.3), part 0. -/
def sliceRegs0 : List RegDesc := [
  ⟨"SLC_ID", 0x0, 0x8, 1, 0x8, 1, 0x0, 0x0, 0x0, 0x0⟩,
  ⟨"SLC_CMD", 0x8, 0x8, 1, 0x8, 1, 0x0, 0x0, 0x0, 0x0⟩,
  ⟨"SLC_STATUS", 0x10, 0x8, 1, 0x8, 1, 0x10000, 0x0, 0x0, 0x0⟩,
  ⟨"SLC_REFUSED", 0x18, 0x8, 1, 0x8, 1, 0x0, 0x0, 0xffffffffffffffff, 0x0⟩,
  ⟨"TBU_TIME0", 0xc0000, 0x8, 1, 0x8, 1, 0x3fff, 0x0, 0x0, 0x0⟩,
  ⟨"TBU_TIME1", 0xc0008, 0x8, 1, 0x8, 1, 0x0, 0x0, 0x0, 0x0⟩,
  ⟨"TBU_SKEW", 0xc0010, 0x8, 1, 0x8, 1, 0x0, 0x0, 0x0, 0x0⟩,
  ⟨"TBU_BOUND", 0xc0018, 0x8, 1, 0x8, 1, 0x3fff, 0x0, 0x0, 0x0⟩,
  ⟨"TBU_COUNT", 0xc0020, 0x8, 1, 0x8, 1, 0x0, 0x0, 0xffffffffffffffff, 0x0⟩,
  ⟨"PRT_CFG", 0x10000, 0x400, 64, 0x8, 1, 0x5f20000, 0x3fff01ff, 0x0, 0x0⟩,
  ⟨"PRT_CMD", 0x10008, 0x400, 64, 0x8, 1, 0x0, 0x0, 0x0, 0x0⟩,
  ⟨"PRT_STATUS", 0x10010, 0x400, 64, 0x8, 1, 0x0, 0x0, 0x0, 0x0⟩,
  ⟨"PRT_CAL", 0x10018, 0x400, 64, 0x8, 1, 0x0, 0x0, 0x0, 0x0⟩,
  ⟨"PRT_CAL_ADJ", 0x10020, 0x400, 64, 0x8, 1, 0x0, 0xffffffffffff, 0x0, 0x0⟩,
  ⟨"PRT_PAUSE", 0x10028, 0x400, 64, 0x8, 1, 0xffff, 0xffffff, 0x0, 0x0⟩,
  ⟨"PRT_PREEMPT", 0x10030, 0x400, 64, 0x8, 1, 0xa00ff, 0xff07ff, 0x0, 0x0⟩,
  ⟨"PRT_CNT", 0x10100, 0x400, 64, 0x8, 16, 0x0, 0x0, 0xffffffffffffffff, 0x0⟩,
  ⟨"PAR_CFG", 0x20000, 0x8, 1, 0x8, 1, 0x1000112b5, 0x10001ffff, 0x0, 0x0⟩,
  ⟨"FRG_CFG", 0x20100, 0x8, 1, 0x8, 1, 0x1f40, 0x7fff03ffffff, 0x0, 0x0⟩,
  ⟨"FRG_CMD", 0x20108, 0x8, 1, 0x8, 1, 0x0, 0x0, 0x0, 0x0⟩,
  ⟨"FRG_STATUS", 0x20110, 0x8, 1, 0x8, 1, 0x0, 0x0, 0x0, 0x0⟩,
  ⟨"FRG_COUNT0", 0x20118, 0x8, 1, 0x8, 1, 0x0, 0x0, 0xffffffffffffffff, 0x0⟩,
  ⟨"FRG_COUNT1", 0x20120, 0x8, 1, 0x8, 1, 0x0, 0x0, 0xffffffffffffffff, 0x0⟩,
  ⟨"DSP_CFG", 0x1000, 0x8, 1, 0x8, 1, 0x1000000000000018, 0xffff00007fff03ff, 0x0, 0x0⟩]

/-- Registers of a slice block (Table 20.3), part 1. -/
def sliceRegs1 : List RegDesc := [
  ⟨"DSP_STATUS", 0x1008, 0x8, 1, 0x8, 1, 0x0, 0x0, 0x0, 0x0⟩,
  ⟨"DSP_COUNT0", 0x1010, 0x8, 1, 0x8, 1, 0x0, 0x0, 0xffffffffffffffff, 0x0⟩,
  ⟨"DSP_COUNT1", 0x1018, 0x8, 1, 0x8, 1, 0x0, 0x0, 0xffffffffffffffff, 0x0⟩,
  ⟨"DSP_LANE", 0x1100, 0x8, 1, 0x8, 64, 0x0, 0x800000000001ffff, 0x0, 0x0⟩,
  ⟨"ENG_STATUS", 0x30000, 0x1000, 16, 0x8, 1, 0x0, 0x0, 0x0, 0x0⟩,
  ⟨"ENG_COUNT0", 0x30008, 0x1000, 16, 0x8, 1, 0x0, 0x0, 0xffffffffffffffff, 0x0⟩,
  ⟨"ENG_COUNT1", 0x30010, 0x1000, 16, 0x8, 1, 0x0, 0x0, 0xffffffffffffffff, 0x0⟩,
  ⟨"SEQ_VERSION", 0x110000, 0x8, 1, 0x8, 1, 0x0, 0x0, 0x0, 0x0⟩,
  ⟨"SEQ_STATUS", 0x110008, 0x8, 1, 0x8, 1, 0x0, 0x0, 0x0, 0x0⟩,
  ⟨"SEQ_TRAP", 0x110010, 0x8, 1, 0x8, 1, 0x0, 0x0, 0x0, 0x0⟩,
  ⟨"SEQ_COUNT", 0x110018, 0x8, 1, 0x8, 1, 0x0, 0x0, 0xffffffffffffffff, 0x0⟩,
  ⟨"PGM_TRAP", 0x2000, 0x8, 1, 0x8, 1, 0x0, 0x17fff00017fff, 0x0, 0x0⟩,
  ⟨"PGM_COUNT0", 0x2008, 0x8, 1, 0x8, 1, 0x0, 0x0, 0xffffffffffffffff, 0x0⟩,
  ⟨"PGM_COUNT1", 0x2010, 0x8, 1, 0x8, 1, 0x0, 0x0, 0xffffffffffffffff, 0x0⟩,
  ⟨"PGM_CONST", 0x2100, 0x8, 1, 0x8, 16, 0x0, 0xffffffffffffffff, 0x0, 0x0⟩,
  ⟨"TBL_CMD", 0x40000, 0x8, 1, 0x8, 1, 0x0, 0x0, 0x0, 0x0⟩,
  ⟨"TBL_STATUS", 0x40008, 0x8, 1, 0x8, 1, 0x0, 0x0, 0x0, 0x0⟩,
  ⟨"TBL_KEY", 0x40010, 0x8, 1, 0x8, 5, 0x0, 0xffffffffffffffff, 0x0, 0x0⟩,
  ⟨"TBL_RES0", 0x40038, 0x8, 1, 0x8, 1, 0x0, 0xffffffffffffffff, 0x0, 0x0⟩,
  ⟨"TBL_RES1", 0x40040, 0x8, 1, 0x8, 1, 0x0, 0xb8c0000000000000, 0x0, 0x0⟩,
  ⟨"TBL_CFG", 0x40048, 0x8, 1, 0x8, 1, 0x3e8000000000000, 0xffff010100ff0000, 0x0, 0x0⟩,
  ⟨"TBL_VIS", 0x40050, 0x8, 1, 0x8, 1, 0x0, 0x0, 0x0, 0x0⟩,
  ⟨"TBL_SEED_NEAR0", 0x40058, 0x8, 1, 0x8, 1, 0x0, 0x0, 0x0, 0x0⟩,
  ⟨"TBL_SEED_NEAR1", 0x40060, 0x8, 1, 0x8, 1, 0xffffffffffffffff, 0x0, 0x0, 0x0⟩]

/-- Registers of a slice block (Table 20.3), part 2. -/
def sliceRegs2 : List RegDesc := [
  ⟨"TBL_SEED_FAR0", 0x40068, 0x8, 1, 0x8, 1, 0x0, 0x0, 0x0, 0x0⟩,
  ⟨"TBL_SEED_FAR1", 0x40070, 0x8, 1, 0x8, 1, 0xffffffffffffffff, 0x0, 0x0, 0x0⟩,
  ⟨"TBL_OCC", 0x40078, 0x8, 1, 0x8, 1, 0x0, 0x0, 0x0, 0x0⟩,
  ⟨"TBL_COUNT0", 0x40080, 0x8, 1, 0x8, 1, 0x0, 0x0, 0xffffffffffffffff, 0x0⟩,
  ⟨"TBL_COUNT1", 0x40088, 0x8, 1, 0x8, 1, 0x0, 0x0, 0xffffffffffffffff, 0x0⟩,
  ⟨"TBL_FAULT", 0x40090, 0x8, 1, 0x8, 1, 0x0, 0x0, 0x0, 0x0⟩,
  ⟨"RMX_CMD", 0x41000, 0x8, 1, 0x8, 1, 0x0, 0x0, 0x0, 0x0⟩,
  ⟨"RMX_STATUS", 0x41008, 0x8, 1, 0x8, 1, 0x0, 0x0, 0x0, 0x0⟩,
  ⟨"RMX_VAL", 0x41010, 0x8, 1, 0x8, 3, 0x0, 0xffffffffffffffff, 0x0, 0x0⟩,
  ⟨"RMX_CARE", 0x41028, 0x8, 1, 0x8, 3, 0x0, 0xffffffffffffffff, 0x0, 0x0⟩,
  ⟨"RMX_RES", 0x41040, 0x8, 1, 0x8, 1, 0x0, 0xffffffffffffffff, 0x0, 0x0⟩,
  ⟨"RMX_CTL", 0x41048, 0x8, 1, 0x8, 1, 0x0, 0x9fffffffffffffff, 0x0, 0x0⟩,
  ⟨"RMX_COUNT0", 0x41050, 0x8, 1, 0x8, 1, 0x0, 0x0, 0xffffffffffffffff, 0x0⟩,
  ⟨"RMX_COUNT1", 0x41058, 0x8, 1, 0x8, 1, 0x0, 0x0, 0xffffffffffffffff, 0x0⟩,
  ⟨"RMX_COUNT2", 0x41060, 0x8, 1, 0x8, 1, 0x0, 0x0, 0xffffffffffffffff, 0x0⟩,
  ⟨"RMX_FAULT", 0x41068, 0x8, 1, 0x8, 1, 0x0, 0x0, 0x0, 0x0⟩,
  ⟨"RMX_BANK", 0x41100, 0x8, 1, 0x8, 16, 0x0, 0x2f3, 0x0, 0x0⟩,
  ⟨"RMX_SIGSEL", 0x41180, 0x8, 1, 0x8, 16, 0xffffffffffffffff, 0xffffffffffffffff, 0x0, 0x0⟩,
  ⟨"BPM_CMD", 0x80000, 0x8, 1, 0x8, 1, 0x0, 0x0, 0x0, 0x0⟩,
  ⟨"BPM_STATUS", 0x80008, 0x8, 1, 0x8, 1, 0x0, 0x0, 0x0, 0x0⟩,
  ⟨"BPM_ARG", 0x80010, 0x8, 1, 0x8, 1, 0x0, 0x3fff03ff00ffffff, 0x0, 0x0⟩,
  ⟨"BPM_RESULT", 0x80018, 0x8, 1, 0x8, 1, 0x0, 0x0, 0x0, 0x0⟩,
  ⟨"BPM_CFG", 0x80020, 0x8, 1, 0x8, 1, 0x10002000400, 0xffffffffffff, 0x0, 0x0⟩,
  ⟨"BPM_PAUSE_CFG", 0x80028, 0x8, 1, 0x8, 1, 0x400020, 0xffffffff, 0x0, 0x0⟩]

/-- Registers of a slice block (Table 20.3), part 3. -/
def sliceRegs3 : List RegDesc := [
  ⟨"BPM_POOL_CFG", 0x80030, 0x8, 1, 0x8, 1, 0x4000100006b, 0xffffffffffff, 0x0, 0x0⟩,
  ⟨"BPM_BANK_STATE", 0x80038, 0x8, 1, 0x8, 1, 0x0, 0x0, 0x0, 0x0⟩,
  ⟨"BPM_FREE", 0x80040, 0x8, 1, 0x8, 1, 0x2001006b0001c000, 0x0, 0x0, 0x0⟩,
  ⟨"BPM_COUNT0", 0x80048, 0x8, 1, 0x8, 1, 0x0, 0x0, 0xffffffffffffffff, 0x0⟩,
  ⟨"BPM_COUNT1", 0x80050, 0x8, 1, 0x8, 1, 0x0, 0x0, 0xffffffffffffffff, 0x0⟩,
  ⟨"BPM_FAULT", 0x80058, 0x8, 1, 0x8, 1, 0x0, 0x0, 0x0, 0x0⟩,
  ⟨"SCH_CMD", 0x90000, 0x8, 1, 0x8, 1, 0x0, 0x0, 0x0, 0x0⟩,
  ⟨"SCH_STATUS", 0x90008, 0x8, 1, 0x8, 1, 0x0, 0x0, 0x0, 0x0⟩,
  ⟨"SCH_DATA", 0x90010, 0x8, 1, 0x8, 5, 0x0, 0xffffffffffffffff, 0x0, 0x0⟩,
  ⟨"SCH_COUNT0", 0x90038, 0x8, 1, 0x8, 1, 0x0, 0x0, 0xffffffffffffffff, 0x0⟩,
  ⟨"MTR_GREEN", 0x90040, 0x8, 1, 0x8, 1, 0x0, 0x0, 0xffffffffffffffff, 0x0⟩,
  ⟨"MTR_YELLOW", 0x90048, 0x8, 1, 0x8, 1, 0x0, 0x0, 0xffffffffffffffff, 0x0⟩,
  ⟨"MTR_RED", 0x90050, 0x8, 1, 0x8, 1, 0x0, 0x0, 0xffffffffffffffff, 0x0⟩,
  ⟨"SCH_GCL_PEND", 0x90058, 0x8, 1, 0x8, 1, 0x0, 0x0, 0x0, 0x0⟩,
  ⟨"SCH_GCL_FOLIO", 0x90060, 0x8, 1, 0x8, 1, 0x0, 0x0, 0x0, 0x0⟩,
  ⟨"MCL_CMD", 0x93000, 0x8, 1, 0x8, 1, 0x0, 0x0, 0x0, 0x0⟩,
  ⟨"MCL_STATUS", 0x93008, 0x8, 1, 0x8, 1, 0x0, 0x0, 0x0, 0x0⟩,
  ⟨"MCL_DATA0", 0x93010, 0x8, 1, 0x8, 1, 0x0, 0xffffffffffffffff, 0x0, 0x0⟩,
  ⟨"MCL_DATA1", 0x93018, 0x8, 1, 0x8, 1, 0x0, 0xffffffffffffffff, 0x0, 0x0⟩,
  ⟨"MCL_COUNT", 0x93020, 0x8, 1, 0x8, 1, 0x0, 0x0, 0xffffffffffffffff, 0x0⟩,
  ⟨"LIG_CFG", 0x91000, 0x8, 1, 0x8, 64, 0x3800000000000258, 0xf8ff000000003fff, 0x0, 0x0⟩,
  ⟨"LIG_STATUS", 0x91200, 0x8, 1, 0x8, 64, 0x0, 0x0, 0x0, 0x0⟩,
  ⟨"LIG_COUNT0", 0x91400, 0x8, 1, 0x8, 64, 0x0, 0x0, 0xffffffffffffffff, 0x0⟩,
  ⟨"LIG_COUNT1", 0x91600, 0x8, 1, 0x8, 64, 0x0, 0x0, 0xffffffffffffffff, 0x0⟩]

/-- Registers of a slice block (Table 20.3), part 4. -/
def sliceRegs4 : List RegDesc := [
  ⟨"LIG_REFUSED", 0x91800, 0x8, 1, 0x8, 1, 0x0, 0x0, 0xffffffffffffffff, 0x0⟩,
  ⟨"EQX_CMD", 0x92000, 0x8, 1, 0x8, 1, 0x0, 0x0, 0x0, 0x0⟩,
  ⟨"EQX_STATUS", 0x92008, 0x8, 1, 0x8, 1, 0x0, 0x0, 0x0, 0x0⟩,
  ⟨"EQX_DATA0", 0x92010, 0x8, 1, 0x8, 1, 0x7000000000000, 0xffffffffffffffff, 0x0, 0x0⟩,
  ⟨"EQX_DATA1", 0x92018, 0x8, 1, 0x8, 1, 0x0, 0xffffffffffffffff, 0x0, 0x0⟩,
  ⟨"EQX_DATA2", 0x92020, 0x8, 1, 0x8, 1, 0x0, 0x0, 0x0, 0x0⟩,
  ⟨"EQX_COUNT", 0x92028, 0x8, 1, 0x8, 1, 0x0, 0x0, 0xffffffffffffffff, 0x0⟩,
  ⟨"EQX_LAST_LATE", 0x92030, 0x8, 1, 0x8, 1, 0x0, 0x0, 0x0, 0x0⟩,
  ⟨"EQX_PORT_COUNT", 0x92100, 0x8, 1, 0x8, 64, 0x0, 0x0, 0xffffffffffffffff, 0x0⟩,
  ⟨"CPB_CFG", 0xd0000, 0x8, 1, 0x8, 1, 0xc8000100000000, 0xffffff0300000001, 0x0, 0x0⟩,
  ⟨"CPB_CMD", 0xd0008, 0x8, 1, 0x8, 1, 0x0, 0x0, 0x0, 0x0⟩,
  ⟨"CPB_ARG", 0xd0010, 0x8, 1, 0x8, 1, 0x0, 0xffffffffffffffff, 0x0, 0x0⟩,
  ⟨"CPB_STATUS", 0xd0018, 0x8, 1, 0x8, 1, 0x0, 0x0, 0x0, 0x0⟩,
  ⟨"CPB_RUN", 0xd0020, 0x8, 1, 0x8, 1, 0x0, 0x0, 0x0, 0x0⟩,
  ⟨"CPB_HEAD", 0xd0028, 0x8, 1, 0x8, 1, 0xffffffffffffffff, 0x0, 0x0, 0x0⟩,
  ⟨"CPB_SEQ", 0xd0030, 0x8, 1, 0x8, 1, 0x0, 0x0, 0x0, 0x0⟩,
  ⟨"CPB_FREE", 0xd0038, 0x8, 1, 0x8, 1, 0x0, 0x0, 0x0, 0x0⟩,
  ⟨"CPB_HOST_NEXT", 0xd0040, 0x8, 1, 0x8, 1, 0x0, 0x0, 0x0, 0x0⟩,
  ⟨"CPB_SCRIBE_NEXT", 0xd0048, 0x8, 1, 0x8, 1, 0x0, 0x0, 0x0, 0x0⟩,
  ⟨"CPB_RECORDS", 0xd0050, 0x8, 1, 0x8, 1, 0x0, 0x0, 0xffffffffffffffff, 0x0⟩,
  ⟨"CPB_UNRECORDED", 0xd0058, 0x8, 1, 0x8, 1, 0x0, 0x0, 0x0, 0x0⟩,
  ⟨"CPB_COUNT0", 0xd0060, 0x8, 1, 0x8, 1, 0x0, 0x0, 0xffffffffffffffff, 0x0⟩,
  ⟨"CPB_COUNT1", 0xd0068, 0x8, 1, 0x8, 1, 0x0, 0x0, 0xffffffffffffffff, 0x0⟩,
  ⟨"FOL_SLICE_STATUS", 0x4000, 0x8, 1, 0x8, 1, 0x0, 0x0, 0x0, 0x0⟩]

/-- Registers of a slice block (Table 20.3), part 5. -/
def sliceRegs5 : List RegDesc := [
  ⟨"FOL_SPLIT_COUNT", 0x4008, 0x8, 1, 0x8, 1, 0x0, 0x0, 0xffffffffffffffff, 0x0⟩,
  ⟨"FOL_SEED_CTL", 0x4010, 0x8, 1, 0x8, 1, 0x0, 0x3, 0x0, 0x0⟩,
  ⟨"FOL_SEED_NEAR0", 0x4018, 0x8, 1, 0x8, 1, 0x0, 0xffffffffffffffff, 0x0, 0x0⟩,
  ⟨"FOL_SEED_NEAR1", 0x4020, 0x8, 1, 0x8, 1, 0xffffffffffffffff, 0xffffffffffffffff, 0x0, 0x0⟩,
  ⟨"FOL_SEED_FAR0", 0x4028, 0x8, 1, 0x8, 1, 0x0, 0xffffffffffffffff, 0x0, 0x0⟩,
  ⟨"FOL_SEED_FAR1", 0x4030, 0x8, 1, 0x8, 1, 0xffffffffffffffff, 0xffffffffffffffff, 0x0, 0x0⟩,
  ⟨"DRM_CFG", 0xe0000, 0x8, 1, 0x8, 1, 0x40040030102018, 0xffffffffffffffff, 0x0, 0x0⟩,
  ⟨"DRM_CMD", 0xe0008, 0x8, 1, 0x8, 1, 0x0, 0x0, 0x0, 0x0⟩,
  ⟨"DRM_STATUS", 0xe0010, 0x8, 1, 0x8, 1, 0x0, 0x0, 0x0, 0x0⟩,
  ⟨"DRM_GEOM", 0xe0018, 0x8, 1, 0x8, 1, 0x0, 0x0, 0x0, 0x0⟩,
  ⟨"DRM_REGION_FAR", 0xe0020, 0x8, 1, 0x8, 1, 0x8000000000000001, 0x80000fff00000fff, 0x0, 0x0⟩,
  ⟨"DRM_REGION_CPB", 0xe0028, 0x8, 1, 0x8, 1, 0x8000000100000400, 0x80000fff00000fff, 0x0, 0x0⟩,
  ⟨"DRM_REGION_RPL", 0xe0030, 0x8, 1, 0x8, 1, 0x0, 0x80000fff00000fff, 0x0, 0x0⟩,
  ⟨"DRM_REGION_SCR", 0xe0038, 0x8, 1, 0x8, 1, 0x0, 0x80000fff00000fff, 0x0, 0x0⟩,
  ⟨"DRM_XOR", 0xe0040, 0x8, 1, 0x8, 7, 0x0, 0xffffffffff, 0x0, 0x0⟩,
  ⟨"DRM_TRAIN", 0xe0080, 0x8, 1, 0x8, 10, 0x0, 0x0, 0x0, 0x0⟩,
  ⟨"DRM_COUNT0", 0xe00d0, 0x8, 1, 0x8, 1, 0x0, 0x0, 0xffffffffffffffff, 0x0⟩,
  ⟨"DRM_COUNT1", 0xe00d8, 0x8, 1, 0x8, 1, 0x0, 0x0, 0xffffffffffffffff, 0x0⟩,
  ⟨"RPL_COUNT0", 0xe1000, 0x8, 1, 0x8, 1, 0x0, 0x0, 0xffffffffffffffff, 0x0⟩,
  ⟨"RPL_COUNT1", 0xe1008, 0x8, 1, 0x8, 1, 0x0, 0x0, 0xffffffffffffffff, 0x0⟩,
  ⟨"RPL_GROUP0", 0xe2000, 0x8, 1, 0x8, 256, 0x0, 0xf000ffffffffffff, 0x0, 0x0⟩,
  ⟨"RPL_GROUP1", 0xe2800, 0x8, 1, 0x8, 256, 0x0, 0xffffff001fffff, 0x0, 0x0⟩,
  ⟨"RPL_NEXT", 0xe3000, 0x8, 1, 0x8, 256, 0x0, 0x0, 0x0, 0x0⟩,
  ⟨"RNG_BASE", 0x8000, 0x40, 256, 0x8, 1, 0x0, 0xffffffffffffffc0, 0x0, 0x0⟩]

/-- Registers of a slice block (Table 20.3), part 6. -/
def sliceRegs6 : List RegDesc := [
  ⟨"RNG_CFG", 0x8008, 0x40, 256, 0x8, 1, 0x0, 0xdf0007ffffffff01, 0x0, 0x0⟩,
  ⟨"RNG_TAIL", 0x8010, 0x40, 256, 0x8, 1, 0x0, 0xffff, 0x0, 0x0⟩,
  ⟨"RNG_HEAD", 0x8018, 0x40, 256, 0x8, 1, 0x10000, 0x0, 0x0, 0x0⟩,
  ⟨"RNG_STATUS", 0x8020, 0x40, 256, 0x8, 1, 0x0, 0x0, 0x0, 0x0⟩,
  ⟨"RNG_COUNT", 0x8028, 0x40, 256, 0x8, 1, 0x0, 0x0, 0xffffffffffffffff, 0x0⟩,
  ⟨"FLT_STATUS", 0xf0000, 0x8, 1, 0x8, 1, 0x0, 0x0, 0x0, 0x0⟩,
  ⟨"FLT_FENCED", 0xf0008, 0x8, 1, 0x8, 1, 0x0, 0x0, 0x0, 0x0⟩,
  ⟨"FLT_PORT_FENCED", 0xf0010, 0x8, 1, 0x8, 1, 0x0, 0x0, 0x0, 0x0⟩,
  ⟨"FLT_HIST_STATUS", 0xf0018, 0x8, 1, 0x8, 1, 0x0, 0x0, 0x0, 0x0⟩,
  ⟨"FLT_INT_CFG", 0xf0020, 0x8, 1, 0x8, 1, 0x0, 0x800007ff00000000, 0x0, 0x0⟩,
  ⟨"FLT_REFUSED", 0xf0028, 0x8, 1, 0x8, 1, 0x0, 0x0, 0xffff, 0x0⟩,
  ⟨"PMC_CTRL", 0x100000, 0x8, 1, 0x8, 1, 0x0, 0xc00007ff00000001, 0x0, 0x0⟩,
  ⟨"PMC_STATUS", 0x100008, 0x8, 1, 0x8, 1, 0x0, 0x0, 0x0, 0xffff⟩,
  ⟨"PMC_SMP_CFG", 0x100010, 0x8, 1, 0x8, 1, 0x0, 0xc000000000000000, 0x0, 0x0⟩,
  ⟨"PMC_SMP_STATUS", 0x100018, 0x8, 1, 0x8, 1, 0x0, 0x0, 0xffffffff, 0x0⟩,
  ⟨"PMC_SMP", 0x100020, 0x8, 1, 0x8, 4, 0x0, 0x0, 0x0, 0x0⟩,
  ⟨"PMC_CTR", 0x100100, 0x8, 1, 0x40, 16, 0x0, 0xffffffffffffffff, 0x0, 0x0⟩,
  ⟨"PMC_CFG", 0x100108, 0x8, 1, 0x40, 16, 0x0, 0xe0ff00f8ffffffff, 0x0, 0x0⟩,
  ⟨"PMC_FILT", 0x100110, 0x8, 1, 0x40, 16, 0x0, 0xffffffff000fffff, 0x0, 0x0⟩,
  ⟨"PMC_RANGE_LO", 0x100118, 0x8, 1, 0x40, 16, 0x0, 0xffffffffff, 0x0, 0x0⟩,
  ⟨"PMC_RANGE_HI", 0x100120, 0x8, 1, 0x40, 16, 0x0, 0xffffffffff, 0x0, 0x0⟩,
  ⟨"PMC_TD", 0x101000, 0x20, 16, 0x8, 4, 0x0, 0x0, 0x0, 0x0⟩,
  ⟨"DRP_COUNT", 0x3000, 0x8, 1, 0x8, 256, 0x0, 0x0, 0xffffffffffffffff, 0x0⟩]

/-- Registers of a slice block (Table 20.3). -/
def sliceRegs : List RegDesc :=
  sliceRegs0 ++ sliceRegs1 ++ sliceRegs2 ++ sliceRegs3 ++ sliceRegs4 ++ sliceRegs5 ++ sliceRegs6

/-- Registers of the global block (Table 20.4), part 0. -/
def globalRegs0 : List RegDesc := [
  ⟨"XBR_PART_MAP", 0x20008, 0x8, 1, 0x8, 1, 0x0, 0xffffffffffffffff, 0x0, 0x0⟩,
  ⟨"XBR_STATUS", 0x20010, 0x8, 1, 0x8, 1, 0x0, 0x0, 0x0, 0x0⟩,
  ⟨"XBR_PART_DROP", 0x20100, 0x8, 1, 0x8, 16, 0x0, 0x0, 0xffffffffffffffff, 0x0⟩,
  ⟨"TRF_CTRL", 0x30000, 0x8, 1, 0x8, 1, 0x0, 0x3ff0303ff0303, 0x0, 0x0⟩,
  ⟨"TRF_CMD", 0x30008, 0x8, 1, 0x8, 1, 0x0, 0x0, 0x0, 0x0⟩,
  ⟨"TRF_STATUS", 0x30010, 0x8, 1, 0x8, 1, 0x0, 0x0, 0x0, 0x0⟩,
  ⟨"TRF_OPERAND0", 0x30018, 0x8, 1, 0x8, 1, 0x0, 0xffffffffffffffff, 0x0, 0x0⟩,
  ⟨"TRF_OPERAND1", 0x30020, 0x8, 1, 0x8, 1, 0x0, 0xffffffff, 0x0, 0x0⟩,
  ⟨"TRF_BOUND_CFG", 0x30028, 0x8, 1, 0x8, 1, 0x180800083fff3fff, 0xffffffff3fff3fff, 0x0, 0x0⟩,
  ⟨"TRF_SERVO_CFG", 0x30030, 0x8, 1, 0x8, 1, 0x2000020010083240, 0xffffffffffffffff, 0x0, 0x0⟩,
  ⟨"TRF_OFFSET", 0x30038, 0x8, 1, 0x8, 1, 0x0, 0x0, 0x0, 0x0⟩,
  ⟨"TRF_TIME0", 0x30040, 0x8, 1, 0x8, 1, 0x3fff, 0x0, 0x0, 0x0⟩,
  ⟨"TRF_TIME1", 0x30048, 0x8, 1, 0x8, 1, 0x0, 0x0, 0x0, 0x0⟩,
  ⟨"TRF_TERMS", 0x30050, 0x8, 1, 0x8, 1, 0x3fff, 0x0, 0x0, 0x0⟩,
  ⟨"TRF_ADDEND", 0x30058, 0x8, 1, 0x8, 1, 0xaaaaaaaaaaaa, 0x0, 0x0, 0x0⟩,
  ⟨"LIG_SEED_NEXT", 0x30100, 0x8, 1, 0x8, 1, 0x0, 0x0, 0x0, 0x0⟩,
  ⟨"LIG_SEED_TIME0", 0x30108, 0x8, 1, 0x8, 1, 0x0, 0xffffffffffffffff, 0x0, 0x0⟩,
  ⟨"LIG_SEED_TIME1", 0x30110, 0x8, 1, 0x8, 1, 0x0, 0xffffffff, 0x0, 0x0⟩,
  ⟨"LIG_SEED_CMD", 0x30118, 0x8, 1, 0x8, 1, 0x0, 0x0, 0x0, 0x0⟩,
  ⟨"LIG_SEED_STATUS", 0x30120, 0x8, 1, 0x8, 1, 0x0, 0x0, 0x0, 0x0⟩,
  ⟨"CPB_SEAL_CFG", 0x51000, 0x8, 1, 0x8, 1, 0x3e8, 0x800fff00000fffff, 0x0, 0x0⟩,
  ⟨"CPB_SEAL_STATUS", 0x51008, 0x8, 1, 0x8, 1, 0x0, 0x0, 0x0, 0x0⟩,
  ⟨"CPB_SEAL_NUMBER", 0x51010, 0x8, 1, 0x8, 1, 0x0, 0x0, 0x0, 0x0⟩,
  ⟨"CPB_SEAL_COUNT", 0x51018, 0x8, 1, 0x8, 1, 0x0, 0x0, 0xffffffffffffffff, 0x0⟩]

/-- Registers of the global block (Table 20.4), part 1. -/
def globalRegs1 : List RegDesc := [
  ⟨"CPB_KEY_ID0", 0x51020, 0x8, 1, 0x8, 1, 0x0, 0x0, 0x0, 0x0⟩,
  ⟨"CPB_KEY_ID1", 0x51028, 0x8, 1, 0x8, 1, 0x0, 0x0, 0x0, 0x0⟩,
  ⟨"CPB_CERT_LEN", 0x51030, 0x8, 1, 0x8, 1, 0x0, 0x0, 0x0, 0x0⟩,
  ⟨"CPB_CERT", 0x51800, 0x8, 1, 0x8, 256, 0x0, 0x0, 0x0, 0x0⟩,
  ⟨"FOL_CMD", 0x40000, 0x8, 1, 0x8, 1, 0x0, 0x0, 0x0, 0x0⟩,
  ⟨"FOL_STATUS", 0x40008, 0x8, 1, 0x8, 1, 0x0, 0x0, 0x0, 0x0⟩,
  ⟨"FOL_TIME0", 0x40010, 0x8, 1, 0x8, 1, 0x0, 0xffffffffffffffff, 0x0, 0x0⟩,
  ⟨"FOL_TIME1", 0x40018, 0x8, 1, 0x8, 1, 0x0, 0xffffffff, 0x0, 0x0⟩,
  ⟨"FOL_EPOCH", 0x40020, 0x8, 1, 0x8, 1, 0x0, 0x0, 0x0, 0x0⟩,
  ⟨"FOL_COUNT", 0x40028, 0x8, 1, 0x8, 1, 0x0, 0x0, 0xffffffffffffffff, 0x0⟩,
  ⟨"FOL_MON_STATUS", 0x40030, 0x8, 1, 0x8, 1, 0x0, 0x0, 0x0, 0x0⟩,
  ⟨"HST_LINK_CFG", 0x10000, 0x8, 1, 0x8, 4, 0x400000002710, 0x7fff000fffff, 0x0, 0x0⟩,
  ⟨"HST_LINK_STATUS", 0x10020, 0x8, 1, 0x8, 4, 0x0, 0x0, 0x0, 0x0⟩,
  ⟨"HST_PF_MAP", 0x10040, 0x8, 1, 0x8, 1, 0x8888888888888888, 0xffffffffffffffff, 0x0, 0x0⟩,
  ⟨"HST_OWNER_PF", 0x10048, 0x8, 1, 0x8, 1, 0x0, 0xf, 0x0, 0x0⟩,
  ⟨"HST_BAR2_SIZE", 0x10050, 0x8, 1, 0x8, 1, 0x0, 0xffffffffffffffff, 0x0, 0x0⟩,
  ⟨"HST_CMD", 0x10058, 0x8, 1, 0x8, 1, 0x0, 0x0, 0x0, 0x0⟩,
  ⟨"HST_STATUS", 0x10060, 0x8, 1, 0x8, 1, 0x100, 0x0, 0x0, 0x0⟩,
  ⟨"HST_WIN_DATA0", 0x10068, 0x8, 1, 0x8, 1, 0x0, 0xff3f010fffffffff, 0x0, 0x0⟩,
  ⟨"HST_WIN_DATA1", 0x10070, 0x8, 1, 0x8, 1, 0x0, 0xffffffffff, 0x0, 0x0⟩,
  ⟨"HST_TAGS", 0x10078, 0x8, 1, 0x8, 1, 0x0, 0x0, 0x0, 0x0⟩,
  ⟨"HST_COUNT0", 0x10080, 0x8, 1, 0x8, 1, 0x0, 0x0, 0xffffffffffffffff, 0x0⟩,
  ⟨"HST_COUNT1", 0x10088, 0x8, 1, 0x8, 1, 0x0, 0x0, 0xffffffffffffffff, 0x0⟩,
  ⟨"HST_COUNT2", 0x10090, 0x8, 1, 0x8, 1, 0x0, 0x0, 0xffffffffffffffff, 0x0⟩]

/-- Registers of the global block (Table 20.4), part 2. -/
def globalRegs2 : List RegDesc := [
  ⟨"PMX_FEAT", 0x70000, 0x8, 1, 0x8, 7, 0x0, 0x800f03f0ffff030f, 0x0, 0x0⟩,
  ⟨"PMX_CMD", 0x70100, 0x8, 1, 0x8, 1, 0x0, 0x0, 0x0, 0x0⟩,
  ⟨"PMX_STATUS", 0x70108, 0x8, 1, 0x8, 1, 0x0, 0x0, 0x0, 0x0⟩,
  ⟨"PMX_GPIO", 0x70110, 0x8, 1, 0x8, 1, 0x0, 0xffffffff, 0x0, 0x0⟩,
  ⟨"SEC_LC", 0x50000, 0x8, 1, 0x8, 1, 0x0, 0x0, 0x0, 0x0⟩,
  ⟨"SEC_STATUS", 0x50008, 0x8, 1, 0x8, 1, 0x0, 0x0, 0x0, 0x0⟩,
  ⟨"SEC_TAMPER_CFG", 0x50010, 0x8, 1, 0x8, 1, 0x0, 0x3, 0x0, 0x0⟩,
  ⟨"SEC_FW_VERSION", 0x50018, 0x8, 1, 0x8, 1, 0x0, 0x0, 0x0, 0x0⟩,
  ⟨"SEC_SERIAL", 0x50020, 0x8, 1, 0x8, 1, 0x0, 0x0, 0x0, 0x0⟩,
  ⟨"SCB_MBX_CMD", 0x60000, 0x8, 1, 0x8, 1, 0x0, 0x0, 0x0, 0x0⟩,
  ⟨"SCB_MBX_STATUS", 0x60008, 0x8, 1, 0x8, 1, 0x0, 0x0, 0x0, 0x0⟩,
  ⟨"SCB_RING_MAP", 0x60010, 0x8, 1, 0x8, 1, 0x0, 0xffffffffffffffff, 0x0, 0x0⟩,
  ⟨"SCB_COUNT", 0x60018, 0x8, 1, 0x8, 1, 0x0, 0x0, 0xffffffffffffffff, 0x0⟩,
  ⟨"SCB_MBX_DATA", 0x60100, 0x8, 1, 0x8, 192, 0x0, 0xffffffffffffffff, 0x0, 0x0⟩,
  ⟨"TLY_CFG", 0x90000, 0x8, 1, 0x8, 1, 0x10000, 0xc1f007ff1fff0000, 0x0, 0x0⟩,
  ⟨"TLY_PERIOD", 0x90008, 0x8, 1, 0x8, 1, 0xa, 0xfffff, 0x0, 0x0⟩,
  ⟨"TLY_BASE", 0x90010, 0x8, 1, 0x8, 1, 0x0, 0xfffffffffffff000, 0x0, 0x0⟩,
  ⟨"TLY_HEAD", 0x90018, 0x8, 1, 0x8, 1, 0x0, 0x0, 0x0, 0x0⟩,
  ⟨"TLY_TAIL", 0x90020, 0x8, 1, 0x8, 1, 0x0, 0xffff, 0x0, 0x0⟩,
  ⟨"TLY_COUNT", 0x90028, 0x8, 1, 0x8, 1, 0x0, 0x0, 0xffffffffffffffff, 0x0⟩,
  ⟨"TLY_LIST", 0x98000, 0x8, 1, 0x8, 4096, 0x0, 0x8000000007fffff8, 0x0, 0x0⟩,
  ⟨"GLB_RST_CMD", 0x50, 0x8, 1, 0x8, 1, 0x0, 0x0, 0x0, 0x0⟩,
  ⟨"GLB_RST_STATUS", 0x58, 0x8, 1, 0x8, 1, 0x10000100, 0x0, 0x0, 0x0⟩,
  ⟨"GLB_STRAPS", 0x60, 0x8, 1, 0x8, 1, 0x0, 0x0, 0x0, 0x0⟩]

/-- Registers of the global block (Table 20.4), part 3. -/
def globalRegs3 : List RegDesc := [
  ⟨"GLB_REFUSED", 0x68, 0x8, 1, 0x8, 1, 0x0, 0x0, 0xffffffffffffffff, 0x0⟩,
  ⟨"GLB_ID", 0x0, 0x8, 1, 0x8, 1, 0xb004006a4b, 0x0, 0x0, 0x0⟩,
  ⟨"GLB_CLK_STATUS", 0x40, 0x8, 1, 0x8, 1, 0x0, 0xffff00000000, 0x0, 0x8⟩,
  ⟨"GLB_HEALTH", 0x48, 0x8, 1, 0x8, 1, 0x0, 0xffffffff0001, 0x0, 0x0⟩,
  ⟨"DFLT_STATUS", 0x80000, 0x8, 1, 0x8, 1, 0x0, 0x0, 0x0, 0x0⟩,
  ⟨"DFLT_FENCED", 0x80008, 0x8, 1, 0x8, 1, 0x0, 0x0, 0x0, 0x0⟩,
  ⟨"DFLT_PORT_FENCED", 0x80010, 0x8, 1, 0x8, 1, 0x0, 0x0, 0x0, 0x0⟩,
  ⟨"DFLT_HIST_STATUS", 0x80018, 0x8, 1, 0x8, 1, 0x0, 0x0, 0x0, 0x0⟩,
  ⟨"DFLT_INT_CFG", 0x80020, 0x8, 1, 0x8, 1, 0x0, 0x800007ff00000000, 0x0, 0x0⟩,
  ⟨"DFLT_REFUSED", 0x80028, 0x8, 1, 0x8, 1, 0x0, 0x0, 0xffff, 0x0⟩]

/-- Registers of the global block (Table 20.4). -/
def globalRegs : List RegDesc :=
  globalRegs0 ++ globalRegs1 ++ globalRegs2 ++ globalRegs3

/-- Whether a register of the row lies at offset `o`. -/
def RegDesc.covers (d : RegDesc) (o : Nat) : Bool :=
  let x := o - d.base
  let w := if d.winCount = 1 then 0 else x / d.winStride
  let r := x - w * d.winStride
  decide (d.base ≤ o) && decide (w < d.winCount) && decide (r % d.stride = 0) && decide (r / d.stride < d.count)

/-- The row of a table that covers an offset. -/
def findReg (t : List RegDesc) (o : Nat) : Option RegDesc := t.find? (fun d => d.covers o)

/-- The reset value at an offset; 0 where no register lies (R480). -/
def regReset (t : List RegDesc) (o : Nat) : Word := ((findReg t o).map (fun d => word d.reset)).getD 0

end Sys2Proof.Machine
end

