-- ==== Sys2Proof/Machine/State.lean ====
section
/-!
DEFINITION. The state of the GK1024 as the spec gives it, the reasons a step can stop, and the state after reset.
State is plain data.  Sparse arrays are `NMap`s in canonical form.  Fields marked (model) are the model's own.
-/
namespace Sys2Proof.Machine
open Sys2Proof

/-- Why the block stops on a command.  No command of the table stops it: every one has an effect or is discarded. -/
inductive Fault where
  /-- Raised by no command: kept so that a fault has a type (safe). -/
  | none
  deriving DecidableEq, Repr

/-- Why a command has no meaning in the model. -/
inductive Refusal where
  /-- Raised by the dispatcher for a command that is not modelled, by its name (safe). -/
  | notModelled (mnemonic : String)
  deriving DecidableEq, Repr

/-- The command status codes of Table 00.5 (R7). -/
inductive CmdStatus where
  | ok | busy | alreadyPresent | notFound | fullRehash | stateRefused | permission | badArg | fenced | timeout
  deriving DecidableEq, Repr

/-- BUSY and CMD_STATUS of one command register (R4, R7). -/
structure CmdReg where
  busy   : Bool := false
  status : CmdStatus := .ok
  deriving DecidableEq, Repr

/-- CORE_STATE (R468). -/
inductive CoreState where
  | off | held | starting | up
  deriving DecidableEq, Repr

/-- PWR_STATE of a slice (Table 01.6). -/
inductive PwrState where
  | active | retention | entering | leaving
  deriving DecidableEq, Repr

/-- SERVO_STATE (Table 02.13). -/
inductive ServoState where
  | freerun | acquiring | locked | holdover
  deriving DecidableEq, Repr

/-- A bounded timestamp: SEC [95:48], NS [47:18], SIXTEENTH [17:14], BOUND [13:0] (R39). -/
abbrev Stamp := BitVec 96

/-- Which bound term is current (R496). -/
inductive RefTerm where
  | none | ptp | pps | tod (bound : Nat)
  deriving DecidableEq, Repr

/-- The central time reference and servo ("Device Time and the Bounded Timestamp").  Times are in 2⁻⁴⁸ ns. -/
structure TimeRef where
  /-- The accumulator of Table 02.3 as one number of 2⁻⁴⁸ ns since the epoch. -/
  acc         : Nat := 0
  /-- Added on every CCLK cycle (TRF_ADDEND), 2⁻⁴⁸ ns. -/
  addend      : Nat := 0xAAAAAAAAAAAA
  cmd         : CmdReg := {}
  servo       : ServoState := .freerun
  /-- The most recent 16 values of |e|, newest first, in 1/256 ns (R54). -/
  history     : List Nat := []
  /-- The residual frozen on entry to HOLDOVER. -/
  residual    : Nat := 0
  /-- integ in 1/256 ns × CCLK cycles. -/
  integ       : Int := 0
  /-- Uptime of the last accepted sample, and whether the next sample has a tau. -/
  lastSample  : Option Nat := none
  /-- The sample error and tau of the last sample that updated the servo (R53). -/
  lastE       : Int := 0
  lastTau     : Nat := 0
  /-- Consecutive good samples (LOCK_COUNT). -/
  goodRun     : Nat := 0
  /-- Uptime from which wander counts: last accepted sample or TOD_LOAD. -/
  wanderFrom  : Nat := 0
  refTerm     : RefTerm := .none
  /-- A TOD_LOAD has completed since core reset (R51). -/
  todLoaded   : Bool := false
  /-- A running TOD_LOAD: uptime and accumulator at its start, the operand. -/
  todPending  : Option (Nat × Nat × Nat) := none
  /-- A step of −e that waits for the next marker, in 1/256 ns (R55). -/
  stepPending : Option Int := none
  /-- FREERUN waits for the next marker to unbound every capture (R58). -/
  freerunPending : Bool := false
  /-- A write has selected the ToD reference, and the residual term it lowers stands until the next marker (R58). -/
  resHeld     : Bool := false
  /-- The servo is slewing or clamped at the R46 limit. -/
  clamped     : Bool := false
  /-- REF_PRESENT (R497), and the uptime from which the loss timer of the reference runs. -/
  refPresent  : Bool := false
  lossFrom    : Option Nat := none
  /-- The selected phase reference, or the selected frequency source, is lost. -/
  refLost     : Bool := false
  freqLost    : Bool := false
  /-- The last measured frequency offset f_src in parts per 10⁹. -/
  fSrc        : Int := 0
  /-- Bound terms in use, while a lowered write waits for the next marker (R58); the whole TRF_BOUND_CFG in force. -/
  boundCfg    : Word := 0x180800083FFF3FFF
  /-- STEP_COUNT, LOCK_LOSS_COUNT, SAMPLE_DISCARD of TRF_STATUS. -/
  steps       : Nat := 0
  lockLosses  : Nat := 0
  discards    : Nat := 0
  /-- TRF_TIME1 as latched by the last read of TRF_TIME0. -/
  time1       : Word := 0
  deriving DecidableEq, Repr

/-- One slice's time base unit (R47, R61). -/
structure Tbu where
  acc        : Nat := 0
  /-- Correction still to be applied by the trim, 2⁻⁴⁸ ns (R47). -/
  trim       : Int := 0
  /-- The last two skews, newest first, in 1/256 ns. -/
  skew0      : Int := 0
  skew1      : Int := 0
  /-- Consecutive completed checks, at most 2. -/
  checks     : Nat := 0
  checkValid : Bool := false
  alarm      : Bool := false
  /-- TBU_TIME1 as latched. -/
  time1      : Word := 0
  deriving DecidableEq, Repr

/-- A multi-field view of the parse record (Table 03.13). -/
structure ParseRec where
  flags    : Nat := 0
  oL3      : Nat := 0
  oL4      : Nat := 0
  tunnel   : Nat := 0
  iL2      : Nat := 0
  iL3      : Nat := 0
  iL4      : Nat := 0
  payOff   : Nat := 0
  payLen   : Nat := 0
  frameLen : Nat := 0
  ethType  : Nat := 0
  vlan0    : Nat := 0
  vlan1    : Nat := 0
  ipProto  : Nat := 0
  mpls     : Nat := 0
  l4src    : Nat := 0
  l4dst    : Nat := 0
  fragId   : Nat := 0
  fragOff  : Nat := 0
  deriving DecidableEq, Repr

/-- A frame as it is received: its bytes so far, FCS included, shared by the ingress slice and the slices that hold copies. -/
structure Frame where
  bytes : List Byte := []
  /-- The last byte has arrived. -/
  done  : Bool := false
  /-- The MAC found the frame bad (R75, R76). -/
  bad   : Bool := false
  /-- A cell of it was refused (R249): no whole copy of it can be sent. -/
  cutOff : Bool := false
  /-- An express frame has interrupted its reception: it arrives in fragments (R80). -/
  parts : Bool := false
  deriving DecidableEq, Repr

/-- One lane's port window: configuration in force, link, calibration, pause and preemption state. -/
structure Lane where
  cmd       : CmdReg := {}
  enabled   : Bool := false
  /-- The lowest lane of the port that last held it, as ENABLE formed it (R71, R439). -/
  base      : Option Nat := none
  /-- PRT_CFG and PRT_PREEMPT as ENABLE took them (R71, R80). -/
  cfg       : Word := 0
  preCfg    : Word := 0
  linkUp    : Bool := false
  /-- Uptime of the last LINK_UP rise; CAL_VALID follows 1 µs later (R85). -/
  linkUpAt  : Nat := 0
  calValid  : Bool := false
  /-- Factory delays with deskew, before the software adjustments, in 1/16 ns and 1/256 ns. -/
  facRx     : Nat := 0
  facTx     : Nat := 0
  facUnc    : Nat := 0
  /-- PRT_CAL_ADJ as last written, as it stood before, and the uptime of the write, from which it waits two cycles (R87). -/
  adj       : Word := 0
  adjPrev   : Word := 0
  adjAt     : Option Nat := none
  /-- Uptime until which FAULT_RECENT is 1. -/
  faultUntil : Nat := 0
  /-- Received 802.3x pause, and received PFC pauses by priority: uptime of the end. -/
  pauseUntil : Option Nat := none
  pfcUntil  : NMap (Option Nat) := []
  preempt   : Bool := false
  /-- Priorities for which the port asks for pause (bit 0 alone for 802.3x). -/
  asking    : Nat := 0
  /-- Priorities whose own count asks (R260). -/
  overAsk   : Nat := 0
  /-- By priority (0 for 802.3x), the uptime of the last pause frame that asked for it (R79). -/
  askedAt   : NMap Nat := []
  /-- Cells charged by priority (R259). -/
  charges   : NMap Nat := []
  /-- Packet whose frame is being received, and the one whose frame an express frame has interrupted (R80; model). -/
  rx        : Option Nat := none
  rxHeld    : Option Nat := none
  /-- A port that left service completes the frame that it is transmitting; its lanes are not yet idle (R73). -/
  draining  : Bool := false
  /-- Frames of the port whose parse records are not complete, oldest first (model). -/
  unparsed  : List Nat := []
  /-- Sequence number of the next frame, lowest number not yet retired, and numbers above it whose packets are retired
  or handed on, or whose threads have ended (R111, R121, R176). -/
  seqNext   : Nat := 0
  turn      : Nat := 0
  doneAhead : List Nat := []
  /-- Of `doneAhead`, those whose packets hold a restorer entry until their turn (R121, R124). -/
  entryAhead : List Nat := []
  ended     : List Nat := []
  deriving DecidableEq, Repr

/-- State of a fragment entry (R101, R102). -/
inductive FragState where
  | pending | decided (bank : Nat) (pc : Nat) (arg : Nat) (epoch : Nat) | noDecision
  deriving DecidableEq, Repr

/-- One fragment table entry (R100). -/
structure FragEntry where
  key     : List Byte
  /-- Creation time and lifetime, in 1/16 ns. -/
  created : Nat
  life    : Nat
  state   : FragState
  /-- The packet whose first fragment made the entry. -/
  maker   : Nat
  /-- It has left OCCUPANCY (R107). -/
  expired : Bool := false
  deriving DecidableEq, Repr

/-- The fragment table of a slice: 1,024 sets of 4 ways, key = 4 · set + way. -/
structure FragTable where
  cmd     : CmdReg := {}
  entries : NMap (Option FragEntry) := []
  /-- Fragments in the wait list, oldest first, with the entry each waits for. -/
  waiting : List (Nat × Nat) := []
  deriving DecidableEq, Repr

/-- One entry of an edit list (R179 to R186).  Timestamps that are known at issue are held in the entry. -/
inductive Edit where
  | set (off len : Nat) (data : Word)
  | ins (off len : Nat) (data : Word)
  | del (off len : Nat)
  | csumIp4 (off : Nat)
  | csumL4 (off start : Nat) (udp4 : Bool)
  | stampRx (off fmt : Nat) (le : Bool) (t : Stamp)
  | stampTx (off fmt : Nat) (le : Bool)
  | corr (off : Nat) (t : Stamp)
  deriving DecidableEq, Repr

/-- Where a copy goes (R191 to R194). -/
inductive Target where
  | queue (q : Nat)
  | port (p : Nat)
  | merge (p : Nat)
  | eqx (g : Nat)
  | mcast (l : Nat)
  | punt (ring code : Nat) (edited : Bool)
  /-- An archived frame toward a subscriber queue (RPLY). -/
  | replay (q : Nat) (bytes : List Byte)
  deriving DecidableEq, Repr

/-- One copy of a packet, as its EMIT, PUNT or RPLY made it. -/
structure Copy where
  target  : Target
  /-- Crossbar class, CLASS and COLOUR of the copy (R191). -/
  xcls    : Nat
  cls     : Nat
  colour  : Nat
  edits   : List Edit
  cut     : Bool
  /-- m13 at issue, for its punt descriptor (R164, R193). -/
  info    : Word := 0
  /-- A drop reason that applied at issue (R15, R23), 0 for none. -/
  dead    : Nat
  /-- For a list or a group: the slices that R15 and R23 barred at issue, with their reasons (R192). -/
  barred  : NMap Nat := []
  /-- RANK of a merge copy (R289) and release instant of an Equinox copy, set at commit; times in 1/16 ns. -/
  rank    : Nat := 0
  release : Nat := 0
  /-- TOL and PFC_PRIO of the group, and the slices to which the copy goes, as the commit found them (R302, R499). -/
  tol     : Nat := 0
  pfc     : Nat := 7
  slices  : List Nat := []
  deriving DecidableEq, Repr

/-- State of a tag: FREE, PENDING, or DONE with its status (R163). -/
inductive Tag where
  | free | pending | done (st : CmdStatus)
  deriving DecidableEq, Repr

/-- An asynchronous operation under way (R163). -/
inductive AsyncOp where
  | lkpEm (tier : Nat) (wide ldsr : Bool) (key : Nat) (d : Nat)
  | lkpRm (bank rmw : Nat) (key : Nat) (d : Nat)
  | lkpSr (idx : Nat) (d : Nat)
  /-- `idx = none`: SRM with m3.VALID = 0. -/
  | meter (idx : Option Nat) (len : Nat) (setc : Bool) (colour : Nat) (d : Nat)
  | seqAdd (idx : Option Nat) (inc : Word) (ord : Bool) (d : Nat)
  | sha (bytes : List Byte) (d : Nat)
  | rply (queue group num : Nat) (cls colour : Nat) (info : Word) (d : Nat)
  deriving DecidableEq, Repr

/-- A register: g0 to g31, or m0 to m15. -/
structure Ref where
  m : Bool
  n : Nat
  deriving DecidableEq, Repr

/-- What an operation answers: status, values of destinations, and the frame of an archived packet. -/
structure OpResult where
  st   : CmdStatus
  vals : List (Ref × Word)
  copy : Option (List Byte) := none
  deriving DecidableEq, Repr

/-- An operation whose thread ended while it was pending (R167): its thread and tag, epoch, lane and sequence number. -/
structure Orphan where
  thread : Nat
  tag    : Nat
  epoch  : Nat
  lane   : Nat
  seq    : Nat
  op     : AsyncOp
  deriving DecidableEq, Repr

/-- What holds a thread. -/
inductive Hold where
  | none
  /-- An instruction cache miss (R126). -/
  | icache
  /-- A WAIT on a tag mask (R165). -/
  | wait (mask : Nat)
  /-- END, or DROP with its code, waiting for pending tags (R167). -/
  | ending
  | dropping (code : Nat)
  deriving DecidableEq, Repr

/-- One hardware thread that holds a packet (Table 05.1). -/
structure Thread where
  pkt      : Nat
  /-- g1 to g31. -/
  g        : NMap Word := []
  /-- m0 to m15. -/
  m        : NMap Word := []
  z        : Bool := false
  n        : Bool := false
  c        : Bool := false
  v        : Bool := false
  pc       : Nat := 0
  bank     : Nat := 0
  epoch    : Nat := 0
  tags     : NMap Tag := []
  /-- Operations under way: (tag, operation), oldest first. -/
  ops      : List (Nat × AsyncOp) := []
  /-- Of those, the ones that have taken effect on their unit, with what they answer: a later one has completed first (R166). -/
  results  : List (Nat × OpResult) := []
  edits    : List Edit := []
  copies   : List Copy := []
  /-- Issues of EMIT, PUNT and RPLY (R191). -/
  issued   : Nat := 0
  /-- Copybook record index chosen by LEDG (R187). -/
  ledg     : Option Nat := none
  tctl     : Word := 0
  /-- TIME1 latched by the thread's last read of TIME0 (R153). -/
  time1    : Word := 0
  /-- Core cycle of the first issue, once it has issued. -/
  firstAt  : Option Nat := none
  hold     : Hold := .none
  /-- RUN_LIMIT in cycles, as it stood when the packet started (R115, R132). -/
  limit    : Nat := 256
  /-- Cycle from which the next instruction was next in its thread (WAIT_BEFORE of R458). -/
  nextAt   : Nat := 0
  /-- Sampled instructions not yet complete: (tag, or 8 for WAIT), counter, issue cycle, wait before, opcode, PC (R458). -/
  samples  : List (Nat × Nat × Nat × Nat × Nat × Nat) := []
  deriving DecidableEq, Repr

/-- A packet at its ingress slice. -/
structure Packet where
  /-- Key in the frame store. -/
  frame    : Nat
  /-- Lane within the slice of the ingress port's lowest lane, and the port's SPEED. -/
  lane     : Nat
  speed    : Nat
  capture  : Stamp
  /-- PAR_CFG as it stood when the start of frame was received (R99). -/
  parCfg   : Word := 0x1000112B5
  /-- Captured under the slice's skew alarm (R63). -/
  alarm    : Bool := false
  /-- Folio epoch in which the capture falls (R110). -/
  epoch    : Nat := 0
  /-- Sequence number, once parsed (R111). -/
  seq      : Nat := 0
  parse    : ParseRec := {}
  /-- Cells of the body, first cell first. -/
  cells    : List Nat := []
  prio     : Nat := 0
  /-- Marked for drop with BUFFER_FULL (R249). -/
  full     : Bool := false
  /-- Entry point, bank and pinned flag of its dispatch; `deflt`: it takes DEFAULT_PC when it starts (R110, R132). -/
  pc       : Nat := 0
  deflt    : Bool := false
  bank     : Nat := 0
  pinned   : Bool := false
  /-- m3 at start. -/
  sr       : Word := 0
  /-- m13 at start, and the entry point of a frame that a TX ring injected (R395). -/
  info     : Word := 0
  entryPc  : Option Nat := none
  fragArg  : Nat := 0
  redisp   : Bool := false
  stolen   : Bool := false
  /-- Holds a restorer entry (R124). -/
  entry    : Bool := false
  /-- Copies committed and not yet handed on; `none` until the thread ends (R120). -/
  committed : Option (List Copy) := none
  /-- Merge and Equinox copies toward its own slice that wait for the frame's last byte: they are never cut-through (R31). -/
  held     : List Copy := []
  /-- Copies handed toward the crossbar or local egress whose cells have not all crossed (R30). -/
  leaving  : Nat := 0
  /-- Egress slices, inbound chains and crossbar classes that take it while its frame still arrives (cut-through, R31). -/
  crossed  : List (Nat × Nat × Nat) := []
  /-- A copy of it has been handed on (R198). -/
  handed   : Bool := false
  /-- It committed evidential. -/
  evidential : Bool := false
  /-- It has left the parser with its sequence number (R111). -/
  parsed   : Bool := false
  deriving DecidableEq, Repr

/-- The sequencer's state (Table 04.14). -/
inductive SeqState where
  | empty | running | halted
  deriving DecidableEq, Repr

/-- The slice sequencer (R134): control store, PC, stack, registers, flags, traps. -/
structure Sequencer where
  state    : SeqState := .empty
  /-- Control store; key = word address, 256-bit microwords as numbers.  Unlisted words hold the fill word of R133. -/
  store    : NMap Nat := []
  /-- The micro-PC, a word address. -/
  pc       : Nat := 0
  /-- The micro-stack: its entries by depth, and DEPTH. -/
  stack    : NMap Nat := []
  depth    : Nat := 0
  regs     : NMap Word := []
  flags    : Nat := 0
  pending  : Nat := 0
  inTrap   : Bool := false
  version  : Word := 0
  lastCause : Nat := 0
  savedPc  : Nat := 0
  savedDepth : Nat := 0
  savedFlags : Nat := 0
  deriving DecidableEq, Repr

/-- One engine cluster: dispatch queue, instruction cache, scratchpad (R112, R126, R127). -/
structure Cluster where
  /-- Packets in the dispatch queue, head first; the uptime at which the head became head, and STEAL_THRESH then (R132). -/
  queue    : List Nat := []
  headAt   : Nat := 0
  thresh   : Nat := 0
  /-- Uptime at which the cluster last started a packet, and at which its queue last lost its head (R113, R117). -/
  startAt  : Option Nat := none
  lostAt   : Option Nat := none
  /-- Cached lines of each set, most recently used first; a line is bank · 4,096 + PC / 8. -/
  icache   : NMap (List Nat) := []
  /-- Misses outstanding: (line, thread). -/
  misses   : List (Nat × Nat) := []
  spad     : NMap Byte := []
  /-- By scratchpad bank, the cycle from which it is free and the Quill that it serves last; by thread, the cycle until which a bank
  conflict stalls it (R127). -/
  banks    : NMap (Nat × Nat) := []
  stalled  : NMap Nat := []
  deriving DecidableEq, Repr

/-- One performance sample record (Table 18.3), as the number its 32 bytes hold. -/
abbrev Sample := Nat

/-- The issue slot of a Quill in one cycle (R457): the cycle, the thread, CLASS and PC of its instruction, and whether it retired. -/
structure Slot where
  cycle   : Nat
  thread  : Nat
  cls     : Nat
  pc      : Nat
  retired : Bool
  deriving DecidableEq, Repr

/-- A sampled instruction whose result is not yet available (R458): its thread, the cycle in which it completes, counter, issue cycle,
wait before, opcode and PC. -/
structure SyncSample where
  thread : Nat
  due    : Nat
  ctr    : Nat
  issued : Nat
  wait   : Nat
  op     : Nat
  pc     : Nat
  deriving DecidableEq, Repr

/-- Performance monitoring state beside its registers (R453 to R459). -/
structure Pmc where
  /-- Samples held, oldest first, and the queue of at most 8 before the buffer, which takes one in a cycle (R459). -/
  samples  : List Sample := []
  queue    : List Sample := []
  /-- Sampled instructions whose results are not yet available. -/
  sync     : List SyncSample := []
  /-- The last issue slot that each Quill used; key = 32 · cluster + Quill. -/
  slots    : NMap (Option Slot) := []
  /-- What events have added to each counter in this cycle (R455). -/
  added    : NMap Nat := []
  smp1     : Word := 0
  smp2     : Word := 0
  smp3     : Word := 0
  /-- Core cycle at which the slot classes were last cleared; RETIRED, WASTED and BACK by cluster. -/
  retired  : NMap Nat := []
  wasted   : NMap Nat := []
  back     : NMap Nat := []
  /-- Deferred overflow interrupt and the uptime of the last one. -/
  intWaits : Bool := false
  lastInt  : Option Nat := none
  deriving DecidableEq, Repr

/-- One exact-match entry with its control bits (R201); a wide one is held at its first slot. -/
structure Entry where
  key    : Nat
  wide   : Bool
  result : Word
  lrn    : Bool := false
  hit    : Bool := false
  old    : Bool := false
  gen    : Bool := false
  pass   : Bool := false
  /-- 1 OLD, 2 NEW, 3 BOTH (Table 07.3). -/
  vis    : Nat := 3
  fenced : Bool := false
  deriving DecidableEq, Repr

/-- Digest state of one segment (R225, R226). -/
structure Segment where
  expect   : Word := 0
  valid    : Bool := false
  /-- EXPECT_VALID has been 1 since the pass in progress started. -/
  whole    : Bool := false
  changed  : Bool := false
  /-- The accumulator of the pass in progress. -/
  acc      : Word := 0
  /-- Digest of the last completed pass, and what DIGEST_READ reports of that pass. -/
  digest   : Word := 0
  wasValid : Bool := false
  compared : Bool := false
  mismatch : Bool := false
  deriving DecidableEq, Repr

/-- One tier of a slice's exact-match tables; stash slots follow the main ones (R209). -/
structure Tier where
  slots   : NMap (Option Entry) := []
  /-- Seeds in force, and those of the previous generation. -/
  seed0   : Word := 0
  seed1   : Word := 0xFFFFFFFFFFFFFFFF
  old0    : Word := 0
  old1    : Word := 0xFFFFFFFFFFFFFFFF
  gen     : Bool := false
  /-- The rotating victim pointer (R206). -/
  ptr     : Nat := 0
  mig     : Bool := false
  stalled : Bool := false
  flush   : Bool := false
  /-- Pass parity, whether a pass runs, whether the next one is due, and the next slot it visits. -/
  parity  : Bool := false
  passing : Bool := false
  again   : Bool := false
  cursor  : Nat := 0
  segs    : NMap Segment := []
  deriving DecidableEq, Repr

/-- The table block of a slice ("Near, Far and Session Record Tables"). -/
structure Tables where
  cmd      : CmdReg := {}
  near     : Tier := {}
  far      : Tier := {}
  locStash : Bool := false
  locFar   : Bool := false
  locSlot  : Nat := 0
  moves    : Nat := 0
  newValid : Bool := false
  newEpoch : Nat := 0
  /-- Session Records as numbers of 32 bytes; key = 131,072 · bank + index. -/
  records  : NMap Nat := []
  /-- Records with a double-bit error not yet rewritten (R224). -/
  badRecs  : NMap Bool := []
  /-- Learn requests, oldest first (R218). -/
  learn    : List (Nat × Word) := []
  /-- A Far command that has not started: its word, and its uptime (R217). -/
  waiting  : Option (Word × Nat) := none
  /-- Uptime of the last sweep period start. -/
  sweepAt  : Nat := 0
  /-- Retirements of the Far tier that wait for its channel, by the visibility that they delete, oldest first (R341, R362). -/
  farDue   : List Nat := []
  /-- Corrected single-bit errors whose write-back is due: tier and slot (R224). -/
  fixes    : List (Bool × Nat) := []
  deriving DecidableEq, Repr

/-- One rule matcher row (R228). -/
structure RmxRow where
  value  : Nat := 0
  care   : Nat := 0
  result : Word := 0
  prio   : Nat := 0
  valid  : Bool := false
  fenced : Bool := false
  deriving DecidableEq, Repr

/-- One copy of the rule matcher: rows, RMX_BANK and RMX_SIGSEL. -/
structure RmxCopy where
  rows : NMap RmxRow := []
  bank : NMap Word := []
  sig  : NMap Word := []
  deriving DecidableEq, Repr

/-- The rule matcher of a slice; copies are keyed by physical bank 0 to 2. -/
structure Rmx where
  cmd    : CmdReg := {}
  /-- At core reset the previous copy holds zeros, RMX_SIGSEL among them (R336). -/
  copies : NMap RmxCopy := [(1, { sig := (List.range 16).map (fun b => (b, 0)) })]
  deriving DecidableEq, Repr

/-- Side-band state of one cell (R245) with its quarantine mark (R251). -/
structure Cell where
  allocated   : Bool := false
  owner       : Nat := 0
  /-- Next cell of the chain. -/
  link        : Option Nat := none
  quarantined : Bool := false
  deriving DecidableEq, Repr

/-- State of one buffer bank (R262). -/
inductive BankState where
  | active | draining | retention | waking
  deriving DecidableEq, Repr

/-- A free list: the explicit top of the stack, above the never used cells from `next` up to `limit`. -/
structure FreeList where
  /-- Freed cells or buffers, the last freed first. -/
  stack  : List Nat := []
  /-- First unit never taken since the list was built. -/
  next   : Nat := 0
  limit  : Nat := 0
  /-- A broken list under rebuild (R250). -/
  broken : Bool := false
  deriving DecidableEq, Repr

/-- The buffer pool manager of a slice ("Packet Buffer and Pools"). -/
structure Bpm where
  cmd     : CmdReg := {}
  /-- Cells whose side-band state is not the reset one. -/
  cells   : NMap Cell := []
  /-- Free lists of general banks 0 to 13; key = bank. -/
  lists   : NMap FreeList := []
  /-- Free lists of pools 0 to 2, in buffers; key = pool. -/
  pools   : NMap FreeList := []
  /-- States of banks; key = bank. -/
  banks   : NMap BankState := []
  /-- Pool counts of the layout in force (R255). -/
  n0      : Nat := 1024
  n1      : Nat := 256
  n2      : Nat := 107
  /-- The general bank that the rotation tries first. -/
  rotor   : Nat := 0
  result  : Word := 0
  fault   : Word := 0
  /-- The bank a running BANK_WAKE wakes. -/
  waking  : Option Nat := none
  deriving DecidableEq, Repr

/-- A stored PORT, SERVICE, QUEUE or METER entry: its writable data words (Table 10.5). -/
structure SchEntry where
  w0 : Word := 0
  w1 : Word := 0
  w2 : Word := 0
  deriving DecidableEq, Repr

/-- One copy at an egress slice, from its arrival until it is sent or dropped. -/
structure EgCopy where
  id       : Nat
  /-- Where its cells are held: an inbound chain of this slice, or a packet of this slice that did not cross. -/
  inbound  : Bool
  chain    : Nat
  /-- Ingress slice and packet, for reports; key of the frame whose bytes it carries, or the bytes of an archived frame. -/
  src      : Nat
  pkt      : Nat
  inPort   : Nat := 0
  frame    : Nat
  bytes    : Option (List Byte)
  capture  : Stamp
  port     : Nat
  edits    : List Edit
  cells    : Nat
  /-- LEN of R270. -/
  len      : Nat
  cls      : Nat
  cut      : Bool
  evidential : Bool
  /-- m10 bits of the copy's packet that a later punt needs: m13 and m6. -/
  info     : Word := 0
  seqnum   : Nat := 0
  /-- Merge: TS and RANK, LATE, ORDER_UNCERTAIN, due at once, and the egress slice time from which it was due. -/
  ts       : Nat := 0
  rank     : Nat := 0
  late     : Bool := false
  uncertain : Bool := false
  forced   : Bool := false
  /-- Held at a step of device time: released ahead of later arrivals (R294). -/
  stepped  : Bool := false
  dueAt    : Nat := 0
  /-- Equinox: group, T, TOL, PFC_PRIO, sent at once by R308. -/
  group    : Nat := 0
  release  : Nat := 0
  tol      : Nat := 0
  pfc      : Nat := 7
  atOnce   : Bool := false
  deriving DecidableEq, Repr

/-- WFQ tags of a child: S, F, F_LAST and the copy that F counts (R272). -/
structure Tags where
  s    : Nat := 0
  f    : Nat := 0
  last : Nat := 0
  head : Option Nat := none
  deriving DecidableEq, Repr

/-- Token state in units of 2⁻²⁴ byte / 12,000,000, and the uptime to which it was refilled. -/
structure Tokens where
  n  : Int := 0
  at_ : Nat := 0
  deriving DecidableEq, Repr

/-- A subscriber queue's live state; oldest copy first. -/
structure QueueLive where
  copies : List EgCopy := []
  tok    : Tokens := {}
  tags   : Tags := {}
  deriving DecidableEq, Repr

/-- A service's live state: V of its own node, its shaper, its tags at the port node. -/
structure SvcLive where
  v    : Nat := 0
  tok  : Tokens := {}
  tags : Tags := {}
  deriving DecidableEq, Repr

/-- Committed and excess or peak buckets of a meter. -/
structure MeterLive where
  c   : Nat := 0
  ep  : Nat := 0
  at_ : Nat := 0
  deriving DecidableEq, Repr

/-- A frame being sent by a port. -/
structure Tx where
  copy   : EgCopy
  /-- Its instant and bound as fixed by R84, 1/16 ns. -/
  stamp  : Stamp
  /-- PRIO of a hierarchy frame; merge and Equinox copies are express. -/
  prio   : Option Nat
  /-- Slice time at which it started, and at which a hierarchy frame must be cut for an Equinox copy (R305). -/
  start  : Nat
  cutAt  : Option Nat := none
  /-- Fragments already sent of a preempted frame, and the bytes that they carried. -/
  frags  : Nat := 0
  sent   : Nat := 0
  deriving DecidableEq, Repr

/-- A gate list switch that is scheduled (R281, R282): at a time, or tied to the Folio commit of an epoch. -/
inductive GateSwitch where
  | none | at (t : Nat) | folio (epoch : Nat)
  deriving DecidableEq, Repr

/-- A port node: V, frames on the wire, merge and release queues, gate lists. -/
structure EgPort where
  v        : Nat := 0
  tx       : Option Tx := none
  preempted : Option Tx := none
  /-- Merge queue in release order. -/
  merge    : List EgCopy := []
  highWater : Nat := 0
  /-- Release queue in order of T and group. -/
  eqx      : List EgCopy := []
  /-- Which of the two lists is ACTIVE. -/
  gact     : Nat := 0
  gswitch  : GateSwitch := .none
  gfolio   : Bool := false
  /-- PENDING has been written since the last switch. -/
  gwritten : Bool := false
  /-- The frames held by the guard of R305 that have not started yet: each is counted once. -/
  guardHeld : List Nat := []
  deriving DecidableEq, Repr

/-- A gate configuration: words 0 to 2 of GCL_CFG. -/
structure GateCfg where
  w0 : Word := 0x1000003E8
  w1 : Word := 0
  w2 : Word := 0
  deriving DecidableEq, Repr

/-- The egress scheduler, meters and gates of a slice. -/
structure Sched where
  cmd      : CmdReg := {}
  refused  : Nat := 0
  /-- Banked entries; key = (bank · 4 + object) · 65,536 + index. -/
  entries  : NMap SchEntry := []
  /-- Banked entries, gate configurations and gate entries with a double-bit error not yet rewritten (R286). -/
  bad      : NMap Bool := []
  queues   : NMap QueueLive := []
  svcs     : NMap SvcLive := []
  meters   : NMap MeterLive := []
  ports    : NMap EgPort := []
  /-- Gate configurations, key = 2 · node + list, and entries, key = 512 · node + 256 · list + entry. -/
  gcfg     : NMap GateCfg := []
  gent     : NMap Word := []
  deriving DecidableEq, Repr

/-- A crossing toward one egress slice that waits in a virtual output queue. -/
structure Cross where
  /-- Ingress packet, or none for a TX ring frame, whose bytes lie in the frame store. -/
  pkt      : Option Nat
  frame    : Nat
  copy     : Copy
  /-- Further copies of the packet that cross with it to the same slice in the same class (R29). -/
  more     : List Copy := []
  epoch    : Nat
  capture  : Stamp
  port     : Nat
  speed    : Nat
  /-- Length of its frame, FCS excluded. -/
  len      : Nat
  evidential : Bool
  info     : Word
  seqnum   : Nat
  alarm    : Bool
  deriving DecidableEq, Repr

/-- Cells of a packet received from the crossbar, shared by the copies of one crossing. -/
structure Inbound where
  frame : Nat
  cells : List Nat := []
  refs  : Nat := 0
  /-- A cell of it was refused while the frame still arrived (R249). -/
  cutOff : Bool := false
  deriving DecidableEq, Repr

/-- An Equinox group entry with its counts (Table 11.9). -/
structure EqxGroup where
  w0   : Word := 0x0007000000000000
  w1   : Word := 0
  sent : Nat := 0
  late : Nat := 0
  deriving DecidableEq, Repr

/-- The egress side of a slice. -/
structure Egress where
  sch     : Sched := {}
  /-- Virtual output queues; key = 8 · egress slice + crossbar class. -/
  voq     : NMap (List Cross) := []
  inbound : NMap Inbound := []
  eqxCmd  : CmdReg := {}
  eqx     : NMap EqxGroup := []
  mclCmd  : CmdReg := {}
  mclRefused : Nat := 0
  /-- Multicast entries as MCL_DATA0 and MCL_DATA1 hold them. -/
  mcl     : NMap (Word × Word) := []
  /-- Slice times right after the steps of device time (R293). -/
  stepAt  : List Nat := []
  /-- The Ligature seed in force, and each earlier one that a packet may still need with the time of the switch that replaced it, newest
  first (R289, R300). -/
  seed    : Word := 0
  prevSeed : List (Word × Nat) := []
  deriving DecidableEq, Repr

/-- The Ligature seed block (R300). -/
structure LigSeed where
  cmd     : CmdReg := {}
  next    : Word := 0
  /-- The scheduled seed and its time. -/
  pending : Option (Word × Nat) := none
  epoch   : Nat := 0
  deriving DecidableEq, Repr

/-- A Copybook record that waits under R315. -/
structure WaitRec where
  pkt      : Nat
  /-- Key of its frame in the frame store. -/
  frame    : Nat
  capture  : Stamp
  port     : Nat
  index    : Nat
  fragment : Bool
  punted   : Bool
  /-- Merge reports still missing, LATE and ORDER_UNCERTAIN of those received, a merge copy dropped. -/
  missing  : Nat
  late     : Bool := false
  uncertain : Bool := false
  dropped  : Bool := false
  /-- FCS verdict once the frame has ended. -/
  fcs      : Option Bool := none
  commitAt : Nat
  /-- The gap that its reservation closed: count, first and last capture (R319). -/
  gap      : Option (Nat × Stamp × Stamp) := none
  /-- Its wait ended with a report missing (R315). -/
  timedOut : Bool := false
  deriving DecidableEq, Repr

/-- A record that is ready, each for one sequence number (R316): a GAP record (count, first and last capture), a packet's record,
or an OUTCOME record (REF_SEQ and bits). -/
inductive ReadyRec where
  | gap (count : Nat) (first last : Stamp)
  | record (r : WaitRec)
  | outcome (seq bits : Nat)
  deriving DecidableEq, Repr

/-- A block while it is filled, or once closed (R321): records in order, each with its control mark. -/
structure Block where
  number   : Nat
  run      : Word
  firstSeq : Nat
  records  : List (List Byte × Bool) := []
  openTime : Stamp
  closeTime : Stamp := 0
  close    : Nat := 0
  policy   : Nat := 0
  /-- Offset in the ring at which it starts. -/
  place    : Nat := 0
  prev     : List Byte
  /-- SHA-384 of the block, once closed. -/
  hash     : List Byte := []
  deriving DecidableEq, Repr

/-- The Copybook unit of a slice. -/
structure Cpb where
  cmd       : CmdReg := {}
  run       : Word := 0
  nextSeq   : Nat := 0
  nextBlock : Nat := 0
  /-- The open block; the block whose close the sequencer completes; closed blocks in the ring, oldest first. -/
  opened    : Option Block := none
  closing   : List Block := []
  blocks    : List Block := []
  /-- The head block of the run: number and hash. -/
  head      : Option (Nat × List Byte) := none
  waiting   : List WaitRec := []
  /-- Records already written whose merge reports are still missing: packet, SEQ, reports missing. -/
  lateRecs  : List (Nat × Nat × Nat) := []
  /-- Records that are ready and not yet written, in the order in which they became ready (R316). -/
  ready     : List ReadyRec := []
  /-- Merge reports on their way to the slice, oldest first: packet, LATE, ORDER_UNCERTAIN, 0 released 1 dropped 2 punted. -/
  reports   : List (Nat × Bool × Bool × Nat) := []
  /-- The open gap: count, first and last capture (R319). -/
  gap       : Option (Nat × Stamp × Stamp) := none
  hostNext  : Nat := 0
  scribeNext : Nat := 0
  free      : Nat := 0
  /-- A reservation has succeeded since the last refusal (R318). -/
  reserved  : Bool := false
  /-- Ring offset at which the next block is placed, and bytes of the CPB region. -/
  wrAt      : Nat := 0
  region    : Nat := 0
  /-- Pool buffers that gather records (R317): pointers held. -/
  bufs      : List Nat := []
  deriving DecidableEq, Repr

/-- One seal of the stream: number and its 1,632 bytes. -/
structure Seal where
  number : Nat
  bytes  : List Byte
  deriving DecidableEq, Repr

/-- The signer in the Scribe domain (R326 to R329). -/
structure Signer where
  ready      : Bool := false
  resumed    : Bool := false
  stream     : Word := 0
  number     : Nat := 0
  prev       : List Byte := []
  /-- The seal being signed: its bytes 0 to 1,535. -/
  signing    : Option (List Byte) := none
  /-- The last 1,024 seals, newest first. -/
  buffer     : List Seal := []
  /-- INTERVAL in force, from the last marker at which it was taken. -/
  interval   : Nat := 1000
  deriving DecidableEq, Repr

/-- States of the Folio commit unit (Table 13.2). -/
inductive FolState where
  | idle | opening | staging | pending | draining
  deriving DecidableEq, Repr

/-- The Folio commit unit (R335 to R352). -/
structure Folio where
  cmd        : CmdReg := {}
  state      : FolState := .idle
  active     : Nat := 0
  previous   : Nat := 0
  prevValid  : Bool := false
  staged     : Nat := 0
  stagedValid : Bool := false
  rollback   : Bool := false
  copy       : Bool := false
  /-- T of the pending or last switch, 1/16 ns, and the central time at which the last switch became due. -/
  time       : Nat := 0
  armFailed  : Bool := false
  armFail    : Nat := 0
  monEpoch   : Nat := 0
  monTime    : Nat := 0
  monFence   : Nat := 0
  deriving DecidableEq, Repr

/-- A slice's part of Folio: epochs, bank roles and the switch (R336, R344). -/
structure SliceFolio where
  active   : Nat := 0
  previous : Nat := 0
  armedEp  : Nat := 0
  armed    : Bool := false
  /-- The slice has switched at the pending time. -/
  switched : Bool := false
  drained  : Bool := false
  /-- Switches recorded in RETENTION and not yet applied, oldest first: the epoch of a commit, `none` for a rollback. -/
  recorded : List (Option Nat) := []
  /-- Program bank of the active epoch. -/
  bank     : Nat := 0
  /-- Physical banks of the three-bank objects in the roles active, previous and staging. -/
  roleA    : Nat := 0
  roleP    : Nat := 1
  roleS    : Nat := 2
  deriving DecidableEq, Repr

/-- STATE of a DDR5 channel (Table 14.8). -/
inductive DramState where
  | off | training | ready | selfRefresh | failed | fenced
  deriving DecidableEq, Repr

/-- One replay archive slot (Table 14.5). -/
structure ArchSlot where
  seq   : Nat
  valid : Bool
  time  : Nat
  bytes : List Byte
  deriving DecidableEq, Repr

/-- A slot write under way: slot key, number, frame and edits of the copy, its capture, its pool buffer; `buf = none` writes
VALID = 0. -/
structure ArchWrite where
  key     : Nat
  seq     : Nat
  frame   : Nat
  edits   : List Edit
  capture : Stamp
  buf     : Option Nat
  deriving DecidableEq, Repr

/-- Timing record of one DRAM bank or rank: open row, uptime of the last access. -/
structure DramBank where
  row  : Option Nat := none
  last : Nat := 0
  deriving DecidableEq, Repr

/-- The DDR5 channel and replay archive of a slice. -/
structure Dram where
  cmd       : CmdReg := {}
  state     : DramState := .off
  speed     : Nat := 0
  pendSpeed : Nat := 0
  freqPending : Bool := false
  retrain   : Bool := false
  failLane  : Nat := 0
  failRank  : Nat := 0
  geom      : Word := 0
  /-- Geometry in the SPD of the module in the socket, `none` when it cannot be read (model; log 20). -/
  spd       : Option Word := none
  /-- Regions and masks in force: those of the last INIT or end of fence (R371). -/
  far       : Word := 0x8000000000000001
  cpb       : Word := 0x8000000100000400
  rpl       : Word := 0
  scr       : Word := 0
  xors      : NMap Word := []
  /-- A speed change waits for the queues to drain; the PHY relocks. -/
  draining  : Bool := false
  relocking : Bool := false
  /-- Open rows, key = 64 · rank + bank; ranks, their last access; ranks in power-down. -/
  banks     : NMap DramBank := []
  ranks     : NMap Nat := []
  down      : NMap Bool := []
  /-- Refreshes issued by rank. -/
  refreshes : NMap Nat := []
  /-- Operations (thread, tag) pending when a speed change began to drain the queues: they are still served (R360). -/
  queued    : List (Nat × Nat) := []
  /-- Trained centres from which drift is measured: read by 2 · lane + rank, write by 32 + 2 · lane + rank. -/
  trained   : NMap Nat := []
  /-- Bytes of the SCR region; key = byte offset in the region. -/
  scratch   : NMap Byte := []
  /-- NEXT_SEQ of archive groups, slots (key = 2^24 · group + slot), slot writes under way, oldest first. -/
  nextSeq   : NMap Nat := []
  slots     : NMap (Option ArchSlot) := []
  writes    : List ArchWrite := []
  /-- EYE_MIN of the sweep in progress. -/
  eyeMin    : Nat := 0x18
  deriving DecidableEq, Repr

/-- STATE of a host ring (Table 15.5). -/
inductive RingState where
  | stopped | running | error | frozen
  deriving DecidableEq, Repr

/-- An item bound for an RX ring (R391). -/
inductive RxItem where
  /-- A punted frame: CODE, ingress port, SEQNUM, EDITED, m13, capture, bytes; its pool buffer. -/
  | punt (code port seqnum : Nat) (edited : Bool) (info : Word) (capture : Stamp) (bytes : List Byte) (buf : Nat)
  | learn (event : List Byte)
  | seal (number : Nat) (bytes : List Byte)
  deriving DecidableEq, Repr

/-- One host ring (R389 to R396), beside its registers. -/
structure Ring where
  state   : RingState := .stopped
  cause   : Nat := 0
  head    : Nat := 0
  phase   : Bool := true
  /-- Items that wait for their descriptors, oldest first. -/
  items   : List RxItem := []
  /-- The descriptor at HEAD as read from host memory. -/
  desc    : Option (List Byte) := none
  /-- The frame of the TX descriptor at HEAD, and its pool buffer. -/
  frame   : Option (List Byte) := none
  buf     : Option Nat := none
  /-- The bytes of that frame that have come so far, and the bytes of the read that is out: a frame is read in requests of at most
  Max Read Request Size (R379). -/
  part    : List Byte := []
  want    : Nat := 0
  /-- The read tag outstanding for the ring, and the uptime from which it waits for one. -/
  read    : Option Nat := none
  wantsFrom : Option Nat := none
  /-- Completions not yet signalled and the uptime of the first (R393). -/
  unsig   : Nat := 0
  unsigAt : Nat := 0
  deriving DecidableEq, Repr

/-- One read tag held (R397, R398). -/
structure ReadTag where
  link   : Nat
  pf     : Nat
  slice  : Nat
  ring   : Nat
  /-- The read fetches a frame, not a descriptor. -/
  frame  : Bool
  issued : Nat
  /-- Uptime of its timeout, from which it is quarantined. -/
  quar   : Option Nat := none
  deriving DecidableEq, Repr

/-- One host link. -/
structure Link where
  frozen   : Bool := false
  cause    : Nat := 0
  dlActive : Bool := false
  width    : Nat := 0
  speed    : Nat := 0
  flit     : Bool := false
  deriving DecidableEq, Repr

/-- One window entry (Table 15.12). -/
structure Window where
  valid   : Bool := false
  writeEn : Bool := false
  kind    : Nat := 0
  slice   : Nat := 0
  log2    : Nat := 0
  bar     : Nat := 0
  off     : Nat := 0
  target  : Nat := 0
  deriving DecidableEq, Repr

/-- One MSI-X table entry (PCI Express): address, data, mask, and its pending bit. -/
structure Vec where
  addr    : Word := 0
  data    : Nat := 0
  masked  : Bool := true
  pending : Bool := false
  deriving DecidableEq, Repr

/-- Configuration space of one PF that software can write (R382, R383), and what applies to it until its next link reset. -/
structure Pf where
  vecs     : NMap Vec := []
  msixOn   : Bool := false
  msixMask : Bool := false
  /-- Memory Space Enable and Bus Master Enable of the Command register. -/
  mse      : Bool := false
  bme      : Bool := false
  bar0     : Nat := 0
  bar2     : Nat := 0
  bar4     : Nat := 0
  /-- Power state D3hot. -/
  d3       : Bool := false
  /-- AER Uncorrectable Error Status, and the error bits of Status as the Command dword shows them. -/
  aer      : Nat := 0
  status   : Nat := 0
  /-- Every other writable configuration dword, as written. -/
  cfg      : NMap Nat := []
  /-- The link the PF is on, as HST_PF_MAP last applied, and its BAR2 size code in force. -/
  link     : Option Nat := some 0
  bar2Size : Nat := 0
  deriving DecidableEq, Repr

/-- The host port beside its registers. -/
structure HostPort where
  cmd      : CmdReg := {}
  flushed  : Bool := true
  /-- Window entries; key = 64 · PF + entry. -/
  windows  : NMap Window := []
  links    : NMap Link := []
  pfs      : NMap Pf := []
  tags     : NMap (Option ReadTag) := []
  nextTag  : Nat := 0
  deriving DecidableEq, Repr

/-- One request that waits for the Scribe: path 0 UDP, 1 MCTP, 2 mailbox (Table 16.5); over MCTP also the endpoint that sent it and its
message tag. -/
structure ScribeReq where
  path  : Nat
  bytes : List Byte
  eid   : Nat := 0
  tag   : Nat := 0
  deriving DecidableEq, Repr

/-- The running Scribe firmware (Table 16.1): slot 0 A or 1 B, and the microcode key that it holds. -/
structure FwImage where
  slot  : Nat
  major : Nat
  minor : Nat
  build : Nat
  svn   : Nat
  mcuKey : List Byte := []
  deriving DecidableEq, Repr

/-- The Scribe domain ("Scribe, Side-Band Management and Security"): boot, OTP, flash, scratchpad keys, request queue. -/
structure Scribe where
  /-- The boot ROM has finished; with `fw = none` the Scribe is then in ROM recovery (R412). -/
  booted   : Bool := false
  fw       : Option FwImage := none
  /-- SPI flash; key = 4 MiB · region + offset: 0 slot A, 1 slot B, 2 microcode.  Erased bytes read 0xFF (log 22). -/
  flash    : NMap Byte := []
  /-- OTP: MIN_SVN, life-cycle state (0 BLANK, 1 PROVISIONED, 2 FIELD, 3 RETURNED), seed by its index (log 21), management key,
  certificate, tamper thermometers. -/
  minSvn   : Nat := 0
  lc       : Nat := 1
  seed     : Option Nat := some 0
  mgmt     : Option (List Byte) := none
  cert     : List Byte := []
  tampers  : Nat := 0
  acked    : Nat := 0
  exhausted : Bool := false
  lastCause : Nat := 0
  zeroised : Nat := 0
  /-- TAMPER_N inputs that are low. -/
  pinsLow  : Nat := 0
  /-- The management key is loaded (R416, R420); the keys wait for KEY_DERIVE. -/
  keyLoaded : Bool := false
  keysWait : Bool := true
  nonce    : Word := 0
  counter  : Nat := 0
  /-- The last accepted request and its response (R428). -/
  lastReq  : List Byte := []
  lastResp : List Byte := []
  queue    : List ScribeReq := []
  mbx      : CmdReg := {}
  respReady : Bool := false
  respLen  : Nat := 0
  /-- NOTIFY_SET: address, port and mask; the notify counter; units that hold ALERT_N low (R430). -/
  notifyTo : List Byte := []
  notifyMask : Word := 0
  notifyCount : Nat := 0
  alert    : List Nat := []
  /-- The MCTP endpoint identifier, 0 before Set Endpoint ID. -/
  eid      : Nat := 0
  deriving DecidableEq, Repr

/-- Pin multiplexing (R433): the assignment in force and the last conflict. -/
structure Pmx where
  cmd     : CmdReg := {}
  applied : NMap Word := []
  /-- An APPLY has completed: until then no pin is driven (R491). -/
  live    : Bool := false
  /-- Pulses in progress: pin, and uptime at which it falls (R432). -/
  high    : List (Nat × Nat) := []
  confA   : Nat := 0
  confB   : Nat := 0
  kind    : Nat := 0
  deriving DecidableEq, Repr

/-- One fault source (R436, R437): its state bits, configuration and counts. -/
structure FaultSrc where
  /-- The condition of a condition source holds. -/
  cond     : Bool := false
  /-- Uptime until which an event keeps LIVE at 1. -/
  liveUntil : Nat := 0
  seen     : Bool := false
  active   : Bool := false
  force    : Bool := false
  /-- REACTION: 0 RECORD, 1 FENCE_UNIT, 2 FENCE_SLICE, 3 FATAL. -/
  reaction : Nat := 0
  auto     : Bool := false
  quiet    : Nat := 0x3E8
  recover  : Nat := 0
  raised   : Nat := 0
  /-- Uptime of the last rise, from which events of one PCLK cycle merge. -/
  lastRise : Option Nat := none
  /-- Uptime of the last history entry for a rise, and for a lift (R448). -/
  riseEntry : Option Nat := none
  liftEntry : Option Nat := none
  /-- Uptime at which the quiet period in progress started (R444). -/
  quietFrom : Option Nat := none
  deriving DecidableEq, Repr

/-- One history entry (Table 17.5). -/
structure HistEntry where
  time     : Stamp
  source   : Nat
  /-- 1 RAISE, 2 LIFT_AUTO, 3 LIFT_SOFTWARE, 4 FATAL. -/
  kind     : Nat
  flags    : Nat
  unit     : Nat
  syndrome : Nat
  deriving DecidableEq, Repr

/-- One fault unit: a slice's, or the device's. -/
structure FaultUnit where
  srcs       : NMap FaultSrc := []
  /-- History entries, newest first. -/
  hist       : List HistEntry := []
  written    : Nat := 0
  suppressed : Nat := 0
  /-- Words 1 and 2 latched by the last read of a word 0 (R450). -/
  latch1     : Word := 0
  latch2     : Word := 0
  /-- An interrupt waits for the 10 µs interval; uptime of the last one sent (R451). -/
  intWaits   : Bool := false
  lastInt    : Option Nat := none
  deriving DecidableEq, Repr


/-- A snapshot that is being written: its number, SKIPPED_BEFORE, its time and values (R462). -/
structure Snapshot where
  number  : Nat
  skipped : Bool
  time    : Stamp
  values  : List Word
  deriving DecidableEq, Repr

/-- The Tally unit beside its registers (R460 to R462). -/
structure Tally where
  head     : Nat := 0
  /-- Number of the next snapshot, and whether a tick has been skipped since the last. -/
  number   : Nat := 0
  skipped  : Bool := false
  writing  : Option Snapshot := none
  /-- EN was written 0 while a snapshot was being written: it takes effect after that (R461). -/
  stopping : Bool := false
  deriving DecidableEq, Repr
/-- What the device does at its outward interfaces, newest first (model): the record of every effect that leaves State. -/
inductive Out where
  /-- Read data returned to a requester. -/
  | readData (r : Requester) (off : Nat) (data : Word)
  /-- A frame sent by a port: its bytes, and whether its FCS is valid. -/
  | frame (port : Nat) (bytes : List Byte) (good : Bool)
  /-- A PAUSE or PFC frame sent by a port: PFC priorities (0 for 802.3x) and quanta. -/
  | pause (port : Nat) (pfc : Nat) (quanta : Nat)
  /-- A DMA write through a PF. -/
  | dma (pf : Nat) (addr : Nat) (bytes : List Byte)
  /-- A DMA read request of a PF, by tag. -/
  | dmaRead (pf : Nat) (addr : Nat) (len : Nat) (tag : Nat)
  /-- An MSI-X message of a PF. -/
  | msix (pf : Nat) (vector : Nat)
  /-- A completion of a host request: 0 success, 1 Unsupported Request, 2 Completer Abort. -/
  | completion (pf : Nat) (status : Nat) (data : List Byte)
  /-- A Scribe message sent on a side-band path. -/
  | sideband (path : Nat) (bytes : List Byte)
  /-- A NOTIFY message the Scribe sends by UDP to the NOTIFY_SET destination, an address of 16 bytes and a port of two (R430). -/
  | notify (dest : List Byte) (bytes : List Byte)
  /-- A Scribe access to the register at an offset completes with FENCED (R410). -/
  | fenced (off : Nat)
  /-- A pin of the package at high impedance (R433, R491). -/
  | released (name : String)
  /-- A pin of the package driven to a level. -/
  | pin (name : String) (level : Bool)
  deriving DecidableEq, Repr

/-- A register write as the fabric took it: requester, offset, part, data, and its PCLK cycle. -/
structure FabricWrite where
  r     : Requester
  off   : Nat
  h     : Half
  w     : Word
  cycle : Nat
  deriving DecidableEq, Repr

/-- A fault reaction that waits to be applied: the unit (16 is the device's), the source, fence or lift. -/
structure Due where
  unit  : Nat
  src   : Nat
  lift  : Bool
  deriving DecidableEq, Repr

/-- One slice: every resource of Table 01.1. -/
structure Slice where
  /-- Registers whose value is only what software wrote or what counted; key = slice-block offset. -/
  regs     : NMap Word := []
  owner    : Fin 16 := 0
  pwr      : PwrState := .retention
  slcCmd   : CmdReg := {}
  tbu      : Tbu := {}
  /-- Uptime from which a marker is awaited, and still missing (R61). -/
  marker   : Option Nat := none
  flt      : FaultUnit := {}
  bpm      : Bpm := {}
  /-- GENERAL_FREE asks every pause-enabled port to pause (R260). -/
  globalAsk : Bool := false
  lanes    : NMap Lane := []
  frg      : FragTable := {}
  packets  : NMap Packet := []
  clusters : NMap Cluster := []
  /-- Running threads; key = 64 · cluster + thread. -/
  threads  : NMap Thread := []
  /-- Operations pending when their threads ended, oldest first (R167). -/
  orphans  : List Orphan := []
  /-- Program store; key = 32,768 · bank + instruction. -/
  program  : NMap Word := []
  seq      : Sequencer := {}
  /-- The 65,536 sequence counters (R175). -/
  seqCtr   : NMap Word := []
  pmc      : Pmc := {}
  tbl      : Tables := {}
  rmx      : Rmx := {}
  fol      : SliceFolio := {}
  cpb      : Cpb := {}
  /-- Host rings; key = ring. -/
  rings    : NMap Ring := []
  dram     : Dram := {}
  eg       : Egress := {}
  deriving DecidableEq, Repr

/-- The whole device. -/
structure State where
  /-- The commands that wait, first in first out (model). -/
  pending   : List Instr := []
  /-- CCLK cycles since power-on (model). -/
  uptime    : Nat := 0
  /-- Free values drawn so far (model). -/
  draws     : Nat := 0
  /-- Packets made so far (model): the next key of the frame and packet stores. -/
  nextId    : Nat := 0
  /-- What left the device, newest first (model). -/
  out       : List Out := []
  /-- Fault reactions not yet applied (model). -/
  due       : List Due := []
  /-- Global registers whose value is only what software wrote or what counted; key = global-block offset. -/
  gregs     : NMap Word := []
  slices    : Vector Slice 16
  frames    : NMap Frame := []
  core      : CoreState := .held
  pwrOk     : Bool := true
  rstCmd    : CmdReg := {}
  lastCause : Nat := 1
  causeSeen : Nat := 0
  coreResets : Nat := 0
  /-- The last reset was caused by a fatal fault (R475). -/
  fatalReset : Bool := false
  /-- Latched straps, as GLB_STRAPS reads them. -/
  straps    : Word := 0
  /-- Levels of the strap pins, in the places of GLB_STRAPS. -/
  strapPins : Word := 0
  /-- Uptime since which the root PLL has held lock. -/
  rootLock  : Option Nat := none
  rootLoss  : Nat := 0
  rootLossSeen : Bool := false
  scribeLock : Bool := false
  refPresent : Bool := false
  /-- Core cycle 0: uptime at which the core left reset (CSR CYCLE). -/
  cycle0    : Nat := 0
  arm       : Bool := false
  wdogExpired : Bool := false
  /-- Uptime of the last write with ARM = 1. -/
  armedAt   : Nat := 0
  /-- Every junction sensor was read at least 10 °C below the trip limit (R469, log 32), and every core rail lies within tolerance
  (R464, log 128). -/
  coolEnough : Bool := true
  railsOk   : Bool := true
  /-- No rise of PWR_OK has followed the VDD_SCR power-up: the next one completes the power-on (R466). -/
  firstRise : Bool := false
  /-- Uptime of the last reset of the core (R476). -/
  resetAt   : Option Nat := none
  /-- Uptime of the last 1 µs marker. -/
  lastMarker : Option Nat := none
  trf       : TimeRef := {}
  /-- XBR_PART_MAP as cells are arbitrated, and the previous map while APPLY_PENDING (R25). -/
  xbrPending : Bool := false
  xbrRefused : Nat := 0
  flt       : FaultUnit := {}
  fol       : Folio := {}
  host      : HostPort := {}
  signer    : Signer := {}
  scribe    : Scribe := {}
  pmx       : Pmx := {}
  lig       : LigSeed := {}
  tally     : Tally := {}
  /-- The writes that the register fabric has taken in this PCLK cycle, newest first (R406, R471; model). -/
  writes    : List FabricWrite := []
  deriving DecidableEq, Repr

/-- The device right after power-on, with the condition of CPB_SIGNER_DOWN (log 127), in HELD (Table 19.4); straps and what the log names aside, the spec's reset values. -/
def State.reset : State :=
  { slices := Vector.replicate 16 {}, rootLock := some 0, scribeLock := true, refPresent := true, flt := { srcs := [(0xD01, { cond := true })] } }

end Sys2Proof.Machine
end

