-- ==== Sys2Proof/Machine/Ops.lean ====
section
/-!
DEFINITION. The named operations over the device's state that every family shares: slices, registers, counters, free
values, outputs, requesters, commands, and time as numbers.
-/
namespace Sys2Proof.Machine
open Sys2Proof

-- Slices and registers ---------------------------------------------------------------------------------------------

/-- Slice `i`. -/
def State.slice (s : State) (i : Fin 16) : Slice := s.slices[i]
/-- The device with slice `i` changed. -/
def State.modSlice (s : State) (i : Fin 16) (f : Slice → Slice) : State :=
  { s with slices := s.slices.set i (f s.slices[i]) }
/-- The slice of a number below 16; numbers wrap. -/
def sl (n : Nat) : Fin 16 := Fin.ofNat 16 n

/-- A stored slice register; one never written reads its reset value. -/
def Slice.reg (x : Slice) (o : Nat) : Word := NMap.get (regReset sliceRegs o) x.regs o
/-- A slice with one stored register changed. -/
def Slice.setReg (x : Slice) (o : Nat) (w : Word) : Slice :=
  { x with regs := NMap.set (regReset sliceRegs o) x.regs o w }
/-- A stored register of slice `i`. -/
def State.reg (s : State) (i : Fin 16) (o : Nat) : Word := (s.slice i).reg o
/-- The device with a stored register of slice `i` changed. -/
def State.setReg (s : State) (i : Fin 16) (o : Nat) (w : Word) : State := s.modSlice i (fun x => x.setReg o w)
/-- A stored global register. -/
def State.greg (s : State) (o : Nat) : Word := NMap.get (regReset globalRegs o) s.gregs o
/-- The device with a stored global register changed. -/
def State.setGreg (s : State) (o : Nat) (w : Word) : State :=
  { s with gregs := NMap.set (regReset globalRegs o) s.gregs o w }

/-- Field [hi:lo] of a counter register with `n` added, holding its maximum. -/
def satAdd (w : Word) (hi lo n : Nat) : Word :=
  setFld w hi lo (min (fld w hi lo + n) (2 ^ (hi + 1 - lo) - 1))
/-- A counter field of a slice register raised by `n`, saturating. -/
def Slice.count (x : Slice) (o hi lo n : Nat) : Slice := x.setReg o (satAdd (x.reg o) hi lo n)
/-- A counter field of a register of slice `i` raised by 1, saturating. -/
def State.count (s : State) (i : Fin 16) (o hi lo : Nat) : State := s.modSlice i (fun x => x.count o hi lo 1)
/-- A counter field of a global register raised by 1, saturating. -/
def State.gcount (s : State) (o hi lo : Nat) : State := s.setGreg o (satAdd (s.greg o) hi lo 1)
/-- One drop counted under its code (R198). -/
def State.countDrop (s : State) (i : Fin 16) (code : Nat) : State := s.count i (Reg.DRP_COUNT + 8 * (code % 256)) 63 0

/-- A micro-trap that the slice's hardware raises waits for the sequencer that runs (R134, Table 04.12). -/
def Slice.noteTrap (x : Slice) (c : Nat) : Slice :=
  if x.seq.state = .running then { x with seq := { x.seq with pending := x.seq.pending ||| 2 ^ c } } else x

-- Free values and outputs ------------------------------------------------------------------------------------------

/-- The next free value, and the device that has drawn it. -/
def State.draw (s : State) : Nat × State := (Config.free s.draws, { s with draws := s.draws + 1 })
/-- One effect that leaves the device. -/
def State.emit (s : State) (o : Out) : State := { s with out := o :: s.out }
/-- A read's data returned to its requester. -/
def State.reply (s : State) (r : Requester) (off : Nat) (w : Word) : State := s.emit (.readData r off w)

-- Bank roles (R336, R337, R344) -----------------------------------------------------------------------------------

/-- A slice's roles, program bank and epochs after a switch: a commit to `epoch`, or a rollback (`none`). -/
def SliceFolio.rotate (f : SliceFolio) (epoch : Option Nat) : SliceFolio :=
  match epoch with
  | some e => { f with active := e, previous := f.active, bank := 1 - f.bank, roleA := f.roleS, roleP := f.roleA, roleS := f.roleP }
  | none => { f with active := f.previous, previous := f.active, bank := 1 - f.bank, roleA := f.roleP, roleP := f.roleA }
/-- The roles and program bank once every switch recorded in RETENTION is applied: those that commands and writes of software name
(log 100). -/
def SliceFolio.settled (f : SliceFolio) : SliceFolio := { f.recorded.foldl SliceFolio.rotate f with recorded := [] }

-- Requesters -------------------------------------------------------------------------------------------------------

/-- The device-owner PF (HST_OWNER_PF). -/
def State.deviceOwner (s : State) : Nat := fld (s.greg Reg.HST_OWNER_PF) 3 0
/-- The Scribe, or the PF that owns slice `i`. -/
def State.sliceWriter (s : State) (i : Fin 16) (r : Requester) : Bool :=
  match r with
  | .scribe => true
  | .pf n => decide (n = (s.slice i).owner)
/-- The Scribe, or the device-owner PF. -/
def State.globalWriter (s : State) (r : Requester) : Bool :=
  match r with
  | .scribe => true
  | .pf n => decide (n.val = s.deviceOwner)

/-- The bits of a register that an access covers (R2). -/
def halfMask : Half → Word
  | .both => 0xFFFFFFFFFFFFFFFF
  | .low => 0xFFFFFFFF
  | .high => 0xFFFFFFFF00000000
/-- The register value that a write of `w` to part `h` leaves, fields outside `rw` unchanged (R5). -/
def mergeWrite (old w : Word) (h : Half) (rw : Nat) : Word :=
  (old &&& ~~~ (word rw &&& halfMask h)) ||| (w &&& (word rw &&& halfMask h))

-- Commands (R4, R7) ------------------------------------------------------------------------------------------------

/-- CMD_STATUS as its register shows it (Table 00.5). -/
def CmdStatus.code : CmdStatus → Nat
  | .ok => 0 | .busy => 1 | .alreadyPresent => 2 | .notFound => 3 | .fullRehash => 4 | .stateRefused => 5
  | .permission => 6 | .badArg => 7 | .fenced => 8 | .timeout => 9
/-- BUSY in bit 5 and CMD_STATUS in bits [3:0], as most status registers place them. -/
def CmdReg.fields (c : CmdReg) : List (Nat × Nat × Nat) := [(5, 5, b2n c.busy), (3, 0, c.status.code)]
/-- A command's status taken by its block: `busy` leaves it running. -/
def CmdReg.take (st : CmdStatus) : CmdReg := { busy := decide (st = .busy), status := st }

/-- A written command judged and run (R4, R7).  `get` and `put` reach the block's BUSY and CMD_STATUS, `perm` is the
requester's right, `refuse` counts a refused command, `body` judges BAD_ARG, FENCED and STATE_REFUSED and gives the outcome. -/
def runCommand (perm : Bool) (get : State → CmdReg) (put : CmdReg → State → State) (refuse : State → State)
    (body : State → CmdStatus × State) (s : State) : State :=
  if perm then
    if (get s).busy then refuse s
    else
      let r := body s
      let s1 := put (CmdReg.take r.1) r.2
      if r.1 = .stateRefused then refuse s1 else s1
  else if (get s).busy then s
  else put { busy := false, status := .permission } s

/-- The first status of a list of (condition, status) checks that applies, and otherwise the outcome. -/
def judge (checks : List (Bool × CmdStatus)) (s : State) (act : State → CmdStatus × State) : CmdStatus × State :=
  match checks.find? (·.1) with
  | some c => (c.2, s)
  | none => act s

-- Time as numbers --------------------------------------------------------------------------------------------------

/-- 1 ns in 2⁻⁴⁸ ns. -/
def nsUnit : Nat := 2 ^ 48
/-- CCLK cycles of 1 µs and of 1 ms (Table 01.14). -/
def cyclesUs : Nat := 1500
def cyclesMs : Nat := 1500000
/-- An accumulator in 1/16 ns (R45). -/
def t16 (acc : Nat) : Nat := acc / 2 ^ 44
/-- The bounded timestamp of an instant in 1/16 ns (R39). -/
def stampOf (t bound : Nat) : Stamp :=
  let ns := t / 16
  BitVec.ofNat 96 (ns / 1000000000 % 2 ^ 48 * 2 ^ 48 + ns % 1000000000 * 2 ^ 18 + t % 16 * 2 ^ 14 + bound % 2 ^ 14)
/-- The instant of a timestamp in 1/16 ns. -/
def Stamp.t16 (x : Stamp) : Nat :=
  let n := x.toNat
  (bitsOf n 95 48 * 1000000000 + bitsOf n 47 18) * 16 + bitsOf n 17 14
/-- BOUND of a timestamp. -/
def Stamp.bound (x : Stamp) : Nat := bitsOf x.toNat 13 0
/-- The lower and the upper register of a timestamp (R43). -/
def Stamp.lo (x : Stamp) : Word := word x.toNat
def Stamp.hi (x : Stamp) : Word := word (x.toNat / 2 ^ 64)
/-- The timestamp of a register pair; the upper register's bits [63:32] are reserved. -/
def stampOfPair (lo hi : Word) : Stamp := BitVec.ofNat 96 (lo.toNat + fld hi 31 0 * 2 ^ 64)
/-- A value whose NS field exceeds 999,999,999 is malformed (R40). -/
def Stamp.malformed (x : Stamp) : Bool := decide (999999999 < bitsOf x.toNat 47 18)

/-- CCLK cycles since the core left reset. -/
def State.cycle (s : State) : Nat := s.uptime - s.cycle0
/-- The core domain is UP. -/
def State.up (s : State) : Bool := decide (s.core = .up)

/-- The DDR5 channel is READY and serves requesters (R217, R360, R362). -/
def Slice.farReady (x : Slice) : Bool := decide (x.dram.state = .ready) && !x.dram.draining

-- Lanes, clusters, threads -----------------------------------------------------------------------------------------

/-- The window of lane `k`. -/
def Slice.lane (x : Slice) (k : Nat) : Lane := NMap.get {} x.lanes k
/-- The slice with lane `k` changed. -/
def Slice.modLane (x : Slice) (k : Nat) (f : Lane → Lane) : Slice :=
  { x with lanes := NMap.set {} x.lanes k (f (x.lane k)) }
def State.lane (s : State) (i : Fin 16) (k : Nat) : Lane := (s.slice i).lane k
def State.modLane (s : State) (i : Fin 16) (k : Nat) (f : Lane → Lane) : State := s.modSlice i (fun x => x.modLane k f)
/-- Register offset `o` of port window `k`. -/
def prt (o k : Nat) : Nat := o + 0x400 * k
/-- One count of port counter `n` (Table 03.6). -/
def State.countPort (s : State) (i : Fin 16) (k n by_ : Nat) : State :=
  s.modSlice i (fun x => x.count (prt Reg.PRT_CNT k + 8 * n) 63 0 by_)

/-- Cluster `c`. -/
def Slice.cluster (x : Slice) (c : Nat) : Cluster := NMap.get {} x.clusters c
def Slice.modCluster (x : Slice) (c : Nat) (f : Cluster → Cluster) : Slice :=
  { x with clusters := NMap.set {} x.clusters c (f (x.cluster c)) }
def State.modCluster (s : State) (i : Fin 16) (c : Nat) (f : Cluster → Cluster) : State :=
  s.modSlice i (fun x => x.modCluster c f)

/-- The thread `t` of a slice, if it holds a packet. -/
def State.thread (s : State) (i : Fin 16) (t : Nat) : Option Thread := NMap.look (s.slice i).threads t
def State.setThread (s : State) (i : Fin 16) (t : Nat) (th : Thread) : State :=
  s.modSlice i (fun x => { x with threads := NMap.insert x.threads t th })
def State.delThread (s : State) (i : Fin 16) (t : Nat) : State :=
  s.modSlice i (fun x => { x with threads := NMap.erase x.threads t })
/-- The packet `p` of a slice. -/
def State.packet (s : State) (i : Fin 16) (p : Nat) : Option Packet := NMap.look (s.slice i).packets p
def State.setPacket (s : State) (i : Fin 16) (p : Nat) (k : Packet) : State :=
  s.modSlice i (fun x => { x with packets := NMap.insert x.packets p k })
def State.delPacket (s : State) (i : Fin 16) (p : Nat) : State :=
  s.modSlice i (fun x => { x with packets := NMap.erase x.packets p })
def State.modPacket (s : State) (i : Fin 16) (p : Nat) (f : Packet → Packet) : State :=
  match s.packet i p with
  | some k => s.setPacket i p (f k)
  | none => s
/-- The frame `n`. -/
def State.frame (s : State) (n : Nat) : Frame := NMap.get {} s.frames n
def State.setFrame (s : State) (n : Nat) (f : Frame) : State := { s with frames := NMap.set {} s.frames n f }

-- Host functions and interrupts -----------------------------------------------------------------------------------

/-- Physical function `n`, link `l`. -/
def State.pfn (s : State) (n : Nat) : Pf := NMap.get {} s.host.pfs n
def State.modPf (s : State) (n : Nat) (f : Pf → Pf) : State :=
  { s with host := { s.host with pfs := NMap.set {} s.host.pfs n (f (s.pfn n)) } }
def State.link (s : State) (l : Nat) : Link := NMap.get {} s.host.links l
def State.modLink (s : State) (l : Nat) (f : Link → Link) : State :=
  { s with host := { s.host with links := NMap.set {} s.host.links l (f (s.link l)) } }
/-- The PF can issue requests: its link is DL_Active and not frozen (R401), and its function may master the bus.  Number 16 is
Scribe memory, which needs running firmware and no link (R431). -/
def State.pfUsable (s : State) (n : Nat) : Bool :=
  if n = 16 then s.scribe.fw.isSome
  else match (s.pfn n).link with
  | some l => (s.link l).dlActive && !(s.link l).frozen && (s.pfn n).bme && !(s.pfn n).d3
  | none => false
def Pf.vec (p : Pf) (v : Nat) : Vec := NMap.get {} p.vecs v
def Pf.setVec (p : Pf) (v : Nat) (x : Vec) : Pf := { p with vecs := NMap.set {} p.vecs v x }
/-- One MSI-X message of a PF: sent, held pending by a mask, or not sent at all (R401; MSI-X of PCI Express). -/
def State.msi (s : State) (pf vector : Nat) : State :=
  let p := s.pfn pf
  if p.msixOn && s.pfUsable pf then
    if p.msixMask || (p.vec vector).masked then s.modPf pf (fun p => p.setVec vector { p.vec vector with pending := true })
    else s.emit (.msix pf vector)
  else s
/-- A completion of PF `pf`'s request: 0 success, 1 Unsupported Request, 2 Completer Abort, 3 success with poisoned data. -/
def complete (pf status : Nat) (data : List Byte) (s : State) : State := s.emit (.completion pf status data)
/-- A read refused with Unsupported Request or Completer Abort, whose AER status bits freeze nothing (R400; log 17); the latter also sets
Signaled Target Abort. -/
def refuseRead (pf status : Nat) (s : State) : State :=
  complete pf status [] (s.modPf pf (fun p =>
    { p with aer := p.aer ||| (if status = 1 then 2 ^ 20 else 2 ^ 15), status := if status = 2 then p.status ||| 2 ^ 27 else p.status }))
/-- A host request that finds no translation (R2, R385). -/
def unmapped (pf : Nat) (write : Bool) (s : State) : State :=
  let s1 := s.gcount Reg.HST_COUNT2 63 32
  if write then s1 else refuseRead pf 1 s1

end Sys2Proof.Machine
end

