-- ==== Sys2Proof/Machine/Clock.lean ====
section
/-!
DEFINITION. Device time read as bounded timestamps: the terms of Table 02.6, the bound of R57, central and slice time.
-/
namespace Sys2Proof.Machine
open Sys2Proof

/-- REF_SEL and FREQ_SRC of TRF_CTRL; the reserved FREQ_SRC 3 is used as none (Table 02.11). -/
def State.refSel (s : State) : Nat := fld (s.greg Reg.TRF_CTRL) 1 0
def State.freqSrc (s : State) : Nat := let f := fld (s.greg Reg.TRF_CTRL) 33 32; if f = 3 then 0 else f
/-- A field of the bound configuration with its floor of 1 (R59). -/
def floor1 (n : Nat) : Nat := max n 1
/-- The largest of a list, 0 when empty. -/
def maxOf (l : List Nat) : Nat := l.foldl max 0

/-- The reference term in 1/16 ns (R496). -/
def TimeRef.refBound (t : TimeRef) : Nat :=
  match t.refTerm with
  | .none => 0x3FFF
  | .ptp => fld t.boundCfg 13 0
  | .pps => fld t.boundCfg 29 16
  | .tod b => b
/-- The residual term in 1/256 ns (Table 02.6): the largest |e| held, frozen in HOLDOVER, 0 with the ToD reference, from the marker
after the write that selects it (R58). -/
def State.residual (s : State) : Nat :=
  if s.refSel = 3 then (if s.trf.resHeld then s.trf.residual else 0)
  else if s.trf.servo = .holdover ∨ s.trf.freerunPending then s.trf.residual
  else maxOf s.trf.history
/-- The wander term in 1/256 ns: HOLDOVER_RATE in ps/s times the whole microseconds since the last sample or load (R57). -/
def State.wander (s : State) : Nat :=
  ceilDiv (floor1 (fld s.trf.boundCfg 47 32) * ceilDiv (s.uptime - s.trf.wanderFrom) cyclesUs * 256) 1000000000
/-- FREERUN makes every bound unbounded, from the next marker when a command did it (R58). -/
def State.unboundedRef (s : State) : Bool := decide (s.trf.servo = .freerun) && !s.trf.freerunPending
/-- A sum of terms in 1/256 ns as a bound in 1/16 ns, saturating at 0x3FFF (R57). -/
def boundOf (sum : Nat) : Nat := min (ceilDiv sum 16) 0x3FFF
/-- Reference, residual and wander terms in 1/256 ns. -/
def State.centralSum (s : State) : Nat := 16 * s.trf.refBound + s.residual + s.wander
/-- CENTRAL_BOUND (Table 02.16). -/
def State.centralBound (s : State) : Nat := if s.unboundedRef then 0x3FFF else boundOf s.centralSum

/-- The skew term in 1/256 ns: the larger of the last two |skew|, plus 16 (Table 02.6). -/
def Tbu.skewTerm (t : Tbu) : Nat := max t.skew0.natAbs t.skew1.natAbs + 16
/-- Slice bound without the lane term (TBU_BOUND). -/
def State.sliceBound (s : State) (i : Fin 16) : Nat :=
  let t := (s.slice i).tbu
  if s.unboundedRef || !t.checkValid then 0x3FFF else boundOf (s.centralSum + t.skewTerm)
/-- PRT_CAL_ADJ as captures of cycle `t` use it: a write applies after two cycles (R87). -/
def Lane.adjNow (l : Lane) (t : Nat) : Word :=
  match l.adjAt with
  | some a => if t ≤ a + 2 then l.adjPrev else l.adj
  | none => l.adj
/-- CAL_VALID at cycle `t`: it falls for the cycle in which an adjustment is applied (R85). -/
def Lane.calValidNow (l : Lane) (t : Nat) : Bool :=
  l.calValid && (match l.adjAt with
    | some a => decide (t ≠ a + 3)
    | none => true)
/-- CAP_UNC, RX_DELAY and TX_DELAY in use (Table 03.9): factory values with deskew, plus the adjustments. -/
def Lane.capUnc (l : Lane) (t : Nat) : Nat := l.facUnc + fld (l.adjNow t) 47 32
def Lane.rxDelay (l : Lane) (t : Nat) : Int := (l.facRx : Int) + sxNat 16 (fld (l.adjNow t) 15 0)
def Lane.txDelay (l : Lane) (t : Nat) : Int := (l.facTx : Int) + sxNat 16 (fld (l.adjNow t) 31 16)

/-- The bound of a capture on lane `k` of slice `i` (R57). -/
def State.captureBound (s : State) (i : Fin 16) (k : Nat) : Nat :=
  let t := (s.slice i).tbu
  let l := s.lane i k
  if s.unboundedRef || !t.checkValid || !l.calValidNow s.uptime || decide (s.uptime < l.faultUntil) then 0x3FFF
  else boundOf (s.centralSum + t.skewTerm + max (l.capUnc s.uptime) 90)

/-- Central time and slice time in 1/16 ns. -/
def State.centralT (s : State) : Nat := t16 s.trf.acc
def State.sliceT (s : State) (i : Fin 16) : Nat := t16 (s.slice i).tbu.acc
/-- Central time with the central bound, and slice time with the slice bound (R66). -/
def State.centralStamp (s : State) : Stamp := stampOf s.centralT s.centralBound
def State.sliceStamp (s : State) (i : Fin 16) : Stamp := stampOf (s.sliceT i) (s.sliceBound i)

/-- The core is at a 1 µs marker: markers fall every 1,500 cycles of core time (R470, Table 02.8). -/
def State.atMarker (s : State) : Bool := s.up && decide (s.cycle % cyclesUs = 0)

end Sys2Proof.Machine
end

