-- ==== Sys2Proof/Machine/ScribeMsg.lean ====
section
/-!
DEFINITION. The Scribe message of Table 16.5: its layout, its tag, what a received one holds.
-/
namespace Sys2Proof.Machine
open Sys2Proof

/-- TAG of a message under a key. -/
def scribeTag (key body : List Byte) : List Byte := (hmac256 key body).take 16
/-- A message that the Scribe sends: TYPE 2 RESPONSE or 3 NOTIFY, tagged while a management key is loaded (R429). -/
def scribeMessage (s : State) (typ op status counter : Nat) (payload : List Byte) : List Byte :=
  let body := [0x53, 0x42, 0x01, byte typ] ++ bytesLE 2 op ++ [byte status, 0] ++ bytesLE 8 s.scribe.nonce.toNat ++
    bytesLE 8 counter ++ bytesLE 2 payload.length ++ List.replicate 6 0 ++ payload
  match s.scribe.mgmt with
  | some k => if s.scribe.keyLoaded then body ++ scribeTag k body else body
  | none => body

/-- Fields of a received message. -/
def msgOpcode (m : List Byte) : Nat := ofBytesLE (slice m 4 2)
def msgCounter (m : List Byte) : Nat := ofBytesLE (slice m 16 8)
def msgLength (m : List Byte) : Nat := ofBytesLE (slice m 24 2)
def msgPayload (m : List Byte) : List Byte := slice m 32 (msgLength m)
/-- Whether a message carries TAG: its 16 bytes follow the payload (log 24). -/
def msgTagged (m : List Byte) : Bool := decide (m.length = 48 + msgLength m)
/-- The fixed fields of a request are correct and LENGTH matches the message (R427). -/
def msgWellFormed (m : List Byte) : Bool :=
  decide (slice m 0 4 = [0x53, 0x42, 0x01, 0x01]) && decide (slice m 6 2 = [0, 0]) && (slice m 26 6).all (· == 0) &&
  decide (msgLength m ≤ 1392) && (msgTagged m || decide (m.length = 32 + msgLength m))
def msgNonceOk (s : State) (m : List Byte) : Bool := decide (ofBytesLE (slice m 8 8) = s.scribe.nonce.toNat)
/-- TAG verifies under the loaded management key. -/
def msgTagOk (s : State) (m : List Byte) : Bool :=
  s.scribe.keyLoaded && msgTagged m && (match s.scribe.mgmt with
    | some k => decide (scribeTag k (m.take (32 + msgLength m)) = m.drop (32 + msgLength m))
    | none => false)

end Sys2Proof.Machine
end

