-- ==== Sys2Proof/Machine/Fault.lean ====
section
/-!
DEFINITION. Fault units ("Fault Collection, Fencing and Recovery"): sources, rises, reactions in force, history, lifts.
A rise or a lift whose reaction removes or returns a unit is queued in `State.due`; `settle` applies it.
-/
namespace Sys2Proof.Machine
open Sys2Proof

/-- What the reaction FENCE_UNIT of a source removes (Table 17.1). -/
inductive FenceUnit where
  | port (lane : Nat) | cluster (c : Nat) | nearBank (b : Nat) | session | rules | ddr5 | xbr | meters | seqCtrs
  | frag | learn | digest (u : Nat)
  deriving DecidableEq, Repr

/-- The fence target of a source id, `none` where Table 17.1 gives none. -/
def fenceTarget (id : Nat) : Option FenceUnit :=
  if 0x100 ≤ id ∧ id ≤ 0x13F then some (.port (id - 0x100))
  else if 0x200 ≤ id ∧ id ≤ 0x20F then some (.cluster (id - 0x200))
  else if 0x310 ≤ id ∧ id ≤ 0x31F then some (.nearBank (id - 0x310))
  else if id = 0x301 then some .session
  else if id = 0x400 ∨ id = 0x401 then some .rules
  else if 0x800 ≤ id ∧ id ≤ 0x803 then some .ddr5
  else if id = 0x901 then some .xbr
  else if id = 0x902 then some .meters
  else if id = 0x903 then some .seqCtrs
  else if id = 0x904 then some .frag
  else if id = 0x905 then some .learn
  else if 0x910 ≤ id ∧ id ≤ 0x91F then some (.digest (id - 0x910))
  else none

/-- The sources of slice fault units (Table 17.1). -/
def sliceSource (id : Nat) : Bool :=
  decide (id ≤ 2) || (decide (0x100 ≤ id) && decide (id ≤ 0x13F)) || (decide (0x200 ≤ id) && decide (id ≤ 0x20F)) ||
  (decide (0x300 ≤ id) && decide (id ≤ 0x305)) || (decide (0x310 ≤ id) && decide (id ≤ 0x31F)) || decide (id = 0x400) ||
  decide (id = 0x401) || (decide (0x500 ≤ id) && decide (id ≤ 0x504)) || decide (id = 0x600) ||
  (decide (0x700 ≤ id) && decide (id ≤ 0x702)) || (decide (0x800 ≤ id) && decide (id ≤ 0x803)) ||
  (decide (0x900 ≤ id) && decide (id ≤ 0x905)) || (decide (0x910 ≤ id) && decide (id ≤ 0x91F))
/-- The sources of the device fault unit. -/
def deviceSource (id : Nat) : Bool :=
  (decide (0xA00 ≤ id) && decide (id ≤ 0xA03)) || (decide (0xB00 ≤ id) && decide (id ≤ 0xB03)) ||
  (decide (0xC00 ≤ id) && decide (id ≤ 0xC04)) || decide (id = 0xD00) || decide (id = 0xD01) ||
  (decide (0xE00 ≤ id) && decide (id ≤ 0xE02))
/-- The fatal sources (R437). -/
def fatalSource (id : Nat) : Bool := decide (0xE00 ≤ id) && decide (id ≤ 0xE02)
/-- Condition sources (Table 17.1); the others are event sources. -/
def conditionSource (id : Nat) : Bool :=
  [0x001, 0x304, 0x800, 0xA00, 0xA03, 0xB00, 0xB01, 0xB02, 0xC00, 0xC01, 0xC02, 0xC03, 0xD01].contains id
/-- Whether unit `u` (16 is the device's) holds source `id`. -/
def unitHas (u id : Nat) : Bool := if u = 16 then deviceSource id else decide (u < 16) && sliceSource id
/-- ALLOWED of a source: bit 0 RECORD, 1 FENCE_UNIT, 2 FENCE_SLICE; 0 for the fatal sources (R438, Table 17.8). -/
def allowedReactions (id : Nat) : Nat :=
  if fatalSource id then 0 else if id < 0xA00 then 1 + 2 * b2n (fenceTarget id).isSome + 4 else 1

/-- A source at reset: RECORD, or FATAL for the fatal sources. -/
def srcReset (id : Nat) : FaultSrc := if fatalSource id then { reaction := 3 } else {}
/-- Fault unit `u`. -/
def State.fu (s : State) (u : Nat) : FaultUnit := if u < 16 then (s.slice (sl u)).flt else s.flt
def State.modFu (s : State) (u : Nat) (f : FaultUnit → FaultUnit) : State :=
  if u < 16 then s.modSlice (sl u) (fun x => { x with flt := f x.flt }) else { s with flt := f s.flt }
/-- Source `id` of a unit. -/
def FaultUnit.src (f : FaultUnit) (id : Nat) : FaultSrc := NMap.get (srcReset id) f.srcs id
def FaultUnit.setSrc (f : FaultUnit) (id : Nat) (x : FaultSrc) : FaultUnit :=
  { f with srcs := NMap.set (srcReset id) f.srcs id x }
def State.src (s : State) (u id : Nat) : FaultSrc := (s.fu u).src id
def State.setSrc (s : State) (u id : Nat) (x : FaultSrc) : State := s.modFu u (fun f => f.setSrc id x)

/-- LIVE of a source at uptime `t` (R436). -/
def FaultSrc.live (x : FaultSrc) (id t : Nat) : Bool :=
  if conditionSource id then x.cond || x.force else decide (t < x.liveUntil)
/-- QUIET in CCLK cycles: 1 to 1,000,000 µs (Table 17.8). -/
def FaultSrc.quietCycles (x : FaultSrc) : Nat := min (max x.quiet 1) 1000000 * cyclesUs

/-- The number of history entries a unit keeps (R448). -/
def histDepth (u : Nat) : Nat := if u = 16 then 64 else 32
/-- Slice entries carry slice time, device entries central time, each with its bound (R448). -/
def State.unitStamp (s : State) (u : Nat) : Stamp := if u < 16 then s.sliceStamp (sl u) else s.centralStamp

/-- The 20 bytes of a history entry (Table 17.5). -/
def HistEntry.bytes (e : HistEntry) : List Byte :=
  bytesLE 12 e.time.toNat ++ bytesLE 2 (e.source + e.kind * 4096) ++ [byte e.flags, byte e.unit] ++ bytesLE 4 e.syndrome

/-- VECTOR of FLT_INT_CFG sent through the unit's PF, or deferred to the end of the 10 µs interval (R451). -/
def faultInterrupt (u : Nat) (s : State) : State :=
  let cfg := if u < 16 then s.reg (sl u) Reg.FLT_INT_CFG else s.greg Reg.DFLT_INT_CFG
  if bitAt cfg 63 then
    let pf := if u < 16 then (s.slice (sl u)).owner.val else s.deviceOwner
    match (s.fu u).lastInt with
    | some t =>
      if s.uptime < t + 10 * cyclesUs then s.modFu u (fun f => { f with intWaits := true })
      else (s.modFu u (fun f => { f with lastInt := some s.uptime })).msi pf (fld cfg 42 32)
    | none => (s.modFu u (fun f => { f with lastInt := some s.uptime })).msi pf (fld cfg 42 32)
  else s

/-- NOTIFY of a written entry (R430): its block class lies in the mask and the Scribe runs firmware; ALERT_N goes low. -/
def notifyEntry (e : HistEntry) (s : State) : State :=
  if s.scribe.fw.isSome && bitAt s.scribe.notifyMask (e.source / 256) then
    let c := s.scribe
    let s1 := s.emit (.notify c.notifyTo (scribeMessage s 3 0x80 0 c.notifyCount e.bytes))
    let s2 : State := { s1 with scribe := { c with notifyCount := c.notifyCount + 1,
                                                   alert := if c.alert.contains e.unit then c.alert else c.alert ++ [e.unit] } }
    if c.alert.isEmpty then s2.emit (.pin "ALERT_N" false) else s2
  else s

/-- A history entry is written and signalled (R448, R451, R430). -/
def writeHist (u : Nat) (e : HistEntry) (s : State) : State :=
  let s1 := s.modFu u (fun f => { f with hist := (e :: f.hist).take (histDepth u), written := (f.written + 1) % 2 ^ 32 })
  notifyEntry e (faultInterrupt u s1)

/-- A rise's or lift's entry, or its suppression within 1 ms of the last entry of its group (R448). -/
def histEvent (u id kind syn : Nat) (forced : Bool) (s : State) : State :=
  let x := s.src u id
  let last := if kind = 1 ∨ kind = 4 then x.riseEntry else x.liftEntry
  let tooSoon := match last with
    | some t => decide (s.uptime < t + cyclesMs)
    | none => false
  if tooSoon && decide (kind ≠ 4) then s.modFu u (fun f => { f with suppressed := satN 16 (f.suppressed + 1) })
  else
    let e : HistEntry :=
      { time := s.unitStamp u, source := id, kind := kind,
        flags := x.reaction + 4 * b2n forced + 8 * b2n (x.live id s.uptime), unit := u,
        syndrome := if forced || decide (kind = 2) || decide (kind = 3) then 0 else syn % 2 ^ 32 }
    let x1 := if kind = 1 ∨ kind = 4 then { x with riseEntry := some s.uptime } else { x with liftEntry := some s.uptime }
    writeHist u e (s.setSrc u id x1)

/-- One rise (R437): SEEN and RAISE_COUNT, ACTIVE with its reaction, or a restarted quiet period. -/
def rise (u id syn : Nat) (forced : Bool) (s : State) : State :=
  let x := s.src u id
  let x1 := { x with seen := true, raised := satN 16 (x.raised + 1), active := true, lastRise := some (s.uptime / 4),
                     quietFrom := if x.auto && !conditionSource id then some x.liveUntil else none }
  let s1 := s.setSrc u id x1
  let s2 := if x.active || decide (x.reaction = 0) then s1 else { s1 with due := s1.due ++ [⟨u, id, false⟩] }
  histEvent u id (if fatalSource id then 4 else 1) syn forced s2

/-- An event source signals an event: LIVE for one PCLK cycle; events of one PCLK cycle are one rise (R436, R437). -/
def raiseEvent (u id syn : Nat) (forced : Bool) (s : State) : State :=
  let x := s.src u id
  let s1 := s.setSrc u id { x with liveUntil := (s.uptime / 4 + 1) * 4 }
  if x.lastRise = some (s.uptime / 4) then s1 else rise u id syn forced s1

/-- A condition source's condition takes a value (R436): a change of LIVE to 1 is a rise, to 0 starts the quiet period. -/
def setCond (u id : Nat) (c : Bool) (syn : Nat) (s : State) : State :=
  let x := s.src u id
  let s1 := s.setSrc u id { x with cond := c }
  if !(x.cond || x.force) && c then rise u id syn false s1
  else if (x.cond || x.force) && !(c || x.force) && x.auto && x.active then
    s1.setSrc u id { x with cond := c, quietFrom := some s.uptime }
  else s1

/-- A source leaves its fault state (R444, R445): kind 2 automatic, 3 software. -/
def liftSource (u id kind : Nat) (s : State) : State :=
  let x := s.src u id
  let s1 := s.setSrc u id { x with active := false, recover := satN 16 (x.recover + 1), quietFrom := none }
  let s2 := if x.reaction = 0 then s1 else { s1 with due := s1.due ++ [⟨u, id, true⟩] }
  histEvent u id kind 0 false s2

/-- Whether an ACTIVE source of slice `i` satisfies `p`. -/
def Slice.anyActive (x : Slice) (p : Nat → FaultSrc → Bool) : Bool := x.flt.srcs.any (fun e => e.2.active && p e.1 e.2)
/-- The slice is fenced: an ACTIVE source has REACTION = FENCE_SLICE (R439). -/
def Slice.fenced (x : Slice) : Bool := x.anyActive (fun _ f => decide (f.reaction = 2))
/-- A source whose REACTION is FENCE_UNIT fences the unit (R439). -/
def Slice.unitFencedAlone (x : Slice) (f : FenceUnit) : Bool :=
  x.anyActive (fun id y => decide (y.reaction = 1) && decide (fenceTarget id = some f))
/-- A unit that a slice fence takes with it is fenced by either (R439, R443). -/
def Slice.unitFenced (x : Slice) (f : FenceUnit) : Bool :=
  x.unitFencedAlone f || (x.fenced && decide (f ≠ .ddr5))
/-- The port that holds lane `k` is fenced when a source of any of its lanes fences it. -/
def State.unitFenced (s : State) (i : Fin 16) (f : FenceUnit) : Bool := (s.slice i).unitFenced f
/-- A fatal source signals now (R469). -/
def State.fatalLive (s : State) : Bool :=
  [0xE00, 0xE01, 0xE02].any (fun id => (s.flt.src id).live id s.uptime)

end Sys2Proof.Machine
end

