-- ==== Sys2Proof/Machine/PmcCount.lean ====
section
/-!
DEFINITION. Performance counters: how an event counts, overflows and selects a sample ("Performance Counters and Sampling").
-/
namespace Sys2Proof.Machine
open Sys2Proof

/-- The attributes of one event that the filters read (R454). -/
structure PmcAttr where
  cluster : Nat := 0
  cls     : Nat := 0
  req     : Nat := 0
  src     : Nat := 0
  range   : Nat := 0

/-- The filters that Table 18.1 lists for an event: CLUSTER, CLASS, REQ, SRC, RANGE. -/
def pmcFilters (ev : Nat) : List Bool :=
  if ev = 0x10 ∨ ev = 0x11 then [true, true, false, false, true]
  else if 0x12 ≤ ev ∧ ev ≤ 0x19 then [true, false, false, false, false]
  else if ev = 0x20 ∨ ev = 0x30 ∨ ev = 0x31 then [false, false, true, false, true]
  else if ev = 0x40 ∨ ev = 0x41 then [false, true, false, true, false]
  else if ev = 0x50 then [false, true, false, false, true]
  else if ev = 0x60 then [false, false, false, true, false]
  else if ev = 0x61 then [false, false, false, false, true]
  else [false, false, false, false, false]

/-- The events of Table 18.1; other values count nothing. -/
def pmcEvents : List Nat :=
  [0x01, 0x10, 0x11, 0x12, 0x13, 0x14, 0x15, 0x16, 0x18, 0x19, 0x20, 0x30, 0x31, 0x40, 0x41, 0x50, 0x60, 0x61]

/-- Register offsets of counter `i`. -/
def pmcCtr (i : Nat) : Nat := Reg.PMC_CTR + 0x40 * i
def pmcCfg (i : Nat) : Nat := Reg.PMC_CFG + 0x40 * i
def pmcFilt (i : Nat) : Nat := Reg.PMC_FILT + 0x40 * i
def pmcLo (i : Nat) : Nat := Reg.PMC_RANGE_LO + 0x40 * i
def pmcHi (i : Nat) : Nat := Reg.PMC_RANGE_HI + 0x40 * i

/-- An event passes the enabled filters that its event has (R454). -/
def Slice.pmcPasses (x : Slice) (i ev : Nat) (a : PmcAttr) : Bool :=
  let cfg := x.reg (pmcCfg i)
  let f := x.reg (pmcFilt i)
  let has := fun k => (pmcFilters ev)[k]?.getD false
  (!(bitAt cfg 39 && has 0) || bitAt f (48 + a.cluster % 16)) &&
  (!(bitAt cfg 38 && has 1) || bitAt f (32 + a.cls % 16)) &&
  (!(bitAt cfg 37 && has 2) || bitAt f (16 + a.req % 4)) &&
  (!(bitAt cfg 36 && has 3) || bitAt f (a.src % 16)) &&
  (!(bitAt cfg 35 && has 4) ||
    (decide (fld (x.reg (pmcLo i)) 39 0 ≤ a.range) && decide (a.range ≤ fld (x.reg (pmcHi i)) 39 0)))

/-- Counter `i` counts event `ev` now (R453). -/
def Slice.pmcCounts (x : Slice) (i ev : Nat) (a : PmcAttr) : Bool :=
  pmcEvents.contains ev && decide (x.pwr ≠ .retention) && bitAt (x.reg Reg.PMC_CTRL) 63 && bitAt (x.reg (pmcCfg i)) 63 &&
  decide (fld (x.reg (pmcCfg i)) 55 48 = ev) && x.pmcPasses i ev a

/-- The overflow interrupt of a slice, at most once per 10 µs (R456); it covers every overflow of its cycle. -/
def pmcInterrupt (i : Fin 16) (s : State) : State :=
  let ctrl := s.reg i Reg.PMC_CTRL
  let x := s.slice i
  let send := (s.modSlice i (fun y => { y with pmc := { y.pmc with lastInt := some s.uptime } })).msi x.owner.val (fld ctrl 42 32)
  match x.pmc.lastInt with
  | some t =>
    if s.uptime = t then s
    else if s.uptime < t + 10 * cyclesUs then s.modSlice i (fun y => { y with pmc := { y.pmc with intWaits := true } }) else send
  | none => send

/-- One counter takes an event of amount `n`: the sum, or at overflow the reload value, OVF and its interrupt (R456).  What a cycle has
added is kept until its end (R455). -/
def pmcBump (i : Fin 16) (k n : Nat) (s0 : State) : State × Bool :=
  let s := s0.modSlice i (fun y => { y with pmc := { y.pmc with added := NMap.set 0 y.pmc.added k (NMap.get 0 y.pmc.added k + n) } })
  let sum := (s.reg i (pmcCtr k)).toNat + n
  if sum < 2 ^ 64 then (s.setReg i (pmcCtr k) (word sum), false)
  else
    let cfg := s.reg i (pmcCfg k)
    let s1 := s.setReg i (pmcCtr k) (word (2 ^ 64 - fld cfg 31 0))
    let s2 := s1.setReg i Reg.PMC_STATUS (s1.reg i Reg.PMC_STATUS ||| word (2 ^ k))
    (if bitAt cfg 61 && bitAt (s.reg i Reg.PMC_CTRL) 0 then pmcInterrupt i s2 else s2, true)

/-- An event of amount `n` on slice `i`: every counter that passes it counts it; an overflow with FREEZE_ON_OVF then clears
RUN.  The counters that overflowed with SAMPLE set are named, lowest first (R456, R458). -/
def pmcEventS (i : Fin 16) (ev n : Nat) (a : PmcAttr) (s : State) : State × List Nat :=
  let r := (List.range 16).foldl (fun (acc : State × List Nat × Bool) k =>
    if (s.slice i).pmcCounts k ev a then
      let b := pmcBump i k n acc.1
      (b.1, if b.2 && bitAt (s.reg i (pmcCfg k)) 62 then acc.2.1 ++ [k] else acc.2.1, acc.2.2 || b.2)
    else acc) (s, [], false)
  let s1 := if r.2.2 && bitAt (s.reg i Reg.PMC_CTRL) 62
    then r.1.setReg i Reg.PMC_CTRL (setFld (r.1.reg i Reg.PMC_CTRL) 63 63 0) else r.1
  (s1, r.2.1)
/-- An event that selects no sample. -/
def pmcEvent (i : Fin 16) (ev n : Nat) (a : PmcAttr) (s : State) : State := (pmcEventS i ev n a s).1

/-- A sample record enters the queue of 8 before the buffer (R459): one that finds it full is lost and counted; with SMP_EN 0 none is
written. -/
def pmcSample (i : Fin 16) (rec_ : Sample) (s : State) : State :=
  if bitAt (s.reg i Reg.PMC_SMP_CFG) 63 then
    if (s.slice i).pmc.queue.length < 8 then s.modSlice i (fun y => { y with pmc := { y.pmc with queue := y.pmc.queue ++ [rec_] } })
    else s.count i Reg.PMC_SMP_STATUS 31 0
  else s
/-- The buffer takes one record of the queue in a cycle, after the removals of that cycle (R459): when full it loses the new record, or
with WRAP overwrites the oldest, and LOST counts. -/
def sampleDrain (i : Fin 16) (s : State) : State :=
  let held := (s.slice i).pmc.samples
  let put := fun (l : List Sample) (s : State) => s.modSlice i (fun y => { y with pmc := { y.pmc with samples := l, queue := y.pmc.queue.drop 1 } })
  match (s.slice i).pmc.queue with
  | [] => s
  | r :: _ =>
    if held.length < 4096 then put (held ++ [r]) s
    else put (if bitAt (s.reg i Reg.PMC_SMP_CFG) 62 then held.drop 1 ++ [r] else held) (s.count i Reg.PMC_SMP_STATUS 31 0)

/-- A slot class counter, modulo 2⁶⁴ (R457). -/
def slotCount (m : NMap Nat) (c n : Nat) : NMap Nat := NMap.set 0 m c ((NMap.get 0 m c + n) % 2 ^ 64)
def State.countRetired (s : State) (i : Fin 16) (c : Nat) : State :=
  s.modSlice i (fun y => { y with pmc := { y.pmc with retired := slotCount y.pmc.retired c 1 } })
def State.countWasted (s : State) (i : Fin 16) (c : Nat) : State :=
  s.modSlice i (fun y => { y with pmc := { y.pmc with wasted := slotCount y.pmc.wasted c 1 } })
/-- A Quill's slot of this cycle is used by an instruction of thread `t` (R457). -/
def State.useSlot (s : State) (i : Fin 16) (t cls pc : Nat) (retired : Bool) : State :=
  s.modSlice i (fun y => { y with pmc := { y.pmc with slots := NMap.set none y.pmc.slots (t / 2) (some { cycle := s.cycle, thread := t, cls := cls, pc := pc, retired := retired }) } })
/-- The Quill has issued in this cycle. -/
def State.slotUsed (s : State) (i : Fin 16) (q : Nat) : Bool :=
  match NMap.get none (s.slice i).pmc.slots q with
  | some x => decide (x.cycle = s.cycle)
  | none => false
/-- A thread ends or stops in the cycle in which it has issued: that slot is wasted and not retired (R457), and so count the events
(Table 18.1). -/
def wasteSlot (i : Fin 16) (t : Nat) (s : State) : State :=
  match NMap.get none (s.slice i).pmc.slots (t / 2) with
  | none => s
  | some x =>
    if x.cycle = s.cycle ∧ x.thread = t ∧ x.retired then
      let a : PmcAttr := { cluster := t / 64, cls := x.cls, range := x.pc }
      let s1 := (List.range 16).foldl (fun b k =>
        if (s.slice i).pmcCounts k 0x10 a then b.setReg i (pmcCtr k) (b.reg i (pmcCtr k) - 1) else b) s
      let s2 := s1.modSlice i (fun y => { y with pmc := { y.pmc with
        retired := slotCount y.pmc.retired (t / 64) (2 ^ 64 - 1), slots := NMap.set none y.pmc.slots (t / 2) (some { x with retired := false }) } })
      pmcEvent i 0x11 1 a (s2.countWasted i (t / 64))
    else s
/-- PMC_TD: RETIRED, WASTED, FRONT_STARVED and BACK_STARVED of a cluster; the four sum to 32 per CCLK cycle (R457). -/
def State.pmcTd (s : State) (i : Fin 16) (c k : Nat) : Word :=
  let p := (s.slice i).pmc
  let r := NMap.get 0 p.retired c
  let w := NMap.get 0 p.wasted c
  let b := NMap.get 0 p.back c
  match k with
  | 0 => word r
  | 1 => word w
  | 2 => word (32 * s.cycle + 2 ^ 66 - r - w - b)
  | _ => word b

end Sys2Proof.Machine
end

