-- ==== Sys2Proof/Machine/Buffer.lean ====
section
/-!
DEFINITION. The buffer pool manager ("Packet Buffer and Pools"): free lists, allocation, frees and their checks, commands.
-/
namespace Sys2Proof.Machine
open Sys2Proof

/-- General cells, cells per bank (R243). -/
def generalCells : Nat := 114688
def bankCells : Nat := 8192
/-- The free list of general bank `b` as reset and R257 build it: every cell free, in order. -/
def bankListFull (b : Nat) : FreeList := { stack := [], next := bankCells * b, limit := bankCells * (b + 1) }
/-- A pool's list with every buffer free. -/
def poolListFull (n : Nat) : FreeList := { stack := [], next := 0, limit := n }

def Bpm.cell (b : Bpm) (c : Nat) : Cell := NMap.get {} b.cells c
def Bpm.setCell (b : Bpm) (c : Nat) (x : Cell) : Bpm := { b with cells := NMap.set {} b.cells c x }
def Bpm.bank (b : Bpm) (k : Nat) : BankState := NMap.get .active b.banks k
def Bpm.setBank (b : Bpm) (k : Nat) (x : BankState) : Bpm := { b with banks := NMap.set .active b.banks k x }
def Bpm.list (b : Bpm) (k : Nat) : FreeList := NMap.get (bankListFull k) b.lists k
def Bpm.setList (b : Bpm) (k : Nat) (x : FreeList) : Bpm := { b with lists := NMap.set (bankListFull k) b.lists k x }
/-- Buffers of pool `p` under the present layout, its buffer size in cells, and its base in bytes (R253). -/
def Bpm.poolCount (b : Bpm) (p : Nat) : Nat := if p = 0 then b.n0 else if p = 1 then b.n1 else b.n2
def poolCells (p : Nat) : Nat := if p = 0 then 4 else if p = 1 then 16 else 76
def Bpm.poolBase (b : Bpm) (p : Nat) : Nat :=
  0xE00000 + (if p = 0 then 0 else 512 * b.n0) + (if p = 2 then 2048 * b.n1 else 0)
def Bpm.pool (b : Bpm) (p : Nat) : FreeList := NMap.get (poolListFull (b.poolCount p)) b.pools p
def Bpm.setPool (b : Bpm) (p : Nat) (x : FreeList) : Bpm :=
  { b with pools := NMap.set (poolListFull (b.poolCount p)) b.pools p x }
/-- The number of free units of a list. -/
def FreeList.size (l : FreeList) : Nat := l.stack.length + (l.limit - l.next)
/-- The head of a list and the rest. -/
def FreeList.pop (l : FreeList) : Option (Nat × FreeList) :=
  match l.stack with
  | c :: cs => some (c, { l with stack := cs })
  | [] => if l.next < l.limit then some (l.next, { l with next := l.next + 1 }) else none
def FreeList.push (l : FreeList) (c : Nat) : FreeList := { l with stack := c :: l.stack }

/-- GENERAL_FREE: free general cells in ACTIVE banks (Table 09.8). -/
def Bpm.generalFree (b : Bpm) : Nat :=
  sumNat ((List.range 14).map (fun k => if b.bank k = .active then (b.list k).size else 0))

/-- The pool buffer that a byte pointer names: (pool, buffer), if it is the first byte of one (R244). -/
def Bpm.poolOf (b : Bpm) (p : Nat) : Option (Nat × Nat) :=
  (List.range 3).findSome? (fun k =>
    let size := 128 * poolCells k
    if b.poolBase k ≤ p ∧ p < b.poolBase k + size * b.poolCount k ∧ (p - b.poolBase k) % size = 0
    then some (k, (p - b.poolBase k) / size) else none)
/-- Byte pointer of a pool buffer. -/
def Bpm.bufferPtr (b : Bpm) (k i : Nat) : Nat := b.poolBase k + 128 * poolCells k * i
/-- A pointer is valid (R244). -/
def Bpm.validPtr (b : Bpm) (p : Nat) : Bool :=
  decide (p % 128 = 0) && decide (p < 0x1000000) && (decide (p < 0xE00000) || (b.poolOf p).isSome)
/-- The legal owner tags (Table 09.2). -/
def legalOwner (t : Nat) : Bool :=
  decide (t ≤ 0x010) || (decide (0x100 ≤ t) && decide (t ≤ 0x1FF)) || decide (t = 0x200) || decide (t = 0x300)

/-- A pop that yields an allocated cell or one outside the bank finds the list broken (R250). -/
def Bpm.badPop (b : Bpm) (k c : Nat) : Bool := (b.cell c).allocated || decide (c / bankCells ≠ k)

/-- A general cell from bank `k`: `none` when the bank is not ACTIVE or empty; a broken list is removed from allocation. -/
def Bpm.allocFrom (b : Bpm) (k owner : Nat) : Option Nat × Bpm × Bool :=
  if b.bank k = .active ∧ ¬ (b.list k).broken then
    match (b.list k).pop with
    | none => (none, b, false)
    | some (c, l) =>
      if b.badPop k c then (none, b.setList k { b.list k with broken := true }, true)
      else (some c, { (b.setList k l).setCell c { b.cell c with allocated := true, owner := owner, link := none } with
                      rotor := (k + 1) % 14 }, false)
  else (none, b, false)

/-- The banks tried in rotating order (R246); every bank found broken on the way is reported. -/
def Bpm.allocTry (owner : Nat) : List Nat → Bpm → List Nat → Option Nat × Bpm × List Nat
  | [], b, br => (none, b, br)
  | k :: ks, b, br =>
    match b.allocFrom k owner with
    | (some c, b', _) => (some c, b', br)
    | (none, b', broke) => Bpm.allocTry owner ks b' (if broke then br ++ [k] else br)

/-- A general cell for `owner`; class 7 crossbar cells may use the reserve (R248). -/
def allocGeneral (i : Fin 16) (owner : Nat) (c7 : Bool) (s : State) : Option Nat × State :=
  let b := (s.slice i).bpm
  if (!c7 && decide (b.generalFree ≤ fld (s.reg i Reg.BPM_CFG) 47 32)) || decide (b.generalFree = 0) then (none, s)
  else
    let r := b.allocTry owner ((List.range 14).map (fun j => (b.rotor + j) % 14)) []
    let s1 := s.modSlice i (fun x => { x with bpm := r.2.1 })
    (r.1, r.2.2.foldl (fun a k => raiseEvent i.val 0x503 (bankCells * k * 128) false (a.count i Reg.BPM_COUNT1 15 0)) s1)

/-- A refused free (R256): BPM_FAULT, BPM_COUNT0, the source; KIND 1 double free, 2 owner, 3 range. -/
def refuseFree (i : Fin 16) (kind ptr given : Nat) (s : State) : State :=
  let own := if kind = 3 then 0 else ((s.slice i).bpm.cell (ptr / 128)).owner
  let w := pack [(63, 62, kind), (61, 52, given), (51, 42, own), (23, 0, ptr)]
  let s1 := s.modSlice i (fun x => { x with bpm := { x.bpm with fault := w } })
  let hi := if kind = 1 then 63 else if kind = 2 then 47 else 31
  raiseEvent i.val (if kind = 1 then 0x501 else if kind = 2 then 0x502 else 0x500) (ptr % 2 ^ 24) false
    (s1.count i Reg.BPM_COUNT0 hi (hi - 15))

/-- The first failing check of Table 09.5 for a pointer and a tag: 0 when all pass. -/
def Bpm.freeCheck (b : Bpm) (ptr owner : Nat) : Nat :=
  if !b.validPtr ptr then 3
  else if !(b.cell (ptr / 128)).allocated then 1
  else if (b.cell (ptr / 128)).owner ≠ owner then 2
  else 0

/-- A cell's side-band state after a free. -/
def Cell.freed (c : Cell) : Cell := { c with allocated := false, owner := 0, link := none }
/-- A DRAINING bank with no allocated or quarantined cell (R262). -/
def Bpm.bankEmpty (b : Bpm) (k : Nat) : Bool :=
  b.cells.all (fun e => decide (e.1 / bankCells ≠ k) || (!e.2.allocated && !e.2.quarantined))

/-- The pool and the buffer that hold a cell of the pool region, none for the unused tail. -/
def Bpm.bufferAt (b : Bpm) (c : Nat) : Option (Nat × Nat) :=
  (List.range 3).findSome? (fun p =>
    let base := b.poolBase p / 128
    if base ≤ c ∧ c < base + poolCells p * b.poolCount p then some (p, (c - base) / poolCells p) else none)
/-- `n` cells from `c` on changed alike: the cells of one buffer share its state (R245, R252). -/
def Bpm.mapCells (b : Bpm) (c n : Nat) (f : Cell → Cell) : Bpm :=
  (List.range n).foldl (fun a k => a.setCell (c + k) (f (a.cell (c + k)))) b
/-- A pool buffer with a quarantined cell (R251). -/
def Bpm.bufferBad (b : Bpm) (p n : Nat) : Bool :=
  (List.range (poolCells p)).any (fun j => (b.cell (b.bufferPtr p n / 128 + j)).quarantined)
/-- A free list without one unit that it holds free, the order of the others kept. -/
def FreeList.without (l : FreeList) (c : Nat) : FreeList :=
  if l.stack.contains c then { l with stack := l.stack.erase c }
  else if l.next ≤ c ∧ c < l.limit then
    { l with stack := l.stack ++ (List.range (c - l.next)).map (l.next + ·), next := c + 1 }
  else l
/-- A cell is quarantined (R251): it, or the pool buffer that holds it, is never allocated again. -/
def Bpm.quarantine (b : Bpm) (c : Nat) : Bpm :=
  let b1 := b.setCell c { b.cell c with quarantined := true }
  if c < generalCells then b1.setList (c / bankCells) ((b1.list (c / bankCells)).without c)
  else
    match b.bufferAt c with
    | some (p, n) => b1.setPool p ((b1.pool p).without n)
    | none => b1
/-- Lists that were built anew give up their quarantined cells again: only core reset returns one (R251). -/
def Bpm.requarantine (b : Bpm) : Bpm := b.cells.foldl (fun a e => if e.2.quarantined then a.quarantine e.1 else a) b
/-- The list that a pointer lies in is broken: its bank or pool leaves allocation (R250). -/
def Bpm.breakAt (b : Bpm) (ptr : Nat) : Bpm :=
  let c := ptr / 128
  if c < generalCells then b.setList (c / bankCells) { b.list (c / bankCells) with broken := true }
  else match b.bufferAt c with
    | some (p, _) => b.setPool p { b.pool p with broken := true }
    | none => b
/-- A free list is found broken (R250): out of allocation and counted; BPM_FREELIST is raised beside it. -/
def listBroken (i : Fin 16) (ptr : Nat) (s : State) : State :=
  (s.modSlice i (fun x => { x with bpm := x.bpm.breakAt ptr })).count i Reg.BPM_COUNT1 15 0

/-- One checked free of a general cell or a whole pool buffer (R256); a quarantined cell is never pushed (R251). -/
def freePtr (i : Fin 16) (ptr owner : Nat) (s : State) : State × Bool :=
  let b := (s.slice i).bpm
  let k := b.freeCheck ptr owner
  if k ≠ 0 then (refuseFree i k ptr owner s, false)
  else
    let c := ptr / 128
    let b2 := if ptr < 0xE00000 then
        let b1 := b.setCell c (b.cell c).freed
        if (b.cell c).quarantined then b1 else b1.setList (c / bankCells) ((b1.list (c / bankCells)).push c)
      else match b.poolOf ptr with
        | some (p, n) =>
          let b1 := b.mapCells c (poolCells p) Cell.freed
          if b1.bufferBad p n then b1 else b1.setPool p ((b1.pool p).push n)
        | none => b
    (s.modSlice i (fun x => { x with bpm := b2 }), true)

/-- A chain of cells freed in order, and how many were: the walk stops at a refused cell (R257), and a chain ends at a
quarantined cell (R251), whose side-band state cannot be read (log 91). -/
def freeChain (i : Fin 16) (owner : Nat) : List Nat → State → Nat × State
  | [], s => (0, s)
  | c :: cs, s =>
    if ((s.slice i).bpm.cell c).quarantined then (0, s)
    else
      let r := freePtr i (c * 128) owner s
      if r.2 then
        let q := freeChain i owner cs r.1
        (q.1 + 1, q.2)
      else (0, r.1)
/-- The cells of a chain linked in order through their side-band state (R245, R247). -/
def Bpm.linkFrom : List Nat → Bpm → Bpm
  | c :: d :: cs, b => Bpm.linkFrom (d :: cs) (b.setCell c { b.cell c with link := some d })
  | _, b => b
/-- A further cell linked behind a chain. -/
def linkCell (i : Fin 16) (chain : List Nat) (c : Nat) (s : State) : State :=
  match chain.getLast? with
  | some l => s.modSlice i (fun x => { x with bpm := x.bpm.setCell l { x.bpm.cell l with link := some c } })
  | none => s
/-- A chain that holds a quarantined cell ends there: no copy of it can be sent whole (R251). -/
def Bpm.chainBad (b : Bpm) (cells : List Nat) : Bool := cells.any (fun c => (b.cell c).quarantined)

/-- The smallest pool that fits `n` bytes (R254). -/
def poolFor (n : Nat) : Nat := if n ≤ 512 then 0 else if n ≤ 2048 then 1 else 2
/-- A pool list's pop yields a buffer outside the pool, or one whose cell is ALLOCATED (R250). -/
def Bpm.badPoolPop (b : Bpm) (p k : Nat) : Bool :=
  decide (b.poolCount p ≤ k) || (b.cell (b.bufferPtr p k / 128)).allocated
/-- POOL_FORMAT runs: every pool request finds its pool empty (R255). -/
def Bpm.formatting (b : Bpm) : Bool := b.cmd.busy && b.waking.isNone
/-- A pool buffer for `owner` (R250, R254): its pointer, or none when that pool is empty, being formatted or broken. -/
def allocPool (i : Fin 16) (n owner : Nat) (s : State) : Option Nat × State :=
  let b := (s.slice i).bpm
  let p := poolFor n
  let empty := s.count i Reg.BPM_COUNT1 31 16
  if 9728 < n then (none, s)
  else if b.formatting || (b.pool p).broken then (none, empty)
  else match (b.pool p).pop with
    | none => (none, empty)
    | some (k, l) =>
      let ptr := b.bufferPtr p k
      if b.badPoolPop p k then (none, raiseEvent i.val 0x503 (b.poolBase p) false (listBroken i (b.poolBase p) empty))
      else (some ptr, s.modSlice i (fun x => { x with
        bpm := (b.setPool p l).mapCells (ptr / 128) (poolCells p)
          (fun c => { c with allocated := true, owner := owner, link := none }) }))

/-- Every general free list rebuilt with all general cells free, quarantined ones apart (R251, R257). -/
def Bpm.rebuildGeneral (b : Bpm) : Bpm :=
  Bpm.requarantine { b with lists := [], cells := b.cells.filterMap (fun e =>
    if generalCells ≤ e.1 then some e else if e.2.quarantined then some (e.1, e.2.freed) else none) }

/-- Free units of a broken list, in the order a rebuild threads them: the spec gives no order, so a free one (log 10). -/
def freeOrder : Nat → List Nat → State → List Nat × State
  | 0, l, s => (l, s)
  | n + 1, l, s =>
    match l with
    | [] => ([], s)
    | _ =>
      let d := s.draw
      let k := d.1 % l.length
      let r := freeOrder n (l.eraseIdx k) d.2
      ((l[k]?).getD 0 :: r.1, r.2)

/-- A broken list finishes its rebuild from the ALLOCATED bits (R250): list 0 to 13 a general bank, 14 to 16 a pool. -/
def freelistRebuild (i : Fin 16) (k : Nat) (s : State) : State :=
  let b := (s.slice i).bpm
  if k < 14 then
    if (b.list k).broken then
      let cells := ((List.range bankCells).map (· + bankCells * k)).filter
        (fun c => !(b.cell c).allocated && !(b.cell c).quarantined)
      let r := freeOrder cells.length cells s
      r.2.modSlice i (fun x => { x with bpm := x.bpm.setList k { stack := r.1, next := 0, limit := 0 } })
    else s
  else if (b.pool (k - 14)).broken then
    let p := k - 14
    let bufs := (List.range (b.poolCount p)).filter (fun n => !(b.cell (b.bufferPtr p n / 128)).allocated && !b.bufferBad p n)
    let r := freeOrder bufs.length bufs s
    r.2.modSlice i (fun x => { x with bpm := x.bpm.setPool p { stack := r.1, next := 0, limit := 0 } })
  else s

-- Commands ---------------------------------------------------------------------------------------------------------

def Slice.bpmCmd (x : Slice) : CmdReg := x.bpm.cmd
def putBpm (i : Fin 16) (c : CmdReg) (s : State) : State := s.modSlice i (fun x => { x with bpm := { x.bpm with cmd := c } })
def refuseBpm (i : Fin 16) (s : State) : State := s.count i Reg.BPM_COUNT0 15 0
def setResult (i : Fin 16) (w : Word) (s : State) : State := s.modSlice i (fun x => { x with bpm := { x.bpm with result := w } })

/-- ALLOC (R254, R264): NOT_FOUND on an empty pool (Table 09.8). -/
def bpmAlloc (i : Fin 16) (s : State) : CmdStatus × State :=
  let a := s.reg i Reg.BPM_ARG
  let n := fld a 61 48
  judge [(decide (n = 0) || decide (9728 < n) || !legalOwner (fld a 41 32), .badArg)] s (fun s =>
    match allocPool i n (fld a 41 32) s with
    | (some p, s1) =>
      (.ok, setResult i (pack [(57, 56, poolFor n + 1), (41, 32, fld a 41 32), (23, 0, p)]) s1)
    | (none, s1) => (.notFound, s1))

/-- FREE (R256, R264): a general-region pointer returns BAD_ARG.  A free that a check refuses leaves its result in BPM_FAULT
and BPM_COUNT0, and the command completes with OK: R7 lets no other code make those changes (log 11). -/
def bpmFree (i : Fin 16) (s : State) : CmdStatus × State :=
  let a := s.reg i Reg.BPM_ARG
  judge [(decide (fld a 23 0 < 0xE00000) || !legalOwner (fld a 41 32), .badArg)] s
    (fun s => (.ok, (freePtr i (fld a 23 0) (fld a 41 32) s).1))

/-- QUERY (Table 09.8): a pointer that R244 calls out of range returns BAD_ARG. -/
def bpmQuery (i : Fin 16) (s : State) : CmdStatus × State :=
  let p := fld (s.reg i Reg.BPM_ARG) 23 0
  let b := (s.slice i).bpm
  judge [(!b.validPtr p, .badArg)] s (fun s =>
    let c := b.cell (p / 128)
    let region := if p < 0xE00000 then 0 else ((b.poolOf p).map (·.1 + 1)).getD 0
    let link := match c.link with
      | some n => n * 128
      | none => 0xFFFFFF
    (.ok, setResult i (pack [(63, 63, b2n c.allocated), (62, 62, b2n c.quarantined), (57, 56, region),
                             (41, 32, c.owner), (23, 0, link)]) s))

/-- POOL_FORMAT (R255): BUSY until the three lists are rebuilt. -/
def bpmFormat (i : Fin 16) (s : State) : CmdStatus × State :=
  let w := s.reg i Reg.BPM_POOL_CFG
  let n0 := fld w 47 32
  let n1 := fld w 31 16
  let n2 := fld w 15 0
  judge [(decide (4096 < n0) || decide (1024 < n1) || decide (215 < n2) || decide (16384 < 4 * n0 + 16 * n1 + 76 * n2), .badArg),
         ((s.slice i).bpm.cells.any (fun e => decide (generalCells ≤ e.1) && e.2.allocated), .stateRefused)] s
    (fun s => (.busy, s.modSlice i (fun x =>
      { x with bpm := Bpm.requarantine { x.bpm with n0 := n0, n1 := n1, n2 := n2, pools := [] } })))

/-- POOL_FORMAT completes with OK (R255). -/
def formatDone (i : Fin 16) (s : State) : State :=
  if (s.slice i).bpm.formatting then putBpm i (CmdReg.take .ok) s else s

/-- The ACTIVE general banks. -/
def Bpm.activeBanks (b : Bpm) : Nat := ((List.range 14).filter (fun k => decide (b.bank k = .active))).length

/-- A DRAINING bank enters RETENTION once it holds no allocated or quarantined cell (R262). -/
def bankDrained (i : Fin 16) (k : Nat) (s : State) : State :=
  let b := (s.slice i).bpm
  if b.bank k = .draining ∧ b.bankEmpty k then s.modSlice i (fun x => { x with bpm := x.bpm.setBank k .retention }) else s

/-- BANK_RETAIN (R262): the bank drains, and is in RETENTION at once when it holds nothing. -/
def bankRetain (i : Fin 16) (k : Nat) (s : State) : CmdStatus × State :=
  let b := (s.slice i).bpm
  judge [(decide (14 ≤ k), .badArg), (decide (b.bank k ≠ .active) || decide (b.activeBanks ≤ 1), .stateRefused)] s
    (fun s => (.ok, s.modSlice i (fun x => { x with bpm := x.bpm.setBank k .draining })))

/-- BANK_WAKE (R262). -/
def bankWake (i : Fin 16) (k : Nat) (s : State) : CmdStatus × State :=
  let b := (s.slice i).bpm
  judge [(decide (b.bank k ≠ .draining) && decide (b.bank k ≠ .retention), .stateRefused)] s (fun s =>
    if b.bank k = .draining then (.ok, s.modSlice i (fun x => { x with bpm := x.bpm.setBank k .active }))
    else (.busy, s.modSlice i (fun x => { x with bpm := { x.bpm.setBank k .waking with waking := some k } })))

/-- A waking bank becomes ACTIVE with a rebuilt list (R262). -/
def bankWakeDone (i : Fin 16) (s : State) : State :=
  match (s.slice i).bpm.waking with
  | none => s
  | some k =>
    putBpm i (CmdReg.take .ok) (s.modSlice i (fun x =>
      { x with bpm := Bpm.requarantine { (x.bpm.setBank k .active).setList k (bankListFull k) with waking := none } }))

/-- BPM_CMD written by a requester (R264). -/
def bpmCommand (i : Fin 16) (r : Requester) (w : Word) : State → State := fun s =>
  runCommand (s.sliceWriter i r) (fun s => (s.slice i).bpm.cmd) (putBpm i) (refuseBpm i) (fun s =>
    match fld w 3 0 with
    | 1 => bpmAlloc i s
    | 2 => bpmFree i s
    | 3 => bpmQuery i s
    | 4 => bpmFormat i s
    | 5 => bankRetain i (fld w 19 16) s
    | 6 => bankWake i (fld w 19 16) s
    | _ => (.badArg, s)) s

/-- BPM_BANK_STATE and BPM_FREE as they read (Table 09.8). -/
def BankState.code : BankState → Nat
  | .active => 0 | .draining => 1 | .retention => 2 | .waking => 3
def Bpm.bankWord (b : Bpm) : Word := pack ((List.range 16).map (fun k => (2 * k + 1, 2 * k, (b.bank k).code)))
def Bpm.freeWord (b : Bpm) : Word :=
  pack [(63, 51, (b.pool 0).size), (50, 40, (b.pool 1).size), (39, 32, (b.pool 2).size), (16, 0, b.generalFree)]

end Sys2Proof.Machine
end

