-- ==== Sys2Proof/Machine/HostRing.lean ====
section
/-!
DEFINITION. Host rings and read tags ("Host Port": DMA rings): descriptors fetched, RX items queued and delivered,
completions signalled, rings stopped, in error or frozen.  Host memory lies outside the model: a descriptor or a frame read
from it comes with the completion that carries it.
-/
namespace Sys2Proof.Machine
open Sys2Proof

def Slice.ring (x : Slice) (r : Nat) : Ring := NMap.get {} x.rings r
def Slice.modRing (x : Slice) (r : Nat) (f : Ring → Ring) : Slice := { x with rings := NMap.set {} x.rings r (f (x.ring r)) }
def State.ring (s : State) (i : Fin 16) (r : Nat) : Ring := (s.slice i).ring r
def State.modRing (s : State) (i : Fin 16) (r : Nat) (f : Ring → Ring) : State := s.modSlice i (fun x => x.modRing r f)
/-- Register `o` (as of ring 0) of ring `r`. -/
def rng (o r : Nat) : Nat := o + 0x40 * r
def State.ringCfg (s : State) (i : Fin 16) (r : Nat) : Word := s.reg i (rng Reg.RNG_CFG r)
/-- Descriptors of a ring: 2^LOG2_SIZE, 6 to 16 (log 16 outside). -/
def State.ringSize (s : State) (i : Fin 16) (r : Nat) : Nat :=
  let n := fld (s.ringCfg i r) 60 56
  2 ^ (if 6 ≤ n ∧ n ≤ 16 then n else Config.ringLog2 n)
def State.ringTail (s : State) (i : Fin 16) (r : Nat) : Nat := fld (s.reg i (rng Reg.RNG_TAIL r)) 15 0
/-- Descriptors posted and not completed (R390). -/
def State.posted (s : State) (i : Fin 16) (r : Nat) : Nat :=
  (s.ringTail i r + s.ringSize i r - (s.ring i r).head % s.ringSize i r) % s.ringSize i r
def State.ringIsTx (s : State) (i : Fin 16) (r : Nat) : Bool := bitAt (s.ringCfg i r) 62
/-- The PF whose requester ID the ring's DMA uses; 16 is Scribe memory, which ring 255 reaches with its SCB_RING_MAP bit set
(R431). -/
def State.ringPf (s : State) (i : Fin 16) (r : Nat) : Nat :=
  if r = 255 ∧ bitAt (s.greg Reg.SCB_RING_MAP) i.val then 16 else (s.slice i).owner.val
/-- Host address of the descriptor at HEAD. -/
def State.descAddr (s : State) (i : Fin 16) (r : Nat) : Nat :=
  ((s.reg i (rng Reg.RNG_BASE r)).toNat / 64 * 64 + 32 * (s.ring i r).head) % 2 ^ 64
def RingState.code : RingState → Nat
  | .stopped => 0 | .running => 1 | .error => 2 | .frozen => 3

-- Read tags (R397) -------------------------------------------------------------------------------------------------

def State.tag (s : State) (t : Nat) : Option ReadTag := NMap.get none s.host.tags t
def State.setTag (s : State) (t : Nat) (x : Option ReadTag) : State :=
  { s with host := { s.host with tags := NMap.set none s.host.tags t x } }
def State.tagsHeld (s : State) (p : ReadTag → Bool) : Nat :=
  NMap.countIf (fun _ x => match x with | some y => p y | none => false) s.host.tags
/-- HST_LINK_CFG of a link. -/
def State.linkCfg (s : State) (l : Nat) : Word := s.greg (Reg.HST_LINK_CFG + 8 * l)
/-- CTO_US in CCLK cycles; values outside 50 to 64,000 act as the nearer limit (Table 15.12). -/
def State.cto (s : State) (l : Nat) : Nat := max 50 (min 64000 (fld (s.linkCfg l) 19 0)) * cyclesUs
def State.tagLimit (s : State) (l : Nat) : Nat := max 1 (min 16384 (fld (s.linkCfg l) 46 32))
/-- A free tag for a read of ring `r`: none while the device, the link or, without FLIT mode, the PF holds its limit. -/
def takeTag (i : Fin 16) (r : Nat) (frame : Bool) (s : State) : Option (Nat × State) :=
  let pf := s.ringPf i r
  match if pf = 16 then some 4 else (s.pfn pf).link with
  | none => none
  | some l =>
    if s.host.tags.length < 16384 ∧ (pf = 16 ∨ (s.tagsHeld (fun y => decide (y.link = l)) < s.tagLimit l ∧
       ((s.link l).flit ∨ s.tagsHeld (fun y => decide (y.pf = pf)) < 768))) then
      let t := (List.range (s.host.tags.length + 1)).find? (fun k => (s.tag k).isNone)
      t.map (fun t => (t, s.setTag t (some { link := l, pf := pf, slice := i.val, ring := r, frame := frame, issued := s.uptime })))
    else none

/-- A read of `n` bytes at `addr` issued for the ring, or the start of its wait for a tag (R397). -/
def issueRead (i : Fin 16) (r : Nat) (frame : Bool) (addr n : Nat) (s : State) : State :=
  if s.pfUsable (s.ringPf i r) then
    match takeTag i r frame s with
    | some (t, s1) =>
      (s1.modRing i r (fun x => { x with read := some t, want := n, wantsFrom := none })).emit (.dmaRead (s.ringPf i r) addr n t)
    | none => s.modRing i r (fun x => { x with wantsFrom := some (x.wantsFrom.getD s.uptime) })
  else s
/-- Max Read Request Size of a PF, 128 to 4,096 bytes (R379); Scribe memory is read at once (R431). -/
def State.maxRead (s : State) (pf : Nat) : Nat :=
  if pf = 16 then 65536 else min 4096 (128 * 2 ^ (NMap.get 0x2810 (s.pfn pf).cfg 0x78 / 4096 % 8))
/-- The next read of a frame of `n` bytes at `addr`: up to the next multiple of Max Read Request Size (R379), so that no request
crosses a 4 KiB boundary. -/
def fetchFrame (i : Fin 16) (r addr n : Nat) (s : State) : State :=
  let have_ := (s.ring i r).part.length
  let m := s.maxRead (s.ringPf i r)
  issueRead i r true (addr + have_) (min (n - have_) (m - (addr + have_) % m)) s
/-- The ring fetches the descriptor at HEAD when it is posted and not yet held. -/
def kickRing (i : Fin 16) (r : Nat) (s : State) : State :=
  let x := s.ring i r
  if decide (x.state = .running) && decide (0 < s.posted i r) && x.desc.isNone && x.read.isNone then
    issueRead i r false (s.descAddr i r) 32 s
  else s

-- Items (R391, R392) -----------------------------------------------------------------------------------------------

/-- The pool buffer of a staged frame freed by its ring. -/
def freeStaging (i : Fin 16) (r : Nat) (buf : Option Nat) (s : State) : State :=
  match buf with
  | some p => (freePtr i p (0x100 + r) s).1
  | none => s
/-- An item that its ring cannot take: DROPPED, and the counter or drop reason of its kind (R392, R193). -/
def dropItem (i : Fin 16) (r : Nat) (it : RxItem) (s : State) : State :=
  let s1 := s.count i (rng Reg.RNG_COUNT r) 31 0
  match it with
  | .punt _ _ _ _ _ _ _ buf => freeStaging i r (some buf) (s1.countDrop i 0x8B)
  | .learn _ => s1.count i Reg.TBL_COUNT1 31 16
  | .seal _ _ => s1.gcount Reg.CPB_SEAL_COUNT 15 0
/-- An item posted to a ring: it waits for its descriptor, or is dropped when none is left or the ring does not run. -/
def postItem (i : Fin 16) (r : Nat) (it : RxItem) (s : State) : State :=
  let x := s.ring i r
  if decide (x.state = .running) && !s.ringIsTx i r && decide (x.items.length < s.posted i r) then
    kickRing i r (s.modRing i r (fun x => { x with items := x.items ++ [it] }))
  else dropItem i r it s
/-- Whether an item posted now would find a descriptor. -/
def State.ringTakes (s : State) (i : Fin 16) (r : Nat) : Bool :=
  decide ((s.ring i r).state = .running) && !s.ringIsTx i r && decide ((s.ring i r).items.length < s.posted i r)

/-- Every waiting item of a ring that no longer runs is dropped, and its TX frame's buffer freed. -/
def clearRing (i : Fin 16) (r : Nat) (s : State) : State :=
  let x := s.ring i r
  let s1 := s.modRing i r (fun x => { x with items := [], desc := none, frame := none, part := [], buf := none, read := none, wantsFrom := none })
  freeStaging i r x.buf (x.items.foldl (fun a it => dropItem i r it a) s1)
/-- The ring stops in a state other than RUNNING. -/
def haltRing (i : Fin 16) (r : Nat) (st : RingState) (s : State) : State :=
  clearRing i r (s.modRing i r (fun x => { x with state := st }))
/-- A ring goes to ERROR with a cause, and HST_RING_ERROR is raised (R396). -/
def ringFail (i : Fin 16) (r cause : Nat) (s : State) : State :=
  raiseEvent i.val 0x900 (16 * r + cause) false (haltRing i r .error (s.modRing i r (fun x => { x with cause := cause })))
/-- RING_ERROR (R396): the first cause of a ring that runs stands. -/
def ringError (i : Fin 16) (r cause : Nat) (s : State) : State := if (s.ring i r).state = .running then ringFail i r cause s else s

-- Completions (R393) -----------------------------------------------------------------------------------------------

/-- A completion counted toward the ring's interrupt (R393). -/
def signalRing (i : Fin 16) (r : Nat) (s : State) : State :=
  let c := s.ringCfg i r
  if bitAt c 0 then
    let n := (s.ring i r).unsig + 1
    if fld c 31 16 = 0 ∨ (fld c 15 8 ≠ 0 ∧ fld c 15 8 ≤ n) then
      (s.modRing i r (fun x => { x with unsig := 0 })).msi (s.ringPf i r) (fld c 42 32)
    else s.modRing i r (fun x => { x with unsig := n, unsigAt := if x.unsig = 0 then s.uptime else x.unsigAt })
  else s
/-- HEAD advances past a completed descriptor; PHASE inverts when it wraps (R390). -/
def advanceHead (i : Fin 16) (r : Nat) (s : State) : State :=
  let n := s.ringSize i r
  let h := ((s.ring i r).head + 1) % n
  let s1 := s.count i (rng Reg.RNG_COUNT r) 63 32
  let s2 := s1.modRing i r (fun x =>
    { x with head := h, phase := if h = 0 then !x.phase else x.phase, desc := none, frame := none, part := [], buf := none, read := none })
  kickRing i r (signalRing i r s2)
/-- The 32 bytes written back over an RX descriptor (Table 15.6). -/
def rxCompletion (kind b1 w2 seqnum : Nat) (info : Word) (capture : Stamp) (len : Nat) (phase err : Bool) : List Byte :=
  [byte kind, byte b1] ++ bytesLE 2 w2 ++ bytesLE 4 seqnum ++ bytesLE 8 info.toNat ++ bytesLE 12 capture.toNat ++
  bytesLE 3 len ++ [byte (128 * b2n phase + 64 * b2n err)]
/-- `n` payload bytes of a ring's DMA, read or written (HOST_DMA_BYTES of Table 18.1). -/
def dmaBytes (i : Fin 16) (r n : Nat) (s : State) : State := pmcEvent i 0x61 n { range := r } s
/-- One RX descriptor completed: the buffer's data, then the completion, then HEAD (R393). -/
def completeRx (i : Fin 16) (r addr : Nat) (bytes comp : List Byte) (s : State) : State :=
  let pf := s.ringPf i r
  let s1 := if bytes.isEmpty then s else s.emit (.dma pf addr bytes)
  advanceHead i r (dmaBytes i r (bytes.length + comp.length) (s1.emit (.dma pf (s.descAddr i r) comp)))

/-- ADDR and LEN of an RX descriptor (Table 15.6). -/
def descAddrOf (d : List Byte) : Nat := ofBytesLE (slice d 0 8)
def descLen (d : List Byte) : Nat := ofBytesLE (slice d 8 4)

/-- RX_ITEM_DELIVER (R391, R392): the oldest item into the buffer of the descriptor at HEAD. -/
def rxDeliver (i : Fin 16) (r : Nat) (s : State) : State :=
  let x := s.ring i r
  match x.items, x.desc with
  | it :: rest, some d =>
    if decide (x.state = .running) && s.pfUsable (s.ringPf i r) then
      let s1 := s.modRing i r (fun x => { x with items := rest })
      let n := descLen d
      match it with
      | .punt code port seqnum edited info capture bytes buf =>
        let comp := rxCompletion 1 code (port + 2 ^ 14 * b2n (decide (n < bytes.length)) + 2 ^ 15 * b2n edited) seqnum info
          capture (min n bytes.length) x.phase false
        completeRx i r (descAddrOf d) (bytes.take n) comp (freeStaging i r (some buf) s1)
      | .learn ev =>
        if n < ev.length then dropItem i r it (completeRx i r 0 [] (rxCompletion 2 0 0 0 0 0 0 x.phase true) s1)
        else completeRx i r (descAddrOf d) ev (rxCompletion 2 0 0 0 0 0 ev.length x.phase false) s1
      | .seal num bytes =>
        if n < bytes.length then
          dropItem i r it (completeRx i r 0 [] (rxCompletion 4 0 0 0 (word num) 0 0 x.phase true) s1)
        else completeRx i r (descAddrOf d) bytes (rxCompletion 4 0 0 0 (word num) 0 bytes.length x.phase false) s1
    else s
  | _, _ => s

/-- RING_COALESCE_TIMEOUT (R393). -/
def coalesceTimeout (i : Fin 16) (r : Nat) (s : State) : State :=
  let c := s.ringCfg i r
  let x := s.ring i r
  if decide (0 < x.unsig) && bitAt c 0 && decide (x.unsigAt + fld c 31 16 * cyclesUs ≤ s.uptime) then
    (s.modRing i r (fun x => { x with unsig := 0 })).msi (s.ringPf i r) (fld c 42 32)
  else s

-- Register writes --------------------------------------------------------------------------------------------------

/-- The link of the ring's PF is frozen (R401). -/
def State.ringFrozen (s : State) (i : Fin 16) (r : Nat) : Bool :=
  decide (s.ringPf i r ≠ 16) && (match (s.pfn (s.ringPf i r)).link with
    | some l => (s.link l).frozen
    | none => false)
/-- A write of RNG_CFG (R389, R390): a write of the low half neither sets nor clears EN.  A ring enabled on a frozen link is FROZEN
(R401). -/
def rngCfgWrite (i : Fin 16) (q : Requester) (r : Nat) (h : Half) (w : Word) (s : State) : State :=
  let new := mergeWrite (s.ringCfg i r) w h 0xDF0007FFFFFFFF01
  if s.sliceWriter i q then
    match (s.ring i r).state with
    | .running => if bitAt new 63 then s else haltRing i r .stopped (s.setReg i (rng Reg.RNG_CFG r) new)
    | .stopped =>
      let s1 := s.setReg i (rng Reg.RNG_CFG r) new
      if bitAt new 63 then
        kickRing i r (s1.modRing i r (fun x =>
          { x with state := if s.ringFrozen i r then .frozen else .running, cause := 0, head := 0, phase := true, unsig := 0 }))
      else s1
    | _ =>
      if h = .low then s.setReg i (rng Reg.RNG_CFG r) new
      else if bitAt new 63 then s
      else (s.setReg i (rng Reg.RNG_CFG r) new).modRing i r (fun x => { x with state := .stopped })
  else s
/-- A write of RNG_BASE: discarded while the ring runs (R389). -/
def rngBaseWrite (i : Fin 16) (q : Requester) (r : Nat) (h : Half) (w : Word) (s : State) : State :=
  if s.sliceWriter i q ∧ (s.ring i r).state ≠ .running then
    s.setReg i (rng Reg.RNG_BASE r) (mergeWrite (s.reg i (rng Reg.RNG_BASE r)) w h 0xFFFFFFFFFFFFFFC0)
  else s
/-- A write of RNG_TAIL: descriptors are posted, or the ring goes to ERROR with cause 5 (R390). -/
def rngTailWrite (i : Fin 16) (q : Requester) (r : Nat) (h : Half) (w : Word) (s : State) : State :=
  if s.sliceWriter i q then
    let s1 := s.setReg i (rng Reg.RNG_TAIL r) (mergeWrite (s.reg i (rng Reg.RNG_TAIL r)) w h 0xFFFF)
    if decide (0 < s1.ringTail i r) && decide ((s.ring i r).state = .running ∨ (s.ring i r).state = .stopped) &&
        decide (s.ringSize i r ≤ s1.ringTail i r) then ringFail i r 5 s1
    else if (s.ring i r).state = .running then kickRing i r s1
    else s1
  else s
/-- RNG_HEAD and RNG_STATUS as they read. -/
def Ring.headWord (x : Ring) : Word := pack [(16, 16, b2n x.phase), (15, 0, x.head)]
def Ring.statusWord (x : Ring) : Word := pack [(9, 8, x.state.code), (3, 0, x.cause)]

end Sys2Proof.Machine
end

