-- ==== Sys2Proof/Machine/Servo.lean ====
section
/-!
DEFINITION. The time reference's servo, commands and registers ("Device Time and the Bounded Timestamp").
Offsets are in 1/256 ns, intervals in CCLK cycles of 1.5 GHz.
-/
namespace Sys2Proof.Machine
open Sys2Proof

/-- The nominal addend: 2/3 ns in 2⁻⁴⁸ ns. -/
def nominalAddend : Nat := 0xAAAAAAAAAAAA
/-- CCLK cycles of one second. -/
def cclkHz : Nat := 1500000000

/-- Fields of TRF_SERVO_CFG (Table 02.15), thresholds in 1/256 ns; LOCK_COUNT 0 is used as 1. -/
def State.servoKp (s : State) : Nat := fld (s.greg Reg.TRF_SERVO_CFG) 63 48
def State.servoKi (s : State) : Nat := fld (s.greg Reg.TRF_SERVO_CFG) 47 32
def State.lockCount (s : State) : Nat := floor1 (fld (s.greg Reg.TRF_SERVO_CFG) 31 24)
def State.lockThresh (s : State) : Nat := fld (s.greg Reg.TRF_SERVO_CFG) 23 16 * 256
def State.unlockThresh (s : State) : Nat := fld (s.greg Reg.TRF_SERVO_CFG) 15 8 * 256
def State.stepThresh (s : State) : Nat := fld (s.greg Reg.TRF_SERVO_CFG) 7 0 * 16 * 256
def State.stepEn (s : State) : Bool := bitAt (s.greg Reg.TRF_CTRL) 9

/-- The numerator of corr over the denominator `corrDen`, in parts per 10⁹: the proportional part and the integral part,
or f_src in the integral part's place while a frequency source is selected (R53, R54). -/
def corrDen (tau : Nat) : Int := ((2 ^ 32 * floor1 tau * cclkHz : Nat) : Int)
def propNum (kp : Nat) (e : Int) : Int := (kp : Int) * e * ((2 ^ 8 * cclkHz * cclkHz : Nat) : Int)
def integNum (ki : Nat) (integ : Int) (tau : Nat) : Int := (ki : Int) * integ * (floor1 tau : Int)

/-- The least and the greatest addend within ±200 ppm of nominal (R46). -/
def addendMin : Nat := ceilDiv (nominalAddend * 999800) 1000000
def addendMax : Nat := nominalAddend * 1000200 / 1000000
/-- nominal · (1 − num/den · 10⁻⁹) held within ±200 ppm (R46).  A result that falls between two addends takes a free one of
the two that lies within the limits: the spec gives no rounding (log 8). -/
def addendOf (num den : Int) (s : State) : Nat × Bool × State :=
  let scale : Int := den * 1000000000
  let raw : Int := (nominalAddend : Int) * (scale - num)
  if raw < (nominalAddend : Int) * (scale - 200000 * den) then (addendMin, true, s)
  else if raw > (nominalAddend : Int) * (scale + 200000 * den) then (addendMax, true, s)
  else
    let q := (raw / scale).toNat
    if raw % scale = 0 then (q, false, s)
    else (max addendMin (min addendMax (q + s.draw.1 % 2)), false, s.draw.2)

/-- The addend recomputed from corr (R53, R54). -/
def applyCorr (num den : Int) (s : State) : State :=
  let r := addendOf num den s
  { r.2.2 with trf := { r.2.2.trf with addend := r.1, clamped := r.2.1 } }

/-- The addend set to the R46 limit against the sign of `e` (a slew, R54). -/
def slewAddend (e : Int) (s : State) : State :=
  applyCorr (if e > 0 then 200000 else -200000) 1 s

/-- The servo enters HOLDOVER: the residual freezes, a waiting step is given up (Table 02.5). -/
def toHoldover (s : State) : State :=
  { s with trf := { s.trf with servo := .holdover, residual := s.residual, goodRun := 0, stepPending := none } }

/-- |e| pushed into the history of 16. -/
def pushHistory (e : Int) (t : TimeRef) : TimeRef := { t with history := (e.natAbs :: t.history).take 16 }

/-- What a run keeps: the integral, the sample, its interval, the history.  A sample that steps, slews or starts an acquisition
does not run the loop and leaves the *e* and tau of R53 as they are: the model's reading of 'updated the servo' (log 103). -/
def noteRun (e integ : Int) (tau : Nat) (s : State) : State :=
  { s with trf := pushHistory e { s.trf with integ := integ, lastE := e, lastTau := tau } }
/-- One run of the pseudo-code, or its form under a frequency source (R53, R54). -/
def runLoop (e : Int) (tau : Nat) (s : State) : State :=
  let t := s.trf
  let fs := s.freqSrc ≠ 0
  let integ := if fs then t.integ else t.integ + e * (tau : Int)
  let num := propNum s.servoKp e +
    (if fs then t.fSrc * corrDen tau else integNum s.servoKi integ tau)
  noteRun e integ tau (applyCorr num (corrDen tau) s)

/-- The servo's lock count after a sample judged in ACQUIRING; the clamp keeps the servo in ACQUIRING (R46, Table 02.5). -/
def judgeLock (e : Int) (s : State) : State :=
  let run := if e.natAbs ≤ s.lockThresh then s.trf.goodRun + 1 else 0
  let locks := decide (s.lockCount ≤ run) && !s.trf.clamped
  { s with trf := { s.trf with goodRun := run, servo := if locks then .locked else .acquiring } }

/-- What an accepted sample makes current: the reference term, presence, loss timer, wander and tau points (R54, R496, R497). -/
def noteSample (ref : RefTerm) (s : State) : State :=
  setCond 16 0xA00 false 0
    { s with trf := { s.trf with lastSample := some s.uptime, wanderFrom := s.uptime, refTerm := ref, refPresent := true,
                                 refLost := false, lossFrom := some s.uptime } }

/-- An accepted sample `e` in 1/256 ns updates the servo (R54, Table 02.5). -/
def acceptSample (ref : RefTerm) (e : Int) (s : State) : State :=
  let was := s.trf.servo
  let starts := decide (was = .freerun) || decide (was = .holdover)
  let tau := match s.trf.lastSample with
    | some t => s.uptime - t
    | none => 0
  let lost := decide (was = .locked) && decide (s.unlockThresh < e.natAbs)
  let s1 := if starts then
      { s with trf := { s.trf with servo := .acquiring, history := [], goodRun := 0, freerunPending := false } }
    else if lost then
      raiseEvent 16 0xA01 1 false
        { s with trf := { s.trf with servo := .acquiring, goodRun := 0, lockLosses := satN 16 (s.trf.lockLosses + 1) } }
    else s
  let s2 :=
    if s1.trf.servo = .acquiring then
      if s1.stepThresh < e.natAbs then
        if s1.stepEn then { s1 with trf := { s1.trf with history := [], goodRun := 0, stepPending := some (-e) } }
        else judgeLock e { (slewAddend e s1) with trf := pushHistory e (slewAddend e s1).trf }
      else if starts then judgeLock e { s1 with trf := pushHistory e s1.trf }
      else judgeLock e (runLoop e tau s1)
    else runLoop e tau s1
  noteSample ref s2

/-- A sample in FREERUN is accepted only after a TOD_LOAD since core reset (R50, R51). -/
def State.sampleAllowed (s : State) : Bool := decide (s.trf.servo ≠ .freerun) || s.trf.todLoaded

/-- TRF_OFFSET written (R51): accepted, or discarded and counted in SAMPLE_DISCARD.  A 32-bit write of either half is a whole
sample whose other half is 0: the spec does not say what it is, this is the model's choice (log 104). -/
def offsetWrite (r : Requester) (h : Half) (w : Word) (s : State) : State :=
  let engine := if bitAt (s.greg Reg.TRF_CTRL) 8 then decide (r = .scribe)
    else match r with
      | .scribe => false
      | .pf n => decide (n.val = s.deviceOwner)
  let early := match s.trf.lastSample with
    | some t => decide (s.uptime < t + 500 * cyclesUs)
    | none => false
  if engine && decide (s.refSel = 2) && !early && s.sampleAllowed then
    acceptSample .ptp (sxNat 40 (w &&& halfMask h).toNat) s
  else { s with trf := { s.trf with discards := satN 16 (s.trf.discards + 1) } }

/-- A PPS edge `interp`/16 ns into the cycle (R50): its offset from the nearest whole second, in [−0.5 s, 0.5 s). An edge
whose sample is not accepted still restarts the loss timer, which counts edges; it does not end TIME_REF_LOST, which the model
ends at an accepted sample or a change of REF_SEL only: its choice, the spec names no end (R64, log 105). -/
def ppsEdge (interp : Nat) (s : State) : State :=
  let t := s.trf.acc / 2 ^ 40 + interp * 16
  let sec : Nat := 256000000000
  let m := t % sec
  let e : Int := if 2 * m < sec then (m : Int) else (m : Int) - (sec : Int)
  if s.refSel ≠ 1 then s
  else if s.sampleAllowed then acceptSample .pps e s
  else { s with trf := { s.trf with lossFrom := some s.uptime } }

/-- The loss time of the selected reference in cycles (R497), `none` where the reference has none. -/
def State.lossTime (s : State) : Option Nat :=
  if s.refSel = 1 then some (1100 * cyclesMs)
  else if s.refSel = 2 then some (floor1 (fld s.trf.boundCfg 63 56) * 125 * cyclesMs)
  else none

/-- The cycle in which the loss timer expires is over and the reference is not yet lost: a sample may still come in that cycle
(R56). -/
def State.lossDue (s : State) : Bool :=
  match s.lossTime, s.trf.lossFrom with
  | some d, some t => decide (t + d < s.uptime) && !s.trf.refLost
  | _, _ => false

/-- The selected reference is lost (R497, Table 02.5). -/
def refLoss (s : State) : State :=
  if s.lossDue then
    let s1 := if s.trf.servo = .acquiring ∨ s.trf.servo = .locked then toHoldover s else s
    setCond 16 0xA00 true (match s1.trf.servo with | .freerun => 0 | .acquiring => 1 | .locked => 2 | .holdover => 3)
      { s1 with trf := { s1.trf with refLost := true, refPresent := false } }
  else s

/-- SERVO_STATE as registers code it (Table 02.13). -/
def ServoState.code : ServoState → Nat
  | .freerun => 0 | .acquiring => 1 | .locked => 2 | .holdover => 3

/-- f_src measured over 1 ms, in parts per 10⁹ (R53): the addend follows it, with the proportional part of the last sample.  The
measurement gives a whole number of parts (the model's choice, log 122). -/
def freqMeasure (f : Int) (s : State) : State :=
  if s.up ∧ s.freqSrc ≠ 0 ∧ ¬ s.trf.freqLost then
    let s1 := { s with trf := { s.trf with fSrc := f } }
    applyCorr (propNum s1.servoKp s1.trf.lastE + f * corrDen s1.trf.lastTau) (corrDen s1.trf.lastTau) s1
  else s

/-- The selected frequency source is lost, or returns (R53). -/
def freqLoss (lost : Bool) (s : State) : State :=
  if s.freqSrc ≠ 0 ∧ s.trf.freqLost ≠ lost then
    setCond 16 0xA03 lost s.trf.servo.code { s with trf := { s.trf with freqLost := lost } }
  else s

/-- integ loaded with f_src · 16,777,216 / KI when the frequency source is deselected (R53), the quotient rounded down (the model's
choice, log 122). -/
def loadInteg (s : State) : State :=
  if s.servoKi = 0 then s
  else { s with trf := { s.trf with integ := s.trf.fSrc * ((2 ^ 32 * cclkHz : Nat) : Int) / (s.servoKi : Int) } }

/-- TRF_CTRL written (R497, R53, R65).  A write that goes from one frequency source straight to the other, or selects one before its
first 1 ms, keeps f_src and the loss mark: the spec does not say what they become, this is the model's choice (log 106). -/
def trfCtrlWrite (r : Requester) (h : Half) (w : Word) (s : State) : State :=
  if s.globalWriter r then
    let s1 := s.setGreg Reg.TRF_CTRL (mergeWrite (s.greg Reg.TRF_CTRL) w h 0x3FF0303FF0303)
    let s2 := if s1.refSel = s.refSel then s1
      else
        let s' := if s.trf.servo = .acquiring ∨ s.trf.servo = .locked
          then { s1 with trf := { s1.trf with servo := .holdover, residual := s.residual, goodRun := 0, stepPending := none } }
          else s1
        setCond 16 0xA00 false 0
          { s' with trf := { s'.trf with refPresent := false, refLost := false, lossFrom := some s.uptime,
                                         residual := if s1.refSel = 3 then s.residual else s'.trf.residual, resHeld := decide (s1.refSel = 3) } }
    if s.freqSrc ≠ 0 ∧ s2.freqSrc = 0 then
      setCond 16 0xA03 false 0 { (loadInteg s2) with trf := { (loadInteg s2).trf with freqLost := false } }
    else s2
  else s

/-- TRF_BOUND_CFG written (R58): a raised term applies at once, a lowered one waits for the next marker. -/
def boundCfgWrite (r : Requester) (h : Half) (w : Word) (s : State) : State :=
  if s.globalWriter r then
    let new := mergeWrite (s.greg Reg.TRF_BOUND_CFG) w h 0xFFFFFFFF3FFF3FFF
    let old := s.trf.boundCfg
    let up := fun hi lo => max (fld new hi lo) (fld old hi lo)
    let now := pack [(63, 56, fld new 63 56), (55, 48, fld new 55 48), (47, 32, up 47 32), (29, 16, up 29 16), (13, 0, up 13 0)]
    { s.setGreg Reg.TRF_BOUND_CFG new with trf := { s.trf with boundCfg := now } }
  else s

/-- Lowered terms take effect at a marker (R58). -/
def boundLower (s : State) : State :=
  if s.atMarker then { s with trf := { s.trf with boundCfg := s.greg Reg.TRF_BOUND_CFG, resHeld := false } } else s

/-- The refusal counter of TRF_CMD (R4). -/
def refuseTrf (s : State) : State := s.gcount Reg.GLB_REFUSED 63 48

/-- The operand of TOD_LOAD (Table 02.10). -/
def State.todOperand (s : State) : Stamp := stampOfPair (s.greg Reg.TRF_OPERAND0) (s.greg Reg.TRF_OPERAND1)

/-- TRF_CMD written (R67, R68). -/
def trfCommand (w : Word) : State → State :=
  runCommand true (fun s => s.trf.cmd) (fun c s => { s with trf := { s.trf with cmd := c } }) refuseTrf (fun s =>
    match fld w 3 0 with
    | 1 => judge [(s.todOperand.malformed, .badArg),
                  (decide (s.trf.servo ≠ .freerun) && decide (s.refSel ≠ 3), .stateRefused)] s
             (fun s => (.busy, { s with trf := { s.trf with todPending := some (s.uptime, s.trf.acc, s.todOperand.toNat) } }))
    | 2 => judge [(decide (s.trf.servo = .freerun) || decide (s.trf.servo = .holdover), .stateRefused)] s
             (fun s => (.ok, toHoldover s))
    | 3 => (.ok, { s with trf := { s.trf with servo := .freerun, residual := s.residual, history := [], goodRun := 0,
                                               stepPending := none, freerunPending := decide (s.trf.servo ≠ .freerun) || s.trf.freerunPending } })
    | _ => (.badArg, s))

/-- TRF_CMD from a requester: PERMISSION is judged before BUSY (R4, R65). -/
def trfCmd (r : Requester) (w : Word) (s : State) : State :=
  if s.globalWriter r then trfCommand w s
  else runCommand false (fun s => s.trf.cmd) (fun c s => { s with trf := { s.trf with cmd := c } }) refuseTrf (fun s => (.ok, s)) s

/-- Every accumulator takes a new time; TIME_STEP and STEP_COUNT (R55).  What other blocks do at a step is added by their
own files. -/
def stepTime (f : Nat → Nat) (s : State) : State :=
  let s1 := { s with
    trf := { s.trf with acc := f s.trf.acc, steps := satN 16 (s.trf.steps + 1) },
    slices := s.slices.map (fun x => { x with tbu := { x.tbu with acc := f x.tbu.acc } }) }
  raiseEvent 16 0xA02 s1.trf.servo.code false s1

/-- TOD_LOAD takes effect at the first marker at least 100 ns after its start (R67): every accumulator takes the operand
advanced by the interval.  From FREERUN the servo enters HOLDOVER with the residual of its empty history (R57, Table 02.5). -/
def todApply (s : State) : State :=
  match s.trf.todPending with
  | none => s
  | some (t, a, op) =>
    if s.atMarker ∧ t + 150 ≤ s.uptime then
      let x : Stamp := BitVec.ofNat 96 op
      let new := x.t16 * 2 ^ 44 + (s.trf.acc - a)
      let s1 := stepTime (fun _ => new) s
      let toHold := decide (s.refSel = 3) && (decide (s.trf.servo = .freerun) || decide (s.trf.servo = .holdover))
      { s1 with trf := { s1.trf with
          residual := if toHold && decide (s.trf.servo = .freerun) then 0 else s1.trf.residual,
          todPending := none, cmd := CmdReg.take .ok, todLoaded := true, wanderFrom := s.uptime,
          refTerm := .tod x.bound, servo := if toHold then .holdover else s1.trf.servo,
          freerunPending := s1.trf.freerunPending && !toHold } }
    else s

/-- A waiting step of −e is taken at a marker, in ACQUIRING only (R55).  It is no part of the interval by which a waiting TOD_LOAD is
advanced (R67). -/
def servoStepApply (s : State) : State :=
  match s.trf.stepPending with
  | none => s
  | some d =>
    if s.atMarker ∧ s.trf.servo = .acquiring then
      let f := fun a : Nat => ((a : Int) + d * ((2 ^ 40 : Nat) : Int)).toNat
      let s1 := stepTime f s
      { s1 with trf := { s1.trf with stepPending := none, todPending := s1.trf.todPending.map (fun t => (t.1, f t.2.1, t.2.2)) } }
    else s

/-- A FREERUN command unbounds every capture at a marker (R58). -/
def freerunApply (s : State) : State :=
  if s.atMarker then { s with trf := { s.trf with freerunPending := false } } else s

/-- One slice's check of a marker that arrives `late`/256 ns after its leg delay (R61, R62, R47).  The skew is rounded down to whole
1/256 ns (the model's choice, log 122). -/
def checkSlice (late : Nat) (i : Fin 16) (s : State) : State :=
  let x := s.slice i
  let skew : Int := ((x.tbu.acc : Int) - (s.trf.acc : Int)) / ((2 ^ 40 : Nat) : Int) + (late : Int)
  let beyond := decide (floor1 (fld s.trf.boundCfg 55 48) * 16 < skew.natAbs)
  let n := min 2 (x.tbu.checks + 1)
  let tbu := { x.tbu with skew1 := x.tbu.skew0, skew0 := skew, checks := n, checkValid := x.tbu.checkValid || decide (n = 2),
                          alarm := beyond, trim := -skew * ((2 ^ 40 : Nat) : Int) }
  let s1 := s.modSlice i (fun y => { y with tbu := tbu, marker := none })
  let s2 := if beyond then s1.count i Reg.TBU_COUNT 63 32 else s1
  setCond i.val 0x001 beyond (twos 16 skew) s2

/-- The marker of R61: slices in `lost` receive none (they await it), the others measure. -/
def timeMarker (lost : BitVec 16) (late : List Nat) (s : State) : State :=
  if s.atMarker ∧ s.lastMarker ≠ some s.uptime then
    let s0 := { s with lastMarker := some s.uptime }
    (List.finRange 16).foldl (fun a i =>
      let d := (late[i.val]?).getD 0
      if lost.getLsbD i.val || decide (40 * 256 < (Config.legDelay i.val).val + d) then
        a.modSlice i (fun y => { y with marker := some s.uptime })
      else checkSlice d i a) s0
  else s

/-- A marker not received 40 ns (60 cycles) after issue (R61). -/
def checkMissed (i : Fin 16) (s : State) : State :=
  match (s.slice i).marker with
  | none => s
  | some t =>
    if t + 60 ≤ s.uptime then
      let s1 := s.modSlice i (fun y => { y with marker := none, tbu := { y.tbu with checkValid := false, checks := 0 } })
      raiseEvent i.val 0x002 0 false (s1.count i Reg.TBU_COUNT 31 0)
    else s

/-- A read of TRF_TIME0 or TBU_TIME0: the whole time and bound, the upper register latched (R66). -/
def time0Read (unit : Option (Fin 16)) (s : State) : Word × State :=
  match unit with
  | none => (s.centralStamp.lo, { s with trf := { s.trf with time1 := s.centralStamp.hi } })
  | some i => ((s.sliceStamp i).lo, s.modSlice i (fun x => { x with tbu := { x.tbu with time1 := (s.sliceStamp i).hi } }))

/-- TRF_STATUS as it reads (Table 02.13).  UNBOUNDED follows its description from reset on: the central bound is 0x3FFF then, though
the table's reset column has 0 (log 107). -/
def State.trfStatus (s : State) : Word :=
  pack ([(63, 48, s.trf.steps), (47, 32, s.trf.lockLosses), (31, 16, s.trf.discards), (15, 14, s.refSel),
    (13, 12, s.trf.servo.code), (11, 11, b2n s.trf.refPresent), (10, 10, b2n (decide (s.centralBound = 0x3FFF)))] ++ s.trf.cmd.fields)
/-- TRF_TERMS as it reads (Table 02.16): HOLDOVER_S counts from the last accepted sample; where none has been accepted yet, from
the TOD_LOAD that began HOLDOVER (log 108). -/
def State.trfTerms (s : State) : Word :=
  let hold := if s.trf.servo = .holdover then (s.uptime - s.trf.lastSample.getD s.trf.wanderFrom) / cclkHz else 0
  pack [(63, 32, satN 32 hold), (31, 16, satN 16 s.residual), (13, 0, s.centralBound)]
/-- TBU_SKEW (Table 02.18); a skew or a term wider than its field shows the field's limit (log 9).  Before any check SKEW_TERM is the
term of R57 over no skew, 16, though the table's reset column has 0x0000 (log 109). -/
def State.tbuSkew (s : State) (i : Fin 16) : Word :=
  let t := (s.slice i).tbu
  pack [(47, 32, satN 16 t.skewTerm), (31, 16, twos 16 (clampInt t.skew0 32767)), (1, 1, b2n t.checkValid), (0, 0, b2n t.alarm)]

/-- One CCLK cycle of every accumulator (R47); the trim removes at most 1/16 ns per µs. -/
def trimStep : Int := ((2 ^ 44 / cyclesUs : Nat) : Int)
def Tbu.tick (addend : Nat) (t : Tbu) : Tbu :=
  let d := clampInt t.trim trimStep
  { t with acc := ((t.acc + addend : Nat) + d).toNat, trim := t.trim - d }
def tickTime (s : State) : State :=
  { s with trf := { s.trf with acc := s.trf.acc + s.trf.addend },
           slices := s.slices.map (fun x => { x with tbu := x.tbu.tick s.trf.addend }) }

end Sys2Proof.Machine
end

