-- ==== Sys2Proof/Machine/Copybook.lean ====
section
/-!
DEFINITION. The Copybook unit of a slice and the signer ("Copybook Evidence Ledger"): reservations, records, blocks, their
ring and drain paths, seal ticks and seals.
-/
namespace Sys2Proof.Machine
open Sys2Proof

def State.cpb (s : State) (i : Fin 16) : Cpb := (s.slice i).cpb
def State.modCpb (s : State) (i : Fin 16) (f : Cpb → Cpb) : State := s.modSlice i (fun x => { x with cpb := f x.cpb })
/-- POLICY: false BLOCK, true MARK. -/
def State.cpbMark (s : State) (i : Fin 16) : Bool := bitAt (s.reg i Reg.CPB_CFG) 0
/-- REPORT_WAIT in CCLK cycles. -/
def State.reportWait (s : State) (i : Fin 16) : Nat := fld (s.reg i Reg.CPB_CFG) 63 48 * cyclesUs
/-- The slice's DDR5 channel is fenced. -/
def State.ddrFenced (s : State) (i : Fin 16) : Bool := s.unitFenced i .ddr5

-- Blocks (R321, R322, R324) ----------------------------------------------------------------------------------------

/-- Bytes of a full block, which an open block reserves, and the free space that a block needs to open (R324). -/
def blockMax : Nat := 132096
def blockNeed : Nat := 264192
def Block.size (b : Block) : Nat := 1024 + 32 * b.records.length
/-- CTRL_MAP: bit i mod 8 of byte i div 8 marks record i a control record. -/
def Block.ctrlMap (b : Block) : List Byte :=
  (List.range 512).map (fun k => byte (sumNat ((List.range 8).map (fun j =>
    match b.records[8 * k + j]? with
    | some r => if r.2 then 2 ^ j else 0
    | none => 0))))
/-- The bytes of a closed block (Table 12.4). -/
def Block.bytes (i : Fin 16) (b : Block) : List Byte :=
  [0x43, 0x50, 0x42, 0x4B, 0x01, byte i.val] ++ bytesLE 2 b.records.length ++ bytesLE 8 b.run.toNat ++ bytesLE 8 b.number ++
  bytesLE 4 b.firstSeq ++ [byte b.close, byte b.policy, 0, 0] ++ bytesLE 12 b.openTime.toNat ++ bytesLE 12 b.closeTime.toNat ++
  List.replicate 8 0 ++ padTo 48 b.prev ++ List.replicate 400 0 ++ b.ctrlMap ++ b.records.flatMap (fun r => padTo 32 r.1)

/-- The slice can open a block now. -/
def State.canOpen (s : State) (i : Fin 16) : Bool := decide (blockNeed ≤ (s.cpb i).free) && !s.ddrFenced i
/-- FULL: no block is open and none can be opened (R324). -/
def State.cpbFull (s : State) (i : Fin 16) : Bool := (s.cpb i).opened.isNone && !s.canOpen i

/-- The open block closes (R322): hashed, made head of its chain; the unused part of its reservation returns. -/
def closeBlock (i : Fin 16) (reason : Nat) (s : State) : State :=
  match (s.cpb i).opened with
  | none => s
  | some b =>
    let b1 := { b with close := reason, policy := b2n (s.cpbMark i), closeTime := s.sliceStamp i }
    let h := sha384 (b1.bytes i)
    s.modCpb i (fun c => { c with opened := none, closing := c.closing ++ [{ b1 with hash := h }],
                                  head := some (b1.number, h), free := c.free + (blockMax - b1.size),
                                  wrAt := (c.wrAt + b1.size) % max 1 c.region })
/-- The block that opens next. -/
def Cpb.newBlock (c : Cpb) (t : Stamp) : Block :=
  { number := c.nextBlock, run := c.run, firstSeq := c.nextSeq, openTime := t, place := c.wrAt,
    prev := match c.head with
      | some h => h.2
      | none => List.replicate 48 0 }
/-- A record (its first 28 bytes) written with the next sequence number; a block opens for it, or closes once full (R316). -/
def appendRecord (i : Fin 16) (ctrl : Bool) (body : List Byte) (s : State) : State :=
  let s1 := match (s.cpb i).opened with
    | some _ => s
    | none => s.modCpb i (fun c => { c with
        free := c.free - blockMax, nextBlock := c.nextBlock + 1,
        opened := some (Cpb.newBlock c (s.sliceStamp i)) })
  let s2 := (s1.modCpb i (fun c => { c with
    nextSeq := (c.nextSeq + 1) % 2 ^ 32,
    opened := c.opened.map (fun (b : Block) => { b with records := b.records ++ [(padTo 28 body ++ bytesLE 4 c.nextSeq, ctrl)] }) })).count
      i Reg.CPB_RECORDS 63 0
  match (s2.cpb i).opened with
  | some b => if 4096 ≤ b.records.length then (closeBlock i 0 s2).modSlice i (fun x => x.noteTrap 12) else s2
  | none => s2
/-- The fault unit has fenced every digest unit. -/
def Slice.digestFenced (x : Slice) : Bool := (List.range 16).all (fun u => x.unitFenced (.digest u))
/-- A record can be written now: outside READY the channel takes no block (R362), without a digest unit no record is made (Table 17.4),
and in RETENTION none is produced (R14). -/
def State.canWrite (s : State) (i : Fin 16) : Bool :=
  (s.slice i).farReady && !(s.slice i).digestFenced && decide ((s.slice i).pwr ≠ .retention) && ((s.cpb i).opened.isSome || s.canOpen i)

-- Records (R313 to R316, R319, R320) -------------------------------------------------------------------------------

/-- Bytes of the frame as received that DIGEST covers (R314). -/
def digestBytes (f : Frame) : List Byte :=
  if f.done && !f.cutOff then f.bytes.take (min 128 (f.bytes.length - 4)) else f.bytes.take 128
/-- The first 28 bytes of an ordinary record (Table 12.1). -/
def WaitRec.body (r : WaitRec) (f : Frame) : List Byte :=
  bytesLE 12 r.capture.toNat ++
  bytesLE 4 (2 ^ 31 * b2n r.punted + 2 ^ 30 * b2n r.fragment + 2 ^ 29 * b2n (decide (r.capture.bound = 0x3FFF)) +
    2 ^ 28 * b2n r.uncertain + 2 ^ 27 * b2n r.late + 2 ^ 17 * r.port + r.index) ++
  (sha256 (digestBytes f)).take 12
/-- The first 28 bytes of a GAP record: COUNT and SPAN saturate at 48 bits. -/
def gapBody (count : Nat) (first last : Stamp) : List Byte :=
  bytesLE 12 first.toNat ++ bytesLE 4 0x10000000 ++ bytesLE 6 (satN 48 count) ++
  bytesLE 6 (satN 48 (ceilDiv (last.t16 - first.t16) 16))
/-- The first 28 bytes of an OUTCOME record. -/
def outcomeBody (t : Stamp) (bits ref : Nat) : List Byte :=
  bytesLE 12 t.toNat ++ bytesLE 4 (0x20000000 + bits) ++ bytesLE 4 ref ++ List.replicate 8 0

/-- A waiting record has all it waits for. -/
def WaitRec.ready (r : WaitRec) : Bool := r.fcs.isSome && decide (r.missing = 0)
/-- OUTCOME bits that a record needs when it is written (R315). -/
def WaitRec.outcome (r : WaitRec) : Nat :=
  b2n r.dropped + 4 * b2n (decide (r.fcs = some false)) + 8 * b2n r.timedOut
/-- Sequence numbers that a ready record takes, its own OUTCOME record with it (R315). -/
def ReadyRec.size : ReadyRec → Nat
  | .record r => 1 + b2n (decide (r.outcome ≠ 0))
  | _ => 1
def Cpb.readySize (c : Cpb) : Nat := sumNat (c.ready.map ReadyRec.size)
/-- A report joins a record that is not yet written (R313, R315): its flags, and the outcomes DROPPED and PUNTED of R295. -/
def WaitRec.joined (r : WaitRec) (late unc : Bool) (out : Nat) : WaitRec :=
  { r with missing := r.missing - 1, late := r.late || late, uncertain := r.uncertain || unc,
           dropped := r.dropped || decide (out = 1), punted := r.punted || decide (out = 2) }
/-- The ready record of a packet changed. -/
def ReadyRec.mapPkt (pkt : Nat) (f : WaitRec → WaitRec) : ReadyRec → ReadyRec
  | .record r => .record (if r.pkt = pkt then f r else r)
  | x => x
/-- A ready record of the packet still lacks a report. -/
def ReadyRec.lacks (pkt : Nat) : ReadyRec → Bool
  | .record r => decide (r.pkt = pkt) && decide (0 < r.missing)
  | _ => false
/-- Gathering buffers that a number of records needs, one always kept (R317). -/
def buffersFor (n : Nat) : Nat := ceilDiv n 64 + 1
/-- Records that wait or are ready. -/
def Cpb.held (c : Cpb) : Nat := c.waiting.length + c.readySize
/-- Entries of the record queue in use: those that wait, and those ready that the gathering buffers, one kept apart, do not hold
(R317). -/
def Cpb.queued (c : Cpb) : Nat := c.waiting.length + (c.readySize - 64 * (c.bufs.length - 1))
/-- Gathering buffers no longer needed are freed. -/
def trimBuffers (i : Fin 16) : Nat → State → State
  | 0, s => s
  | n + 1, s =>
    match (s.cpb i).bufs with
    | p :: ps =>
      if buffersFor (s.cpb i).held < (p :: ps).length then
        trimBuffers i n (freePtr i p 0x200 (s.modCpb i (fun c => { c with bufs := ps }))).1
      else s
    | [] => s
/-- One pool buffer more for the records held, when they need `need` (R251). -/
def bufferFor (i : Fin 16) (need : Nat) (s : State) : State :=
  if (s.cpb i).bufs.length < need then
    match allocPool i 2048 0x200 s with
    | (some p, s1) => s1.modCpb i (fun c => { c with bufs := p :: c.bufs })
    | (none, s1) => s1
  else s
/-- A record's wait is over (R315): behind its gap record it is ready.  With a report missing the wait counts, and the event
names the sequence number that the record will take. -/
def makeReady (i : Fin 16) (r : WaitRec) (s : State) : State :=
  let c := s.cpb i
  let gaps := (r.gap.map (fun g => ReadyRec.gap g.1 g.2.1 g.2.2)).toList
  let s1 := s.modCpb i (fun c => { c with
    waiting := c.waiting.erase r, ready := c.ready ++ gaps ++ [.record { r with timedOut := decide (r.missing ≠ 0) }] })
  if r.missing = 0 then s1
  else raiseEvent i.val 0x701 ((c.nextSeq + c.readySize + gaps.length) % 2 ^ 32) false (s1.count i Reg.CPB_COUNT1 31 16)
/-- Every waiting record for which `p` holds becomes ready. -/
def readyWhere (i : Fin 16) (p : WaitRec → Bool) (s : State) : State :=
  ((s.cpb i).waiting.filter p).foldl (fun a r => makeReady i r a) s
/-- RECORD_WRITE (R315, R316): the oldest ready record takes the next sequence number; an OUTCOME record that it needs comes
immediately after it, and its missing reports may still come. -/
def writeReady (i : Fin 16) (s : State) : State :=
  match (s.cpb i).ready with
  | [] => s
  | x :: rest =>
    let s0 := s.modCpb i (fun c => { c with ready := rest })
    match x with
    | .gap n a b => appendRecord i true (gapBody n a b) s0
    | .outcome seq bits => appendRecord i true (outcomeBody (s0.sliceStamp i) bits seq) s0
    | .record r =>
      let seq := (s0.cpb i).nextSeq
      (appendRecord i false (r.body (s0.frame r.frame)) s0).modCpb i (fun c => { c with
        ready := if r.outcome = 0 then c.ready else .outcome seq r.outcome :: c.ready,
        lateRecs := if r.missing = 0 then c.lateRecs else c.lateRecs ++ [(r.pkt, seq, r.missing)] })
/-- Ready records written while a block can take them. -/
def writeAll (i : Fin 16) : Nat → State → State
  | 0, s => s
  | n + 1, s => if !(s.cpb i).ready.isEmpty && s.canWrite i then writeAll i n (writeReady i s) else s
/-- Ready records are gathered and written, in the order in which they became ready (R316, R317). -/
def flushHeld (i : Fin 16) (s : State) : State :=
  let s1 := writeAll i (s.cpb i).readySize (bufferFor i (buffersFor (s.cpb i).held) s)
  trimBuffers i (s1.cpb i).bufs.length s1
/-- Every record that has all it waits for becomes ready, and what is ready is written. -/
def flushReady (i : Fin 16) (s : State) : State := flushHeld i (readyWhere i WaitRec.ready s)
/-- REPORT_WAIT_EXPIRY (R315): every record whose wait has passed is ready, reports missing or not. -/
def reportWaitExpiry (i : Fin 16) (s : State) : State :=
  let waited := fun (r : WaitRec) => decide (r.commitAt + s.reportWait i ≤ s.uptime)
  if (s.cpb i).waiting.any waited then flushHeld i (readyWhere i waited s) else s
/-- The FCS verdict of a frame reaches the records of its packet (R315, R76). -/
def recordFcs (i : Fin 16) (pkt : Nat) (good : Bool) (s : State) : State :=
  let hears := fun (r : WaitRec) => { r with fcs := some good }
  flushReady i (s.modCpb i (fun c => { c with
    waiting := c.waiting.map (fun r => if r.pkt = pkt then hears r else r), ready := c.ready.map (ReadyRec.mapPkt pkt hears) }))

/-- A merge report sent toward the ingress slice by a merge port (R296): released 0, dropped 1 or punted 2 under R295.  A copy
that ends otherwise is reported by no port, and its record's wait ends with that report missing (log 98). -/
def sendReport (i : Fin 16) (pkt : Nat) (late uncertain : Bool) (outcome : Nat) (s : State) : State :=
  s.modCpb i (fun c => { c with reports := c.reports ++ [(pkt, late, uncertain, outcome)] })
/-- MERGE_REPORT_ARRIVAL (R315): the oldest report on its way joins its waiting record, or makes an OUTCOME record of its own;
in RETENTION it is discarded (R323). -/
def reportArrival (i : Fin 16) (s : State) : State :=
  match (s.cpb i).reports with
  | [] => s
  | (pkt, late, unc, out) :: rest =>
    let s1 := s.modCpb i (fun c => { c with reports := rest })
    if (s.slice i).pwr = .retention then s1
    else if (s.cpb i).waiting.any (fun r => decide (r.pkt = pkt) && decide (0 < r.missing)) then
      flushReady i (s1.modCpb i (fun c => { c with
        waiting := c.waiting.map (fun r => if r.pkt = pkt then r.joined late unc out else r) }))
    else if (s.cpb i).ready.any (ReadyRec.lacks pkt) then
      s1.modCpb i (fun c => { c with ready := c.ready.map (ReadyRec.mapPkt pkt (fun r => r.joined late unc out)) })
    else match (s.cpb i).lateRecs.find? (fun l => decide (l.1 = pkt)) with
      | some (_, seq, n) =>
        let bits := b2n (decide (out = 1)) + 2 * b2n (decide (out = 2)) + 16 * b2n late + 32 * b2n unc
        flushReady i (s1.modCpb i (fun c => { c with
          ready := c.ready ++ [.outcome seq bits],
          lateRecs := (c.lateRecs.map (fun l => if l.1 = pkt then (pkt, seq, n - 1) else l)).filter (fun l => decide (l.2.2 ≠ 0)) }))
      | none => s1

-- Reservations (R318, R319) ----------------------------------------------------------------------------------------

/-- A refused reservation (R318): counted by cause (0 queue, 1 ring, 2 pool, 3 fence), the first after a success raised. -/
def refuseReservation (i : Fin 16) (cause : Nat) (s : State) : State :=
  let s1 := s.count i Reg.CPB_COUNT0 (63 - 16 * cause) (48 - 16 * cause)
  if (s.cpb i).reserved then
    raiseEvent i.val 0x700 cause false (s1.modCpb i (fun c => { c with reserved := false }))
  else s1
/-- A reservation for one record: of several causes of R318 the first of queue, fence, pool and ring counts (log 68); a gathering
buffer is taken when one more is needed. -/
def reserve (i : Fin 16) (s : State) : Bool × State :=
  let c := s.cpb i
  if 4095 ≤ c.queued then (false, refuseReservation i 0 s)
  else if s.ddrFenced i || (s.slice i).fenced then (false, refuseReservation i 3 s)
  else
    let need := buffersFor (c.held + 1)
    let s1 := bufferFor i need s
    let s2 := if (s1.cpb i).bufs.length = c.bufs.length then s1 else bufferFor i need s1
    if (s2.cpb i).bufs.length < need then (false, refuseReservation i 2 s2)
    else if s2.cpbFull i then (false, refuseReservation i 1 s2)
    else (true, s2.modCpb i (fun c => { c with reserved := true }))
/-- The gap that an unrecorded packet joins (R319). -/
def joinGap (i : Fin 16) (capture : Stamp) (s : State) : State :=
  s.modCpb i (fun c => { c with gap := some (match c.gap with
    | some (n, a, _) => (n + 1, a, capture)
    | none => (1, capture, capture)) })
/-- RECORD_RESERVATION (R318): the record of a committing packet waits; or BLOCK (true: discard the packet) or MARK applies. -/
def recordCommit (i : Fin 16) (r : WaitRec) (s : State) : Bool × State :=
  let v := reserve i s
  if v.1 then
    let r1 := { r with gap := (v.2.cpb i).gap }
    (false, flushReady i (v.2.modCpb i (fun c => { c with gap := none, waiting := c.waiting ++ [r1] })))
  else if v.2.cpbMark i then
    (false, joinGap i r.capture (v.2.count i Reg.CPB_UNRECORDED 63 0))
  else (true, v.2.count i Reg.CPB_COUNT1 63 32)

-- Drain (R325) -----------------------------------------------------------------------------------------------------

def State.drainHost (s : State) (i : Fin 16) : Bool := bitAt (s.reg i Reg.CPB_CFG) 32
def State.drainScribe (s : State) (i : Fin 16) : Bool := bitAt (s.reg i Reg.CPB_CFG) 33
/-- Blocks that every enabled path has taken leave the ring, and their space returns. -/
def releaseBlocks (i : Fin 16) (s : State) : State :=
  let taken (b : Block) : Bool :=
    (!s.drainHost i || decide (b.number < (s.cpb i).hostNext)) && (!s.drainScribe i || decide (b.number < (s.cpb i).scribeNext))
  flushReady i (s.modCpb i (fun c => { c with
    blocks := c.blocks.filter (fun b => !taken b),
    free := c.free + sumNat ((c.blocks.filter taken).map Block.size) }))
/-- BLOCK_CLOSE_DONE (R322): the oldest close completes; the block lies in the ring. -/
def blockCloseDone (i : Fin 16) (s : State) : State :=
  match (s.cpb i).closing with
  | [] => s
  | b :: rest => releaseBlocks i (s.modCpb i (fun c => { c with closing := rest, blocks := c.blocks ++ [b] }))
/-- A block as the channel returns it: bursts read with an uncorrectable error hold open bytes (R356, log 2). -/
def badBursts (i : Fin 16) (place : Nat) (bytes : List Byte) : List Nat → State → List Byte × State
  | [], s => (bytes, s)
  | b :: bs, s =>
    let d := s.draw
    badBursts i place (overlay bytes (64 * b) (bytesLE 64 d.1)) bs
      (raiseEvent i.val 0x801 (bitsOf (fld (s.slice i).dram.cpb 43 32 * 2 ^ 26 + (place + 64 * b) % max 1 (s.cpb i).region) 37 6) false
        (d.2.count i Reg.DRM_COUNT0 47 32))
/-- BLOCK_DRAIN_DMA (R325, R392): the next block goes whole into one buffer of DRAIN_RING, after the items already queued there;
a buffer shorter than the block is completed with ERROR, and while the buffer is smaller than a full block the block waits (log
99). -/
def blockDrain (i : Fin 16) (fixed bad : List Nat) (s : State) : State :=
  let r := fld (s.reg i Reg.CPB_CFG) 47 40
  let x := s.ring i r
  match (s.cpb i).blocks.find? (fun b => decide ((s.cpb i).hostNext ≤ b.number)), x.desc with
  | some b, some d =>
    if s.drainHost i && (s.slice i).farReady && decide (x.state = .running) && x.items.isEmpty && !s.ringIsTx i r && s.pfUsable (s.ringPf i r) then
      if b.size ≤ descLen d && decide (descLen d < blockMax) then s
      else if descLen d < b.size then completeRx i r 0 [] (rxCompletion 3 0 0 0 (word b.number) 0 0 x.phase true) s
      else
        let f := badBursts i b.place (b.bytes i) bad (s.modSlice i (fun x => x.count Reg.DRM_COUNT0 63 48 fixed.length))
        let s1 := completeRx i r (descAddrOf d) f.1 (rxCompletion 3 0 0 0 (word b.number) 0 b.size x.phase false) f.2
        releaseBlocks i (s1.modCpb i (fun c => { c with hostNext := b.number + 1 }))
    else s
  | _, _ => s

def putCpb (i : Fin 16) (c : CmdReg) (s : State) : State := s.modCpb i (fun x => { x with cmd := c })
def refuseCpb (i : Fin 16) (s : State) : State := s.count i Reg.CPB_COUNT1 15 0
/-- The closed blocks of the current run. -/
def Cpb.closed (c : Cpb) (n : Nat) : Bool := decide (n < c.nextBlock) && (match c.opened with
  | some b => decide (b.number ≠ n)
  | none => true)
/-- SCRIBE_RELEASE (R331). -/
def scribeRelease (i : Fin 16) (s : State) : CmdStatus × State :=
  let n := (s.reg i Reg.CPB_ARG).toNat
  let c := s.cpb i
  judge [(!s.drainScribe i, .stateRefused), (!c.closed n || decide (n < c.scribeNext), .notFound)] s (fun s =>
    (.ok, releaseBlocks i (s.modCpb i (fun c => { c with scribeNext := n + 1 }))))
/-- CPB_CMD written by a requester: only the Scribe may. -/
def cpbCommand (i : Fin 16) (r : Requester) (w : Word) (s : State) : State :=
  runCommand (decide (r = .scribe)) (fun s => (s.cpb i).cmd) (putCpb i) (refuseCpb i)
    (fun s => if fld w 3 0 = 1 then scribeRelease i s else (.badArg, s)) s
/-- A write of CPB_CFG (R325, R331): discarded and counted with a REPORT_WAIT out of range or both paths cleared. -/
def cpbCfgWrite (i : Fin 16) (r : Requester) (h : Half) (w : Word) (s : State) : State :=
  let new := mergeWrite (s.reg i Reg.CPB_CFG) w h 0xFFFFFF0300000001
  if s.sliceWriter i r then
    if fld new 63 48 < 20 ∨ 1000 < fld new 63 48 ∨ fld new 33 32 = 0 then refuseCpb i s
    else releaseBlocks i (s.setReg i Reg.CPB_CFG new)
  else s

/-- A new run (R329): a new RUN_ID, block 0, sequence number 0, the whole region free. -/
def newRun (i : Fin 16) (s : State) : State :=
  let d := s.draw
  (d.2.modCpb i (fun c => { c with
    run := word d.1, nextSeq := 0, nextBlock := 0, opened := none, closing := [], blocks := [], head := none, lateRecs := [],
    ready := c.ready.filter (fun x => match x with
      | .outcome _ _ => false
      | _ => true), hostNext := 0, scribeNext := 0, free := c.region, wrAt := 0 })).setReg i Reg.CPB_UNRECORDED 0
/-- ENTER_RETENTION ends every wait (R323): once each waiting record is written, the open block closes. -/
def cpbRetention (i : Fin 16) (s : State) : State :=
  let s1 := flushHeld i (readyWhere i (fun _ => true) s)
  if (s1.cpb i).ready.isEmpty then closeBlock i 2 s1 else s1
/-- Every record is written and every block closed (R323). -/
def Cpb.atRest (c : Cpb) : Bool := c.waiting.isEmpty && c.ready.isEmpty && c.opened.isNone && c.closing.isEmpty
/-- Blocks of the run that no drain has taken. -/
def Cpb.undrained (c : Cpb) : Nat := c.blocks.length + c.closing.length + b2n c.opened.isSome
/-- The channel is fenced: the blocks not drained are lost (R329, R333); a lost open block was never closed. -/
def cpbFence (i : Fin 16) (s : State) : State :=
  let n := (s.cpb i).undrained
  let s1 := s.modCpb i (fun c => { c with
    opened := none, closing := [], blocks := [], nextBlock := (c.opened.map (·.number)).getD c.nextBlock })
  if n = 0 then s1 else raiseEvent i.val 0x702 (satN 32 n) false s1

-- Register images --------------------------------------------------------------------------------------------------

/-- STATE of CPB_STATUS and of a seal entry: ACTIVE, RETENTION or FENCED. -/
def State.cpbState (s : State) (i : Fin 16) : Nat :=
  if s.ddrFenced i || (s.slice i).fenced then 2 else if (s.slice i).pwr = .retention then 1 else 0
def State.cpbStatus (s : State) (i : Fin 16) : Word :=
  pack ([(28, 16, (s.cpb i).waiting.length), (9, 8, s.cpbState i), (7, 7, b2n (s.cpb i).gap.isSome), (6, 6, b2n (s.cpbFull i))] ++
    (s.cpb i).cmd.fields)
def Cpb.headWord (c : Cpb) : Word := match c.head with
  | some (n, _) => word n
  | none => 0xFFFFFFFFFFFFFFFF
def Cpb.seqWord (c : Cpb) : Word := pack [(44, 32, (c.opened.map (·.records.length)).getD 0), (31, 0, c.nextSeq)]

-- Seals (R326 to R329, R332) ---------------------------------------------------------------------------------------

/-- The 80 bytes of a slice's entry in a seal (Table 12.5). -/
def sealEntry (s : State) (i : Fin 16) : List Byte :=
  let c := s.cpb i
  padTo 48 ((c.head.map (·.2)).getD []) ++ bytesLE 8 c.headWord.toNat ++ bytesLE 8 c.run.toNat ++ bytesLE 4 c.nextSeq ++
  [byte (s.cpbState i), byte (b2n (s.cpbMark i)), 0, 0] ++ bytesLE 8 (s.reg i Reg.CPB_UNRECORDED).toNat
/-- KEY_PRESENT: the life-cycle state holds a seal key (R328). -/
def State.keyPresent (s : State) : Bool := s.scribe.seed.isSome
/-- KEY_ID: the first 16 bytes of SHA-384 of the public key. -/
def State.keyId (s : State) : List Byte := (sha384 (sealPublic (s.scribe.seed.getD 0))).take 16
/-- REF_TYPE of TRF_STATUS is REF_SEL; the servo state's code. -/
def sealHeader (s : State) : List Byte :=
  let g := s.signer
  [0x43, 0x50, 0x53, 0x4C, 0x01, byte (b2n g.resumed), 0, 0] ++ bytesLE 8 g.number ++ bytesLE 12 s.centralStamp.toNat ++
  [byte s.refSel, byte s.trf.servo.code, byte (b2n (decide (s.trf.servo = .holdover))), 0] ++ bytesLE 2 s.lig.epoch ++
  bytesLE 2 s.fol.active ++ List.replicate 4 0 ++ bytesLE 8 Config.serial.toNat ++ padTo 48 g.prev ++ s.keyId ++
  bytesLE 8 g.stream.toNat ++ List.replicate 136 0
def State.sealCfg (s : State) : Word := s.greg Reg.CPB_SEAL_CFG
/-- A tick that produces no seal (R326, R333). -/
def skipSeal (s : State) : State :=
  let s1 := s.gcount Reg.CPB_SEAL_COUNT 31 16
  raiseEvent 16 0xD00 (fld (s1.greg Reg.CPB_SEAL_COUNT) 31 16) false s1
/-- The tick's time: the marker's whole microseconds are a multiple of INTERVAL (R326). -/
def State.sealDue (s : State) : Bool :=
  s.atMarker && bitAt s.sealCfg 63 && decide (s.centralT / 16000 % max 1 s.signer.interval = 0)
/-- SEAL_TICK (R326): every open block closes first; then the seal of the 16 heads is given to the signer, or skipped. -/
def sealTick (s : State) : State :=
  if s.sealDue then
    let s1 := (List.finRange 16).foldl (fun a i => closeBlock i 1 a) s
    let g := s1.signer
    if s.keyPresent && g.ready && g.signing.isNone then
      { s1 with signer := { g with
          signing := some (sealHeader s1 ++ (List.finRange 16).flatMap (fun i => sealEntry s1 i)) } }
    else skipSeal s1
  else s
/-- SEAL_SIGNED (R326, R327): the signature completes, the seal joins the stream and is delivered. -/
def sealSigned (s : State) : State :=
  match s.signer.signing with
  | none => s
  | some body =>
    let d := s.draw
    let bytes := body ++ padTo 96 (ecdsaSign (s.scribe.seed.getD 0) (sha384 body) d.1)
    let n := s.signer.number
    let s1 := ({ d.2 with signer := { d.2.signer with
      signing := none, prev := sha384 bytes, number := n + 1, resumed := false,
      buffer := (({ number := n, bytes := bytes } : Seal) :: d.2.signer.buffer).take 1024 } } : State).gcount Reg.CPB_SEAL_COUNT 63 32
    let i := sl (fld s.sealCfg 51 48)
    let r := fld s.sealCfg 47 40
    if (s1.slice i).pwr = .active then postItem i r (.seal n bytes) s1
    else s1.gcount Reg.CPB_SEAL_COUNT 15 0
/-- A write of CPB_SEAL_CFG (R332). -/
def sealCfgWrite (r : Requester) (h : Half) (w : Word) (s : State) : State :=
  let new := mergeWrite s.sealCfg w h 0x800FFF00000FFFFF
  if s.globalWriter r && decide (100 ≤ fld new 19 0) && decide (fld new 19 0 ≤ 1000000) then s.setGreg Reg.CPB_SEAL_CFG new else s
/-- An INTERVAL write applies from the next 1 µs marker. -/
def sealMarker (s : State) : State := { s with signer := { s.signer with interval := fld s.sealCfg 19 0 } }
/-- The signing state leaves the Scribe domain (R329): what was being signed is lost, and CPB_SIGNER_DOWN follows. -/
def signerDown (s : State) : State :=
  setCond 16 0xD01 s.keyPresent 0
    { s with signer := { s.signer with ready := false, signing := none } }
/-- The signing state returns with a new stream, whose seal 0 has RESUMED set (R329). -/
def signerUp (resumed : Bool) (s : State) : State :=
  let d := s.draw
  setCond 16 0xD01 false 0
    { d.2 with signer := { d.2.signer with ready := true, resumed := resumed, stream := word d.1, number := 0, prev := [] } }
def State.sealStatus (s : State) : Word := pack [(2, 2, b2n s.signer.resumed), (1, 1, b2n s.signer.ready), (0, 0, b2n s.keyPresent)]
/-- SEAL_NUMBER of the last seal delivered, 0 before the first. -/
def Signer.lastNumber (g : Signer) : Nat := (g.buffer.head?.map (·.number)).getD 0

end Sys2Proof.Machine
end

