-- ==== Sys2Proof/Machine/Edits.lean ====
section
/-!
DEFINITION. The edit list (R179 to R186) as the egress MAC applies it to a copy's frame, and the timestamp formats.
-/
namespace Sys2Proof.Machine
open Sys2Proof

/-- The short form of a timestamp (R44): the low 28 bits of NS and SIXTEENTH, 4 bytes. -/
def Stamp.short (x : Stamp) : Nat := bitsOf x.toNat 45 14
/-- The PTP Timestamp of an instant (R185): SEC[47:0], then NS in 32 bits. -/
def Stamp.ptp (x : Stamp) : Nat := bitsOf x.toNat 95 48 * 2 ^ 32 + bitsOf x.toNat 47 18
/-- Bytes that a format writes: 0 BOUNDED, 1 SHORT, 2 PTP (Table 06.9). -/
def stampWidth (fmt : Nat) : Nat := if fmt = 0 then 12 else if fmt = 1 then 4 else 10
/-- A timestamp in a format and byte order (R185). -/
def stampBytes (fmt : Nat) (le : Bool) (x : Stamp) : List Byte :=
  let v := if fmt = 0 then x.toNat else if fmt = 1 then x.short else x.ptp
  if le then bytesLE (stampWidth fmt) v else bytesBE (stampWidth fmt) v

/-- A frame while edits apply: each byte with the sum of the changes that SET and STAMP entries made to it (R182). -/
abbrev EditBuf := List (Byte × Int)
def EditBuf.bytes (b : EditBuf) : List Byte := b.map (·.1)

/-- What an entry makes of the frame: the frame, a fault that also counts as a cut-through abort (R181), or a fault. -/
inductive EditOut where
  | ok (b : EditBuf)
  | abort
  | fault
  deriving DecidableEq, Repr

/-- Bytes overwritten, the change noted when `track`; an entry beyond the frame's end aborts (R181). -/
def editWrite (b : EditBuf) (off : Nat) (new : List Byte) (track : Bool) : EditOut :=
  if b.length < off + new.length then .abort
  else
    let old := (b.drop off).take new.length
    let mid := (old.zip new).map (fun p =>
      (p.2, p.1.2 + if track then (p.2.toNat : Int) - (p.1.1.toNat : Int) else 0))
    .ok (b.take off ++ mid ++ b.drop (off + new.length))

/-- The internet checksum over a header whose checksum field (bytes 10 and 11) counts as zero. -/
def ip4Checksum (hdr : List Byte) : Nat :=
  let z := overlay hdr 10 [0, 0]
  let s := sumNat ((List.range (z.length / 2)).map (fun k => (byteAt z (2 * k)).toNat * 256 + (byteAt z (2 * k + 1)).toNat))
  let f := fun n => n % 65536 + n / 65536
  0xFFFF - f (f s)

/-- CSUM_IP4 (Table 06.8): the whole checksum anew over 4 × IHL bytes. -/
def editCsumIp4 (b : EditBuf) (off : Nat) : EditOut :=
  if b.length < off + 20 then .abort
  else
    let ihl := (byteAt b.bytes off).toNat % 16
    if ihl < 5 then .fault
    else if b.length < off + 4 * ihl then .abort
    else editWrite b (off + 10) (bytesBE 2 (ip4Checksum (slice b.bytes off (4 * ihl)))) false

/-- The summed change to the checksum at `off` from the tracked bytes at `start` or later (R182): each byte weighs 256 at an even
distance from the field's first byte, otherwise 1. -/
def csumDelta (b : EditBuf) (off start : Nat) : Int :=
  (List.range b.length).foldl (fun a k =>
    if start ≤ k then a + ((b[k]?).map (·.2)).getD 0 * (if k % 2 = off % 2 then 256 else 1) else a) 0
/-- Some tracked byte at `start` or later has changed. -/
def csumTouched (b : EditBuf) (start : Nat) : Bool := (b.drop start).any (fun p => decide (p.2 ≠ 0))
/-- RFC 1624 with a sum of zero held as 0xFFFF: the new checksum from the old one and the change. -/
def csumAdjust (hc : Nat) (d : Int) : Nat :=
  let x := (((0xFFFF - hc : Nat) : Int) + d) % 65535
  0xFFFF - (if x = 0 then 0xFFFF else x.toNat)

/-- CSUM_L4 (R182). -/
def editCsumL4 (b : EditBuf) (off start : Nat) (udp4 : Bool) : EditOut :=
  if b.length < off + 2 then .abort
  else
    let hc := ofBytesBE (slice b.bytes off 2)
    if (udp4 && decide (hc = 0)) || !csumTouched b start then .ok b
    else
      let n := csumAdjust hc (csumDelta b off start)
      editWrite b off (bytesBE 2 (if udp4 && decide (n = 0) then 0xFFFF else n)) false

/-- One entry applied (R180 to R186); `tx` is the copy's transmit instant. -/
def Edit.apply (tx : Stamp) (e : Edit) (b : EditBuf) : EditOut :=
  match e with
  | .set off len data => editWrite b off (bytesBE len data.toNat) true
  | .ins off len data =>
    if b.length < off then .abort else .ok (b.take off ++ (bytesBE len data.toNat).map (fun x => (x, 0)) ++ b.drop off)
  | .del off len => if b.length < off + len then .abort else .ok (b.take off ++ b.drop (off + len))
  | .csumIp4 off => editCsumIp4 b off
  | .csumL4 off start udp4 => editCsumL4 b off start udp4
  | .stampRx off fmt le t => editWrite b off (stampBytes fmt le t) true
  | .stampTx off fmt le => editWrite b off (stampBytes fmt le tx) true
  | .corr off t =>
    if b.length < off + 8 then .abort
    else
      let res := ((tx.t16 : Int) - (t.t16 : Int)) * 4096
      editWrite b off (bytesBE 8 (twos 64 ((ofBytesBE (slice b.bytes off 8) : Int) + res))) true

/-- A list of entries applied in order (R180). -/
def applyEdits (tx : Stamp) : List Edit → EditBuf → EditOut
  | [], b => .ok b
  | e :: es, b =>
    match e.apply tx b with
    | .ok b' => applyEdits tx es b'
    | .abort => .abort
    | .fault => .fault

/-- A frame's bytes as an edit buffer. -/
def editBuf (bs : List Byte) : EditBuf := bs.map (fun x => (x, 0))
/-- The bytes of a copy's frame without FCS: its edits applied, then padded to 60 (R180). -/
def editedFrame (tx : Stamp) (es : List Edit) (bs : List Byte) : EditOut :=
  match applyEdits tx es (editBuf bs) with
  | .ok b => .ok (b ++ List.replicate (60 - b.length) (0, 0))
  | o => o
/-- Some entry's value depends on the transmit instant. -/
def usesTx (es : List Edit) : Bool :=
  es.any (fun e => match e with
    | .stampTx .. => true
    | .corr .. => true
    | _ => false)
/-- The frame's length without FCS after a copy's edits and padding, from its length before them (R180, R270). -/
def editedLen (es : List Edit) (len : Nat) : Nat :=
  max 60 (es.foldl (fun n e => match e with
    | .ins _ k _ => n + k
    | .del _ k => n - k
    | _ => n) len)

end Sys2Proof.Machine
end

