-- ==== Sys2Proof/Machine/DramAccess.lean ====
section
/-!
DEFINITION. Accesses to the DDR5 channel of a slice: geometry, regions, address mapping, open rows, bursts and their events
(R355, R356, R364, R367 to R370), and the array accesses that TBL_ACCESS counts (Table 18.1).
-/
namespace Sys2Proof.Machine
open Sys2Proof

def State.dram (s : State) (i : Fin 16) : Dram := (s.slice i).dram
def State.modDram (s : State) (i : Fin 16) (f : Dram → Dram) : State := s.modSlice i (fun x => { x with dram := f x.dram })

-- Geometry, regions and address mapping (R355, R367, R368, R370) ----------------------------------------------------

/-- R, 16 or 17, of which the four bits of ROW_BITS hold the lowest (log 35). -/
def geomR (g : Word) : Nat := 16 + fld g 19 16
def geomC (g : Word) : Nat := fld g 15 12
def geomK (g : Word) : Nat := fld g 8 8
/-- log2 of the bytes of one device: a rank's bytes shared by its 16 x4 or 8 x8 devices (Table 14.1). -/
def geomDevice (g : Word) : Nat := 12 + geomC g + geomR g - (if bitAt g 0 then 4 else 3)
/-- A module of Table 14.1, as `DRM_GEOM` shows it: devices of 16 Gb or 32 Gb.  A bit that the register reserves marks any
other option. -/
def geomSupported (g : Word) : Bool :=
  bitAt g 63 && decide (geomR g = 16 ∨ geomR g = 17) && decide (geomC g = 6 ∨ geomC g = 7) &&
  decide (geomDevice g = 31 ∨ geomDevice g = 32) && decide (g &&& 0x7FFFFFFFFFF00EFE = 0)
/-- Address bits of a module (R355). -/
def geomBits (g : Word) : Nat := 12 + geomC g + geomR g + geomK g
/-- The base bits of Table 14.3 in the order of the outputs of R368: SC, BG0 to BG2, BA0, BA1, CS. -/
def baseBits (g : Word) : List Nat :=
  let c := geomC g
  [6, 7 + c, 8 + c, 9 + c, 10 + c, 11 + c, 12 + c + geomR g]
/-- A legal mask of output `k`. -/
def maskLegal (g : Word) (k : Nat) (m : Word) : Bool :=
  (((baseBits g).take (6 + geomK g)).all (fun b => !bitAt m b)) && decide (fld m 5 0 = 0) &&
  decide (m.toNat < 2 ^ geomBits g) && (decide (k ≠ 6) || decide (geomK g = 1) || decide (m = 0))
def regionEn (w : Word) : Bool := bitAt w 63
def regionBase (w : Word) : Nat := fld w 43 32
def regionSize (w : Word) : Nat := fld w 11 0
/-- Bytes of an enabled region. -/
def regionBytes (w : Word) : Nat := if regionEn w then regionSize w * 2 ^ 26 else 0
/-- Two enabled regions share a granule. -/
def regionsMeet (a b : Word) : Bool :=
  regionEn a && regionEn b && decide (regionBase a < regionBase b + regionSize b) && decide (regionBase b < regionBase a + regionSize a)
/-- The size of a region lies in its range (Table 14.4). -/
def regionSizeOk (w : Word) (lo hi : Nat) : Bool := !regionEn w || (decide (lo ≤ regionSize w) && decide (regionSize w ≤ hi))
/-- The region registers keep R370 without regard to a module's capacity. -/
def regionsOk (f c r x : Word) : Bool :=
  !(regionsMeet f c || regionsMeet f r || regionsMeet f x || regionsMeet c r || regionsMeet c x || regionsMeet r x) &&
  regionSizeOk f 1 1 && regionSizeOk c 1 2047 && regionSizeOk r 1 1536 && regionSizeOk x 1 2047
/-- An enabled region ends below the module's last granule. -/
def regionFits (g w : Word) : Bool := !regionEn w || decide (regionBase w + regionSize w ≤ 2 ^ (geomBits g - 26) - 1)
def State.drmXor (s : State) (i : Fin 16) (k : Nat) : Word := s.reg i (Reg.DRM_XOR + 8 * k)

/-- Parity of the address bits that a mask selects. -/
def parityOf (m : Word) (a : Nat) : Nat := onesIn 40 (m.toNat &&& a) % 2
/-- Output `k` of R368 for a channel address. -/
def Dram.output (d : Dram) (k a : Nat) : Nat :=
  (a / 2 ^ ((baseBits d.geom)[k]?.getD 0) + parityOf (NMap.get 0 d.xors k) a) % 2
def Dram.rankOf (d : Dram) (a : Nat) : Nat := if geomK d.geom = 1 then d.output 6 a else 0
/-- Bank within the rank: subchannel, bank group, bank address. -/
def Dram.bankOf (d : Dram) (a : Nat) : Nat :=
  sumNat ((List.range 5).map (fun j => d.output (j + 1) a * 2 ^ j)) + 32 * d.output 0 a
def Dram.rowOf (d : Dram) (a : Nat) : Nat := bitsOf a (11 + geomC d.geom + geomR d.geom) (12 + geomC d.geom)
/-- Key of a bank's record. -/
def bankKey (rank bank : Nat) : Nat := 64 * rank + bank
/-- One access at a channel address (R364, R369): its bank's row opens, its rank leaves power-down. -/
def dramAccess (i : Fin 16) (a : Nat) (s : State) : State :=
  let d := s.dram i
  let r := d.rankOf a
  let row := if fld (s.reg i Reg.DRM_CFG) 63 48 = 0 then none else some (d.rowOf a)
  s.modDram i (fun d => { d with
    banks := NMap.set {} d.banks (bankKey r (d.bankOf a)) { row := row, last := s.uptime },
    ranks := NMap.set 0 d.ranks r s.uptime, down := NMap.set false d.down r false })
/-- Bursts of 64 bytes at channel addresses, each an access and an event (Table 18.1: 0x30 read, 0x31 write) of a requester (R454: 0
Quill threads, 1 sequencer, 2 host, 3 Copybook unit and replay archive). -/
def dramBurstsAt (i : Fin 16) (ev req : Nat) (addrs : List Nat) (s : State) : State :=
  addrs.foldl (fun s a => pmcEvent i ev 1 { req := req, range := a } (dramAccess i a s)) s
/-- `n` bursts from a channel address on. -/
def dramBursts (i : Fin 16) (ev req a n : Nat) (s : State) : State := dramBurstsAt i ev req ((List.range n).map (fun k => a + 64 * k)) s
def dramRead (i : Fin 16) (req a n : Nat) (s : State) : State := dramBursts i 0x30 req a n s
/-- A write access: with one request served at a time it starts a drain (R365). -/
def dramWrite (i : Fin 16) (req a n : Nat) (s : State) : State := (dramBursts i 0x31 req a n s).count i Reg.DRM_COUNT1 31 16
/-- An ECC error of a read at a channel address (R356): 1 corrected and written back, 2 uncorrectable. -/
def dramEcc (i : Fin 16) (a err : Nat) (s : State) : State :=
  if err = 1 then s.count i Reg.DRM_COUNT0 63 48
  else if err = 2 then raiseEvent i.val 0x801 (bitsOf a 37 6) false (s.count i Reg.DRM_COUNT0 47 32)
  else s
/-- Channel address of byte `o` of a region. -/
def regionAddr (w : Word) (o : Nat) : Nat := regionBase w * 2 ^ 26 + o
/-- The bursts of `n` bytes that lie in the CPB ring from offset `place` on: past the end of the ring they go on at its start (R324). -/
def ringAddrs (w : Word) (place n : Nat) : List Nat :=
  (List.range (ceilDiv n 64)).map (fun k => regionAddr w ((place / 64 * 64 + 64 * k) % max 1 (regionBytes w)))
def ringRead (i : Fin 16) (place n : Nat) (s : State) : State := dramBurstsAt i 0x30 3 (ringAddrs (s.dram i).cpb place n) s
def ringWrite (i : Fin 16) (place n : Nat) (s : State) : State :=
  (dramBurstsAt i 0x31 3 (ringAddrs (s.dram i).cpb place n) s).count i Reg.DRM_COUNT1 31 16

/-- One Near, Far or Session Record array access by a requester (Table 18.1). -/
def tblAccess (i : Fin 16) (req n : Nat) (s : State) : State := pmcEvent i 0x20 1 { req := req, range := n } s

end Sys2Proof.Machine
end

