-- ==== Sys2Proof/Machine/Tables.lean ====
section
/-!
DEFINITION. The exact-match tables and Session Records of a slice ("Near, Far and Session Record Tables"): hashing, lookup,
insertion, the table commands, stash flush and migration.
-/
namespace Sys2Proof.Machine
open Sys2Proof

-- Hashing (R177, R204) ---------------------------------------------------------------------------------------------

/-- One bit step of CRC-64 ECMA-182, not reflected. -/
def crc64Bit (c : Nat) : Nat := if 2 ^ 63 ≤ c then (2 * c % 2 ^ 64) ^^^ 0x42F0E1EBA9EA3693 else 2 * c
/-- R177: the CRC of the eight bytes of `b`, least significant first, started from `a`. -/
def crc64 (a b : Nat) : Nat :=
  (List.range 8).foldl (fun c i => Nat.repeat crc64Bit 8 (c ^^^ (b / 2 ^ (8 * i) % 256 * 2 ^ 56))) (a % 2 ^ 64)
/-- Key words of an entry: 2 single-width, 5 wide. -/
def keyWords (wide : Bool) : Nat := if wide then 5 else 2
/-- The chain of R177 computations over the words of a key. -/
def crcKey (n k c : Nat) : Nat := (List.range n).foldl (fun c i => crc64 c (k / 2 ^ (64 * i) % 2 ^ 64)) c
/-- bucket of the hash pseudocode. -/
def bucketOf (wide : Bool) (k : Nat) (seed : Word) (nb : Nat) : Nat :=
  let n := keyWords wide
  bitsOf (crc64 (crcKey n k seed.toNat) n) 63 32 * nb / 2 ^ 32

/-- Buckets, main slots and all slots of a tier (Table 07.1). -/
def tierBuckets (far : Bool) : Nat := if far then 458752 else 65536
def tierMain (far : Bool) : Nat := 4 * tierBuckets far
def tierSlots (far : Bool) : Nat := tierMain far + 16
/-- Segments of a tier (R204). -/
def tierSegs (far : Bool) : Nat := tierBuckets far / 256
/-- Home and alternate bucket under a pair of seeds. -/
def homes (far wide : Bool) (k : Nat) (s0 s1 : Word) : Nat × Nat :=
  let nb := tierBuckets far
  let h0 := bucketOf wide k s0 nb
  let h1 := bucketOf wide k s1 nb
  (h0, if h1 = h0 then (h0 + 1) % nb else h1)
/-- The buckets of a key under the seeds of a generation (R204). -/
def Tier.homesAt (t : Tier) (far : Bool) (gen wide : Bool) (k : Nat) : Nat × Nat :=
  if gen = t.gen then homes far wide k t.seed0 t.seed1 else homes far wide k t.old0 t.old1
/-- The home segment of an entry. -/
def Tier.segOf (t : Tier) (far : Bool) (e : Entry) : Nat := (t.homesAt far e.gen e.wide e.key).1 / 256

-- Slots ------------------------------------------------------------------------------------------------------------

def Tier.at (t : Tier) (n : Nat) : Option Entry := NMap.get none t.slots n
def Tier.put (t : Tier) (n : Nat) (e : Option Entry) : Tier := { t with slots := NMap.set none t.slots n e }
/-- The entry that occupies slot `n` and its first slot: a wide one takes an aligned pair. -/
def Tier.holder (t : Tier) (n : Nat) : Option (Nat × Entry) :=
  match t.at n with
  | some e => some (n, e)
  | none => if n % 2 = 1 then match t.at (n - 1) with
      | some e => if e.wide then some (n - 1, e) else none
      | none => none
    else none
def Tier.isFree (t : Tier) (n : Nat) : Bool := (t.holder n).isNone
/-- The entry that occupies slot `n` erased, wherever its first slot lies. -/
def Tier.erase (t : Tier) (n : Nat) : Tier :=
  match t.holder n with
  | some (k, _) => t.put k none
  | none => t
/-- The bank of a Near slot is fenced (R199); stash slots and Far slots have none. -/
def Slice.slotFenced (x : Slice) (far : Bool) (n : Nat) : Bool :=
  !far && decide (n < tierMain false) && x.unitFenced (.nearBank (n / 16384))
def Slice.tier (x : Slice) (far : Bool) : Tier := if far then x.tbl.far else x.tbl.near
def Slice.modTier (x : Slice) (far : Bool) (f : Tier → Tier) : Slice :=
  { x with tbl := if far then { x.tbl with far := f x.tbl.far } else { x.tbl with near := f x.tbl.near } }
def State.modTier (s : State) (i : Fin 16) (far : Bool) (f : Tier → Tier) : State := s.modSlice i (fun x => x.modTier far f)
def State.modTbl (s : State) (i : Fin 16) (f : Tables → Tables) : State := s.modSlice i (fun x => { x with tbl := f x.tbl })

/-- The slots in which an entry with a key can lie: both bucket pairs of both generations while migrating, and the stash. -/
def Tier.searchSlots (t : Tier) (far wide : Bool) (k : Nat) : List Nat :=
  let h := t.homesAt far t.gen wide k
  let o := t.homesAt far (!t.gen) wide k
  let bs := if t.mig then [h.1, h.2, o.1, o.2] else [h.1, h.2]
  (bs.flatMap (fun b => [4 * b, 4 * b + 1, 4 * b + 2, 4 * b + 3])) ++ (List.range 16).map (· + tierMain far)
/-- Entries of a tier with a key, as slots; an entry fenced by R224 or in a fenced bank reads as absent (R171). -/
def Slice.found (x : Slice) (far wide : Bool) (k : Nat) (p : Entry → Bool) : Option (Nat × Entry) :=
  let t := x.tier far
  ((t.searchSlots far wide k).filterMap (fun n => (t.at n).map (fun e => (n, e)))).find? (fun ne =>
    decide (ne.2.key = k) && (ne.2.wide == wide) && !ne.2.fenced && !x.slotFenced far ne.1 && p ne.2)

/-- An entry is visible to a thread of epoch `e` (R202). -/
def Tables.visible (t : Tables) (e vis : Nat) : Bool :=
  decide (vis = 3) || (decide (vis = 2) && t.newValid && decide (e = t.newEpoch)) ||
  (decide (vis = 1) && (!t.newValid || decide (e ≠ t.newEpoch)))
/-- Visibilities overlap (R203). -/
def visOverlap (a b : Nat) : Bool := decide (a = 3) || decide (b = 3) || decide (a = b)
/-- An entry with this key and visibility in a tier would conflict with one already held (R203); `skip` lists slots that the
change itself replaces. -/
def Slice.conflicts (x : Slice) (far wide : Bool) (k vis : Nat) (skip : List Nat) : Bool :=
  let hits (f : Bool) (p : Nat → Entry → Bool) : Bool :=
    (((x.tier f).searchSlots f wide k).filterMap (fun n => ((x.tier f).at n).map (fun e => (n, e)))).any (fun ne =>
      decide (ne.2.key = k) && (ne.2.wide == wide) && !ne.2.fenced && p ne.1 ne.2)
  hits (!far) (fun _ _ => true) || hits far (fun n e => visOverlap vis e.vis && !skip.contains n)

-- Fences (R171, R217) ----------------------------------------------------------------------------------------------

/-- The Far tier is fenced with its channel, and acts as fenced while its region is not enabled (Table 14.4). -/
def Slice.farFenced (x : Slice) : Bool := x.unitFenced .ddr5 || !bitAt x.dram.far 63
/-- Near counts as fenced only while all 16 of its banks are (R168). -/
def Slice.nearFenced (x : Slice) : Bool := (List.range 16).all (fun b => x.unitFenced (.nearBank b))
/-- A key has a bucket in a fenced Near bank. -/
def Slice.keyFenced (x : Slice) (wide : Bool) (k : Nat) : Bool :=
  ((x.tbl.near.searchSlots false wide k).filter (fun n => decide (n < tierMain false))).any (fun n => x.slotFenced false n)
/-- The sequencer executes commands: STATE is RUNNING (R135). -/
def Slice.seqRuns (x : Slice) : Bool := decide (x.seq.state = .running)

-- Segments (R225, R226) --------------------------------------------------------------------------------------------

def Tier.seg (t : Tier) (n : Nat) : Segment := NMap.get {} t.segs n
def Tier.modSeg (t : Tier) (n : Nat) (f : Segment → Segment) : Tier := { t with segs := NMap.set {} t.segs n (f (t.seg n)) }
/-- A software command changed an entry: EXPECT_VALID of its home segment clears (R226). -/
def Tier.unexpect (t : Tier) (far : Bool) (e : Entry) : Tier :=
  t.modSeg (t.segOf far e) (fun g => { g with valid := false, whole := false })
/-- A relocation marks the home segment as changed for the pass in progress (R226). -/
def Tier.mark (t : Tier) (far : Bool) (e : Entry) : Tier := t.modSeg (t.segOf far e) (fun g => { g with changed := true })

-- Insertion (R206 to R209) -----------------------------------------------------------------------------------------

/-- Places of a bucket for an entry of a width: slots, or the first slots of pairs. -/
def bucketPlaces (wide : Bool) (b : Nat) : List Nat := if wide then [4 * b, 4 * b + 2] else [4 * b, 4 * b + 1, 4 * b + 2, 4 * b + 3]
/-- A usable free place (R206). -/
def Slice.usable (x : Slice) (far wide : Bool) (p : Nat) : Bool :=
  let t := x.tier far
  t.isFree p && (!wide || t.isFree (p + 1)) && !x.slotFenced far p
/-- The slots that next_victim scans, from the pointer's position (R206). -/
def victimOrder (wide : Bool) (b ptr : Nat) : List Nat :=
  if wide then (List.range 2).map (fun k => 4 * b + 2 * ((ptr / 2 + k) % 2))
  else (List.range 4).map (fun k => 4 * b + (ptr + k) % 4)
/-- next_victim: the first slot or pair of bucket `b` that a path may take over. -/
def Slice.nextVictim (x : Slice) (far wide : Bool) (b : Nat) (path : List (Entry × Nat)) : Option (Nat × Entry) :=
  let t := x.tier far
  ((victimOrder wide b t.ptr).filterMap (fun n => (t.at n).map (fun e => (n, e)))).find? (fun ne =>
    (ne.2.wide == wide) && !ne.2.fenced && !x.slotFenced far ne.1 && !path.any (fun q => decide (q.2 = ne.1)))

/-- What the path search finds: the path, first item first, the last displaced entry, its place and whether in the stash. -/
structure Path where
  items : List (Entry × Nat)
  last  : Entry
  place : Option (Nat × Bool)

/-- The path search of `insert`; `n` counts the moves left.  The pointer advances with every victim. -/
def searchPath (far useStash : Bool) : Nat → List (Entry × Nat) → Entry → Option Nat → Slice → Path × Slice
  | fuel, path, cur, avoid, x =>
    let t := x.tier far
    let h := t.homesAt far t.gen cur.wide cur.key
    let stash : Option (Nat × Bool) :=
      if useStash then
        (((List.range 16).map (· + tierMain far)).find?
          (fun p => (!cur.wide || decide (p % 2 = 0)) && x.usable far cur.wide p)).map (fun p => (p, true))
      else none
    match ([h.1, h.2].flatMap (fun b => if avoid = some b then [] else bucketPlaces cur.wide b)).find?
        (fun p => x.usable far cur.wide p) with
    | some p => ({ items := path, last := cur, place := some (p, false) }, x)
    | none =>
      match fuel with
      | 0 => ({ items := path, last := cur, place := stash }, x)
      | n + 1 =>
        let b := if avoid = some h.1 then h.2 else h.1
        match x.nextVictim far cur.wide b path with
        | none => ({ items := path, last := cur, place := stash }, x)
        | some (p, e) =>
          searchPath far useStash n (path ++ [(cur, p)]) e (some b) (x.modTier far (fun t => { t with ptr := (t.ptr + 1) % 4 }))

/-- apply: every entry of the path takes its new place, under the current seeds; moved entries mark their segments (R226). -/
def applyPath (far : Bool) (path : Path) (p : Nat) (t : Tier) : Tier :=
  let moved := (path.items.drop 1).map (·.1) ++ (if path.items.isEmpty then [] else [path.last])
  let t1 := path.items.foldl (fun a q => a.put q.2 none) t
  let t2 := path.items.foldl (fun a q => a.put q.2 (some { q.1 with gen := t.gen })) t1
  let t3 := t2.put p (some { path.last with gen := t.gen })
  moved.foldl (fun a e => a.mark far { e with gen := t.gen }) t3

/-- What `insert` did: placed or not, in the stash or not, the path's length, the entry's own slot. -/
structure Placed where
  ok    : Bool
  stash : Bool
  moves : Nat
  slot  : Nat
  /-- Stash slot taken. -/
  last  : Nat

/-- One access of a slot by a requester; a main slot of Far is half a burst of its region. -/
def slotAccess (i : Fin 16) (req : Nat) (far write : Bool) (n : Nat) (s : State) : State :=
  if tierMain far ≤ n then s
  else
    let s1 := tblAccess i req n s
    let a := regionAddr (s1.dram i).far (32 * n / 64 * 64)
    if far then (if write then dramWrite i req a 1 s1 else dramRead i req a 1 s1) else s1
/-- insert after the conflict check, for a requester: the entry is placed, each slot of its path written, or nothing is written. -/
def place (i : Fin 16) (req : Nat) (far useStash : Bool) (e : Entry) (s : State) : Placed × State :=
  let r := searchPath far useStash 32 [] e none (s.slice i)
  let s0 := s.modSlice i (fun _ => r.2)
  let s1 := match r.1.place with
    | none => s0
    | some (p, _) => (p :: (r.1.items.map (·.2)).reverse).foldl (fun a n => slotAccess i req far true n a) s0
  match r.1.place with
  | none => ({ ok := false, stash := false, moves := 0, slot := 0, last := 0 }, s1)
  | some (p, st) =>
    ({ ok := true, stash := st, moves := r.1.items.length, last := p,
       slot := match r.1.items with
         | [] => p
         | q :: _ => q.2 },
     s1.modTier i far (fun t => applyPath far r.1 p t))

-- Errors of the arrays (R224, R356) --------------------------------------------------------------------------------

/-- An array read of an entry that met an error (R224): `double` fences it, a single-bit error is counted and put down for
write-back. -/
def entryEcc (i : Fin 16) (far : Bool) (n : Nat) (double : Bool) (s : State) : State :=
  match ((s.slice i).tier far).at n with
  | none => s
  | some e =>
    if double then
      let s1 := s.modTier i far (fun t => t.put n (some { e with fenced := true }))
      let s2 := (s1.count i Reg.TBL_COUNT0 47 32).setReg i Reg.TBL_FAULT (pack [(63, 62, 1), (61, 60, b2n far), (20, 0, n)])
      raiseEvent i.val 0x300 (2 ^ 31 * b2n far + n) false s2
    else (s.count i Reg.TBL_COUNT0 63 48).modTbl i (fun t => { t with fixes := t.fixes ++ [(far, n)] })
/-- A Session Record with a double-bit error is not present until it is rewritten (R224). -/
def recordEcc (i : Fin 16) (bank n : Nat) (double : Bool) (s : State) : State :=
  if double then
    let s1 := s.modTbl i (fun t => { t with badRecs := NMap.set false t.badRecs (131072 * bank + n) true })
    let s2 := (s1.count i Reg.TBL_COUNT0 47 32).setReg i Reg.TBL_FAULT (pack [(63, 62, 3), (61, 60, 2), (20, 0, n)])
    raiseEvent i.val 0x301 n false s2
  else s.count i Reg.TBL_COUNT0 63 48
/-- The channel's own account of an ECC error in a Far slot (R356). -/
def dramEccFar (i : Fin 16) (far : Bool) (n err : Nat) (s : State) : State :=
  if far && decide (n < tierMain far) then dramEcc i (regionAddr (s.dram i).far (32 * n)) err s else s
/-- The ECC error that a read of slot `n` met: 0 none, 1 corrected, 2 not correctable. -/
def slotEcc (i : Fin 16) (far : Bool) (err n : Nat) (s : State) : State :=
  if err = 0 then s else dramEccFar i far n err (entryEcc i far n (decide (err = 2)) s)

/-- A search that finds nothing meets an ECC error: in which of the entries that it reads is open, and the free choice falls on one of
them (R224, R356, log 126). -/
def searchEcc (i : Fin 16) (far wide : Bool) (key err : Nat) (s : State) : State :=
  let t := (s.slice i).tier far
  let held := ((t.searchSlots far wide key).filterMap (fun n => (t.holder n).map (·.1))).eraseDups
  if err = 0 then s
  else match held[s.draw.1 % max 1 held.length]? with
    | some n => slotEcc i far err n s.draw.2
    | none => dramEccFar i far (4 * (t.homesAt far t.gen wide key).1) err s.draw.2

-- The registers and commands (R214 to R217) ------------------------------------------------------------------------

/-- The key in TBL_KEY0 to TBL_KEY4. -/
def State.tblKey (s : State) (i : Fin 16) (wide : Bool) : Nat :=
  sumNat ((List.range (keyWords wide)).map (fun k => (s.reg i (Reg.TBL_KEY + 8 * k)).toNat * 2 ^ (64 * k)))
/-- The control bits of an entry as TBL_RES1 shows them (Table 07.2). -/
def Entry.control (e : Entry) : Word :=
  pack [(63, 63, 1), (62, 62, b2n e.fenced), (61, 61, b2n e.wide), (60, 60, b2n e.lrn), (59, 59, b2n e.hit), (58, 58, b2n e.old),
        (57, 57, b2n e.gen), (56, 56, b2n e.pass), (55, 54, e.vis)]
/-- TBL_KEY0 to TBL_KEY4 set from a number. -/
def setKeys (i : Fin 16) (n k : Nat) (s : State) : State :=
  (List.range n).foldl (fun a j => a.setReg i (Reg.TBL_KEY + 8 * j) (word (k / 2 ^ (64 * j)))) s
/-- LOC_STASH, LOC_TIER and LOC_SLOT. -/
def setLoc (i : Fin 16) (far : Bool) (n : Nat) (s : State) : State :=
  s.modTbl i (fun t => { t with locStash := decide (tierMain far ≤ n), locFar := far, locSlot := n })

/-- The Folio unit accepts writes to staging (R340). -/
def State.inStaging (s : State) : Bool := decide (s.fol.state = .staging)

/-- INSERT (R215, R206 to R209); `err` is the ECC error that its conflict check meets. -/
def tblInsert (i : Fin 16) (far wide : Bool) (vis err : Nat) (s0 : State) : CmdStatus × State :=
  let k := s0.tblKey i wide
  let s := searchEcc i far wide k err s0
  let x := s.slice i
  if x.conflicts far wide k vis [] then (.alreadyPresent, s.modTbl i (fun t => { t with moves := 0 }))
  else
    let t := x.tier far
    let e : Entry := { key := k, wide := wide, result := s.reg i Reg.TBL_RES0, vis := vis, gen := t.gen, pass := t.parity }
    let r := place i 2 far true e s
    if r.1.ok then
      let s1 := r.2.modTier i far (fun t => t.unexpect far e)
      let s2 := setLoc i far r.1.slot (s1.modTbl i (fun t => { t with moves := r.1.moves }))
      if r.1.stash then (.fullRehash, raiseEvent i.val 0x303 (2 ^ 31 * b2n far + r.1.last) false s2) else (.ok, s2)
    else (.stateRefused, s)

/-- The entry of a tier with a key and exactly this visibility; a fenced one does not match (R224). -/
def State.exact (s : State) (i : Fin 16) (far wide : Bool) (vis : Nat) : Option (Nat × Entry) :=
  (s.slice i).found far wide (s.tblKey i wide) (fun e => decide (e.vis = vis))
/-- DELETE: a stalled migration of the tier resumes after it (R205); `err` is the ECC error that its search meets (R224). -/
def tblDelete (i : Fin 16) (far wide : Bool) (vis err : Nat) (s0 : State) : CmdStatus × State :=
  match s0.exact i far wide vis with
  | none => (.notFound, searchEcc i far wide (s0.tblKey i wide) err s0)
  | some (n, e) =>
    let s2 := slotEcc i far err n s0
    if err = 2 then (.notFound, s2) else
    let s := slotAccess i 2 far true n s2
    let s1 := s.modTier i far (fun t => { (t.put n none).unexpect far e with stalled := false })
    (.ok, if (s.slice i).tbl.near.stalled ∨ (s.slice i).tbl.far.stalled then
      setCond i.val 0x304 ((s1.slice i).tbl.near.stalled || (s1.slice i).tbl.far.stalled) 0 s1 else s1)
/-- UPDATE; `err` is the ECC error that its search meets (R224). -/
def tblUpdate (i : Fin 16) (far wide : Bool) (vis err : Nat) (s0 : State) : CmdStatus × State :=
  match s0.exact i far wide vis with
  | none => (.notFound, searchEcc i far wide (s0.tblKey i wide) err s0)
  | some (n, e) =>
    let s2 := slotEcc i far err n s0
    if err = 2 then (.notFound, s2) else
    let s := slotAccess i 2 far true n s2
    (.ok, s.modTier i far (fun t => (t.put n (some { e with result := s.reg i Reg.TBL_RES0 })).unexpect far e))

/-- LOOKUP (R215): VIS = 0 finds any version, the one visible in the active epoch first. -/
def State.lookupAny (s : State) (i : Fin 16) (wide : Bool) (vis : Nat) (far : Bool) : Option (Nat × Entry) :=
  let x := s.slice i
  let k := s.tblKey i wide
  if vis = 0 then
    match x.found far wide k (fun e => x.tbl.visible x.fol.active e.vis) with
    | some r => some r
    | none => x.found far wide k (fun _ => true)
  else x.found far wide k (fun e => decide (e.vis = vis))
/-- `err` is the ECC error of the slot that the search finds, which a double-bit error makes a miss there (R224), or of one that it
reads. -/
def tblLookup (i : Fin 16) (wide : Bool) (vis err : Nat) (s : State) : CmdStatus × State :=
  let hit := fun (far : Bool) (r : Nat × Entry) (s : State) =>
    (CmdStatus.ok, setLoc i far r.1 ((s.setReg i Reg.TBL_RES0 r.2.result).setReg i Reg.TBL_RES1 r.2.control))
  let miss := fun (s : State) =>
    (CmdStatus.notFound, ((s.setReg i Reg.TBL_RES0 0).setReg i Reg.TBL_RES1 0).modTbl i (fun t =>
      { t with locStash := false, locFar := false, locSlot := 0 }))
  let far := fun (err : Nat) (s : State) =>
    if (s.slice i).farFenced then (.fenced, s)
    else match s.lookupAny i wide vis true with
      | some r => if err = 2 then miss (slotEcc i true err r.1 s) else hit true r (slotEcc i true err r.1 s)
      | none => miss (searchEcc i true wide (s.tblKey i wide) err s)
  match s.lookupAny i wide vis false with
  | some r => if err = 2 then far 0 (slotEcc i false err r.1 s) else hit false r (slotEcc i false err r.1 s)
  | none => far err s

/-- Physical bank of a Session Record role: 0 active, 1 previous, 2 staging (R336). -/
def SliceFolio.role (f : SliceFolio) (r : Nat) : Nat := if r = 0 then f.roleA else if r = 1 then f.roleP else f.roleS
/-- A record of a physical bank (R211, R213). -/
def Tables.record (t : Tables) (bank n : Nat) : Nat := NMap.get 0 t.records (131072 * bank + n)
/-- The bank of the role that holds an epoch: the previous one for the previous epoch, otherwise the active one (R335). -/
def SliceFolio.bankOf (f : SliceFolio) (e : Nat) : Nat := if e ≠ f.active ∧ e = f.previous then f.roleP else f.roleA

/-- The physical bank that holds the objects of an epoch; the armed epoch's lie in the staging bank (R335). -/
def State.recordBank (s : State) (f : SliceFolio) (e : Nat) : Nat :=
  if f.armed ∧ !s.fol.rollback ∧ e = f.armedEp ∧ e ≠ f.active then f.roleS else f.bankOf e

/-- READ_SLOT (R215) of a slot whose read met an ECC error `err` (R224). -/
def tblReadSlot (i : Fin 16) (far : Bool) (n err : Nat) (s0 : State) : CmdStatus × State :=
  let s := match ((s0.slice i).tier far).holder n with
    | some (m, _) => slotEcc i far err m s0
    | none => s0
  match ((s.slice i).tier far).holder n with
  | some (_, e) =>
    (.ok, (setKeys i 5 e.key s).setReg i Reg.TBL_RES0 e.result |>.setReg i Reg.TBL_RES1 e.control)
  | none => (.ok, ((setKeys i 5 0 s).setReg i Reg.TBL_RES0 0).setReg i Reg.TBL_RES1 0)
/-- READ_SLOT of a Session Record in a physical bank. -/
def tblReadRecord (i : Fin 16) (bank n err : Nat) (s : State) : CmdStatus × State :=
  let s1 := if err = 0 then s else recordEcc i bank n (decide (err = 2)) s
  (.ok, setKeys i 4 ((s1.slice i).tbl.record bank n) s1)
/-- Reserved bits of a Session Record (Table 07.5): words 0 and 1. -/
def recordReserved : Nat := 0xE0F0000000008000 + 0xFFFFFFFF0000FC00 * 2 ^ 64
/-- The 256 bits of TBL_KEY0 to TBL_KEY3. -/
def State.keyRecord (s : State) (i : Fin 16) : Nat :=
  sumNat ((List.range 4).map (fun k => (s.reg i (Reg.TBL_KEY + 8 * k)).toNat * 2 ^ (64 * k)))

/-- The slots whose entries a WRITE_SLOT replaces. -/
def Tier.replaced (t : Tier) (wide : Bool) (n : Nat) : List Nat :=
  ([n] ++ (if wide then [n + 1] else [])).filterMap (fun k => (t.holder k).map (·.1))
/-- WRITE_SLOT of a tier (R216); `err` is the ECC error that its conflict check meets. -/
def tblWriteSlot (i : Fin 16) (far wide : Bool) (n err : Nat) (s0 : State) : CmdStatus × State :=
  let c := s0.reg i Reg.TBL_RES1
  let s := if bitAt c 63 then searchEcc i far wide (s0.tblKey i wide) err s0 else s0
  let x := s.slice i
  let t := x.tier far
  if bitAt c 63 then
    let k := s.tblKey i wide
    let gone := t.replaced wide n
    if x.conflicts far wide k (fld c 55 54) gone then (.alreadyPresent, s)
    else
      let e : Entry := { key := k, wide := wide, result := s.reg i Reg.TBL_RES0, lrn := bitAt c 60, hit := bitAt c 59,
                         vis := fld c 55 54, gen := t.gen, pass := t.parity }
      let t1 := gone.foldl (fun a m => match t.at m with
        | some o => (a.put m none).unexpect far o
        | none => a) t
      (.ok, s.modTier i far (fun _ => (t1.put n (some e)).unexpect far e))
  else match t.holder n with
    | some (m, o) => (.ok, s.modTier i far (fun t => (t.put m none).unexpect far o))
    | none => (.ok, s)
/-- The BAD_ARG cases of a WRITE_SLOT that writes an entry (R216). -/
def badWriteSlot (i : Fin 16) (far wide : Bool) (n : Nat) (s : State) : Bool :=
  let c := s.reg i Reg.TBL_RES1
  let t := (s.slice i).tier far
  let h := t.homesAt far t.gen wide (s.tblKey i wide)
  bitAt c 63 && ((decide (n < tierMain far) && decide (n / 4 ≠ h.1) && decide (n / 4 ≠ h.2)) || (wide && decide (n % 2 = 1)) ||
    (bitAt c 61 != wide) || decide (fld c 55 54 = 0))

/-- FLUSH_STASH starts (R210). -/
def tblFlush (i : Fin 16) (far : Bool) (s : State) : CmdStatus × State := (.ok, s.modTier i far (fun t => { t with flush := true }))
/-- DIGEST_SET and DIGEST_READ (R215). -/
def tblDigestSet (i : Fin 16) (far : Bool) (n : Nat) (s : State) : CmdStatus × State :=
  (.ok, s.modTier i far (fun t => t.modSeg n (fun g => { g with expect := s.reg i Reg.TBL_RES0, valid := true })))
def tblDigestRead (i : Fin 16) (far : Bool) (n : Nat) (s : State) : CmdStatus × State :=
  let g := ((s.slice i).tier far).seg n
  (.ok, ((s.setReg i Reg.TBL_RES0 g.digest).setReg i Reg.TBL_KEY g.expect).setReg i Reg.TBL_RES1
    (pack [(63, 63, b2n g.wasValid), (62, 62, b2n g.compared), (61, 61, b2n g.mismatch)]))

/-- The array accesses of a search by a requester (Table 18.1): each main slot, and for Far its two 64-byte bursts a bucket
(R199). -/
def searchReads (i : Fin 16) (req : Nat) (far wide : Bool) (key : Nat) (s : State) : State :=
  let slots := (((s.slice i).tier far).searchSlots far wide key).filter (fun n => decide (n < tierMain far))
  let s1 := slots.foldl (fun a n => tblAccess i req n a) s
  if far then ((slots.map (· / 4)).eraseDups).foldl (fun a b => dramRead i req (regionAddr (a.dram i).far (128 * b)) 2 a) s1 else s1
/-- Array accesses of a table command: it searches its key in both tiers, or reaches its slot or record. -/
def commandReads (i : Fin 16) (w : Word) (s : State) : State :=
  let op := fld w 3 0
  let wide := bitAt w 9
  let n := fld w 36 16
  let far := (s.slice i).farReady && !(s.slice i).farFenced
  if op ≤ 4 then
    let s1 := searchReads i 2 false wide (s.tblKey i wide) s
    if far then searchReads i 2 true wide (s.tblKey i wide) s1 else s1
  else if op = 5 ∨ op = 6 then
    if fld w 5 4 = 2 then tblAccess i 2 n s else slotAccess i 2 (decide (fld w 5 4 = 1)) (decide (op = 6)) n s
  else s
/-- What a table command is checked for, in the order of R7 (R215 to R217). -/
def tblChecks (i : Fin 16) (w : Word) (s : State) : List (Bool × CmdStatus) :=
  let op := fld w 3 0
  let tab := fld w 5 4
  let far := decide (tab = 1)
  let wide := bitAt w 9
  let vis := fld w 11 10
  let n := fld w 36 16
  let x := s.slice i
  let t := x.tier far
  let keyed := decide (op ∈ [1, 2, 3, 4]) || (decide (op = 6) && decide (tab ≠ 2) && bitAt (s.reg i Reg.TBL_RES1) 63)
  let versioned := (decide (op ∈ [1, 2, 3]) && decide (vis = 1 ∨ vis = 2)) ||
    (decide (op = 6) && decide (tab ≠ 2) && bitAt (s.reg i Reg.TBL_RES1) 63 && decide (fld (s.reg i Reg.TBL_RES1) 55 54 < 3))
  let bad := decide (op = 0 ∨ 9 < op) || decide (tab = 3) || (decide (tab = 2) && !decide (op ∈ [5, 6])) ||
    (decide (op ∈ [1, 2, 3]) && decide (vis = 0)) ||
    (decide (tab = 2) && decide (op ∈ [5, 6]) && (decide (131072 ≤ n) || decide (fld w 50 49 = 3))) ||
    (decide (tab = 2) && decide (op = 6) && decide (s.keyRecord i &&& recordReserved ≠ 0)) ||
    (decide (tab < 2) && decide (op ∈ [5, 6]) && decide (tierSlots far ≤ n)) ||
    (decide (tab < 2) && decide (op ∈ [8, 9]) && decide (tierSegs far ≤ n)) ||
    (decide (tab < 2) && decide (op = 6) && badWriteSlot i far wide n s)
  let fenced := !x.seqRuns || (far && decide (op ≠ 4) && x.farFenced) ||
    (decide (tab = 0) && decide (op = 1 ∨ op = 6) && x.farFenced) || (keyed && x.keyFenced wide (s.tblKey i wide)) ||
    (decide (tab = 0) && decide (op ∈ [5, 6]) && x.slotFenced false n)
  let refused := (decide (tab = 2) && decide (op = 6) && (!s.inStaging || decide (fld w 50 49 ≠ 2))) ||
    (versioned && !s.inStaging) || (decide (tab < 2) && decide (op = 1 ∨ op = 6) && t.flush) ||
    (decide (op = 7) && (t.flush || t.mig))
  [(bad, .badArg), (fenced, .fenced), (refused, .stateRefused)]
/-- A table command once it can start (R215 to R217); `err` is the ECC error that it meets. -/
def tblBody (i : Fin 16) (w : Word) (err : Nat) (s : State) : CmdStatus × State :=
  let tab := fld w 5 4
  let far := decide (tab = 1)
  let wide := bitAt w 9
  let vis := fld w 11 10
  let n := fld w 36 16
  let f := (s.slice i).fol.settled
  judge (tblChecks i w s) s (fun s0 =>
    let s := commandReads i w s0
    match fld w 3 0 with
    | 1 => tblInsert i far wide vis err s
    | 2 => tblDelete i far wide vis err s
    | 3 => tblUpdate i far wide vis err s
    | 4 => tblLookup i wide vis err s
    | 5 => if tab = 2 then tblReadRecord i (f.role (fld w 50 49)) n err s else tblReadSlot i far n err s
    | 6 => if tab = 2 then
        (.ok, s.modTbl i (fun t => { t with
          records := NMap.set 0 t.records (131072 * f.roleS + n) (s.keyRecord i),
          badRecs := NMap.set false t.badRecs (131072 * f.roleS + n) false }))
      else tblWriteSlot i far wide n err s
    | 7 => tblFlush i far s
    | 8 => tblDigestSet i far n s
    | _ => tblDigestRead i far n s)

def putTbl (i : Fin 16) (c : CmdReg) (s : State) : State := s.modTbl i (fun t => { t with cmd := c })
def refuseTbl (i : Fin 16) (s : State) : State := s.count i Reg.TBL_COUNT1 63 48
/-- A command reaches the Far tier: it names it, it is a LOOKUP that misses in Near, or it places a key in Near, whose conflict
check searches both tiers (R203, log 101). -/
def reachesFar (i : Fin 16) (w : Word) (s : State) : Bool :=
  let op := fld w 3 0
  if op = 4 then (s.lookupAny i (bitAt w 9) (fld w 11 10) false).isNone && !(s.slice i).farFenced
  else decide (fld w 5 4 = 1) ||
    (decide (fld w 5 4 = 0) && (decide (op = 1) || (decide (op = 6) && bitAt (s.reg i Reg.TBL_RES1) 63)) && !(s.slice i).farFenced)
/-- A Far command that would run but whose channel is not READY stays BUSY until it starts or times out (R217). -/
def mustWait (i : Fin 16) (w : Word) (s : State) : Bool :=
  reachesFar i w s && !(s.slice i).farReady && (tblChecks i w s).all (fun c => !c.1)
/-- TBL_CMD written by a requester (R214). -/
def tblCommand (i : Fin 16) (r : Requester) (w : Word) (err : Nat) (s : State) : State :=
  runCommand (s.sliceWriter i r) (fun s => (s.slice i).tbl.cmd) (putTbl i) (refuseTbl i) (fun s =>
    if mustWait i w s then (.busy, s.modTbl i (fun t => { t with waiting := some (w, s.uptime) })) else tblBody i w err s) s
/-- The waiting Far command ends with a status; its effect is that of `f`. -/
def endWaiting (i : Fin 16) (f : Word → State → CmdStatus × State) (s : State) : State :=
  match (s.slice i).tbl.waiting with
  | none => s
  | some (w, _) =>
    let r := f w (s.modTbl i (fun t => { t with waiting := none }))
    let s1 := putTbl i (CmdReg.take r.1) r.2
    if r.1 = .stateRefused then refuseTbl i s1 else s1
/-- TABLE_COMMAND_TIMEOUT (R217): 1 ms has passed and the Far command has not started. -/
def tblTimeout (i : Fin 16) (s : State) : State :=
  match (s.slice i).tbl.waiting with
  | some (_, t) => if t + cyclesMs ≤ s.uptime then endWaiting i (fun _ s => (.timeout, s)) s else s
  | none => s
/-- The channel is fenced: the waiting Far command ends, having changed nothing (R217). -/
def tblFence (i : Fin 16) (s : State) : State := endWaiting i (fun _ s => (.fenced, s)) s
/-- The waiting Far command starts once its channel is READY (R217). -/
def tblStart (i : Fin 16) (s : State) : State := endWaiting i (fun w s => tblBody i w 0 s) s

-- Background work --------------------------------------------------------------------------------------------------

/-- The sequencer's work on a tier can go on: it runs (R135), and the Far tier is there for it (R217, R362). -/
def Slice.tierWorks (x : Slice) (far : Bool) : Bool := x.seqRuns && (!far || (x.farReady && !x.farFenced))

/-- One of the slots `ns` of a tier meets an ECC error as it is read: which one is open (R224, R356, log 126). -/
def someEcc (i : Fin 16) (far : Bool) (ns : List Nat) (err : Nat) (s : State) : State :=
  if err = 0 then s
  else match ns[s.draw.1 % max 1 ns.length]? with
    | some n => slotEcc i far err n s.draw.2
    | none => s
/-- FLUSH_STASH_PASS_END (R210): every stash entry, in slot order, is inserted without the stash and leaves it when placed; `err` is the
ECC error that the pass meets in one of them. -/
def flushPass (i : Fin 16) (far : Bool) (err : Nat) (s0 : State) : State :=
  if ((s0.slice i).tier far).flush && (s0.slice i).tierWorks far then
    let s := someEcc i far (((List.range 16).map (· + tierMain far)).filter (fun n => (((s0.slice i).tier far).at n).isSome)) err s0
    let s1 := (List.range 16).foldl (fun a k =>
      let n := tierMain far + k
      match ((a.slice i).tier far).at n with
      | some e =>
        if e.fenced then a
        else
          let r := place i 1 far false e (searchReads i 1 far e.wide e.key a)
          if r.1.ok then r.2.modTier i far (fun t => (t.put n none).mark far { e with gen := t.gen }) else r.2
      | none => a) s
    s1.modTier i far (fun t => { t with flush := false })
  else s0

/-- A tier takes new seeds and starts its migration (R205, R348). -/
def Tier.migrate (t : Tier) (s0 s1 : Word) : Tier :=
  { t with seed0 := s0, seed1 := s1, old0 := t.seed0, old1 := t.seed1, gen := !t.gen, mig := true, stalled := false }
/-- One entry of the previous generation moves to its place under the new seeds, stash included (R205); a fenced slot, and one of
a fenced bank, keeps its entry (R217, R224). -/
def migrateOne (i : Fin 16) (far : Bool) (n : Nat) (s : State) : State :=
  let t := (s.slice i).tier far
  match t.at n with
  | none => s
  | some e =>
    if t.stalled ∨ e.gen = t.gen ∨ e.fenced ∨ (s.slice i).slotFenced far n then s
    else
      let r := place i 1 far true e ((searchReads i 1 far e.wide e.key (slotAccess i 1 far false n s)).modTier i far (fun t => t.put n none))
      if r.1.ok then slotAccess i 1 far true n r.2
      else r.2.modTier i far (fun t => { t.put n (some e) with stalled := true })
/-- An entry of the previous generation waits for its fenced bank (R217). -/
def Slice.awaitsBank (x : Slice) (far : Bool) : Bool :=
  (x.tier far).slots.any (fun e => match e.2 with
    | some y => (y.gen != (x.tier far).gen) && !y.fenced && x.slotFenced far e.1
    | none => false)
/-- The slots of entries of the previous generation that a migration reads (R205). -/
def Slice.oldSlots (x : Slice) (far : Bool) : List Nat :=
  (x.tier far).slots.filterMap (fun e => match e.2 with
    | some y => if (y.gen != (x.tier far).gen) && !y.fenced && !x.slotFenced far e.1 then some e.1 else none
    | none => none)
/-- MIGRATION_END (R205): every entry of the previous generation has moved, or the migration stalls; `err` is the ECC error that it
meets in one of them. -/
def migrationEnd (i : Fin 16) (far : Bool) (err : Nat) (s0 : State) : State :=
  let t := (s0.slice i).tier far
  if t.mig && !t.stalled && (s0.slice i).tierWorks far then
    let s := someEcc i far ((s0.slice i).oldSlots far) err s0
    let s1 := (t.slots.map (·.1)).foldl (fun a n => migrateOne i far n a) s
    if ((s1.slice i).tier far).stalled then setCond i.val 0x304 true (2 ^ 31 * b2n far) s1
    else if (s1.slice i).awaitsBank far then s1
    else s1.modTier i far (fun t =>
      { t with mig := false, segs := NMap.mapVal {} (fun g => { g with valid := false, whole := false }) t.segs })
  else s0

/-- ECC_WRITEBACK (R224): the oldest corrected single-bit error is written back; the entry's bits do not change. -/
def eccWriteback (i : Fin 16) (s : State) : State :=
  if (s.slice i).seqRuns then s.modTbl i (fun t => { t with fixes := t.fixes.drop 1 }) else s
-- Learning (R218 to R220) ------------------------------------------------------------------------------------------

/-- A learn or aging event (Table 07.11) posted to LEARN_RING. -/
def learnEvent (i : Fin 16) (key : Nat) (result : Word) (code : Nat) (far : Bool) (s : State) : State :=
  let short := fld (s.sliceStamp i).lo 45 14
  postItem i (fld (s.reg i Reg.TBL_CFG) 23 16)
    (.learn (bytesLE 16 key ++ bytesLE 8 result.toNat ++ [byte code, byte (b2n far), 0, 0] ++ bytesLE 4 short)) s
/-- LEARN_REQUEST_PROCESS (R219): the oldest request; while R210 or R217 would refuse the insert it changes nothing.  A request
waits while the sequencer does not run (R135), and while the Far tier cannot be searched (R362, log 101).  `err` is the ECC error that
its search meets. -/
def learnProcess (i : Fin 16) (err : Nat) (s : State) : State :=
  match (s.slice i).tbl.learn with
  | [] => s
  | (k, res) :: rest =>
    let y := s.slice i
    let s0 := s.modTbl i (fun t => { t with learn := rest })
    let far := bitAt (s.reg i Reg.TBL_CFG) 32
    if !y.seqRuns then s
    else if (y.tier far).flush || y.farFenced || y.keyFenced false k then learnEvent i k res 6 far s0
    else if !y.farReady then s
    else
      let s1 := searchEcc i far false k err (searchReads i 1 true false k (searchReads i 1 false false k s0))
      let x := s1.slice i
      let inTier (f : Bool) (l : Bool) := (x.found f false k (fun e => e.lrn == l)).map (fun ne => (f, ne))
      match (inTier false true).orElse (fun _ => inTier true true) with
      | some (f, n, e) =>
        let s2 := (slotAccess i 1 f true n s1).modTier i f (fun t => t.put n (some { e with hit := true, old := false, result := res }))
        if e.result = res then s2 else learnEvent i k res 2 f s2
      | none => match (inTier false false).orElse (fun _ => inTier true false) with
        | some (f, _, e) => learnEvent i k e.result 5 f s1
        | none =>
          let t := x.tier far
          let r := place i 1 far false { key := k, wide := false, result := res, lrn := true, hit := true, gen := t.gen,
                                         pass := t.parity, vis := 3 } s1
          learnEvent i k res (if r.1.ok then 1 else 4) far r.2

-- The sweeper (R221 to R227) ---------------------------------------------------------------------------------------

/-- Sweep period in CCLK cycles; values below 200 ms act as 200 (Table 07.10). -/
def State.sweepPeriod (s : State) (i : Fin 16) : Nat := max 200 (fld (s.reg i Reg.TBL_CFG) 63 48) * cyclesMs
/-- A pass starts: the parity flips, accumulators and marks clear, EXPECT_VALID is noted. -/
def Tier.startPass (t : Tier) : Tier :=
  { t with parity := !t.parity, passing := true, again := false, cursor := 0,
           segs := NMap.mapVal {} (fun g => { g with acc := 0, changed := false, whole := g.valid }) t.segs }
/-- One tier at the start of a period: a pass still running counts an overrun and is followed at once (R221). -/
def sweepStart (i : Fin 16) (far : Bool) (s : State) : State :=
  if ((s.slice i).tier far).passing then
    raiseEvent i.val 0x305 (2 ^ 31 * b2n far) false
      ((s.count i Reg.TBL_COUNT1 15 0).modTier i far (fun t => { t with again := true }))
  else s.modTier i far Tier.startPass
/-- SWEEP_PASS_START (R221). -/
def sweepPassStart (i : Fin 16) (s : State) : State :=
  if (s.slice i).seqRuns && decide ((s.slice i).tbl.sweepAt + s.sweepPeriod i ≤ s.uptime) then
    sweepStart i true (sweepStart i false (s.modTbl i (fun t => { t with sweepAt := s.uptime })))
  else s

/-- entry_hash (R225). -/
def Entry.hash (e : Entry) : Nat :=
  crc64 (crc64 (crcKey (keyWords e.wide) e.key 0) e.result.toNat) (4 * b2n e.wide + e.vis)
/-- The next first slot of an entry at or after the cursor that the pass has not examined, or cannot: one of a fenced bank. -/
def Slice.nextSweep (y : Slice) (far : Bool) : Option (Nat × Entry) :=
  let t := y.tier far
  (t.slots.find? (fun e => decide (t.cursor ≤ e.1) && (match e.2 with
    | some x => (x.pass != t.parity) || y.slotFenced far e.1
    | none => false))).bind (fun e => e.2.map (fun x => (e.1, x)))
/-- What the sweeper makes of an examined entry: kept, or aged out (R222, R223); `hit` is an LKP hit in the same cycle. -/
def Entry.aged (e : Entry) (hit : Bool) : Option Entry :=
  if !e.lrn then some { e with hit := hit }
  else if e.hit then some { e with hit := hit, old := false }
  else if hit then some { e with hit := true, old := false }
  else if !e.old then some { e with old := true }
  else none
/-- SWEEP_ENTRY: one atomic examination of the next entry of a pass; `err` is 0 no error, 1 single-bit, 2 double-bit.  An entry of
a fenced bank is kept (R217), and its home segment counts as changed in this pass; its PASS follows the parity, so that the next pass
finds it. -/
def sweepEntry (i : Fin 16) (far : Bool) (err : Nat) (hit : Bool) (s : State) : State :=
  let t := (s.slice i).tier far
  if t.passing && (s.slice i).tierWorks far then
    match (s.slice i).nextSweep far with
    | none => s
    | some (n, e) =>
      if (s.slice i).slotFenced far n then
        s.modTier i far (fun t => { (t.mark far e).put n (some { e with pass := t.parity }) with cursor := n + 1 })
      else
        let s0 := slotAccess i 1 far false n (s.modTier i far (fun t => { t with cursor := n + 1 }))
        let s1 := if err = 1 then dramEccFar i far n 1 (s0.count i Reg.TBL_COUNT0 63 48) else if err = 2 then dramEccFar i far n 2 (entryEcc i far n true s0) else s0
        let fenced := e.fenced || decide (err = 2)
        let e1 : Entry := { e with pass := t.parity, fenced := fenced }
        if fenced then s1.modTier i far (fun t => t.put n (some e1))
        else
          let acc := if e.lrn then s1 else s1.modTier i far (fun t =>
            t.modSeg (t.segOf far e) (fun g => { g with acc := g.acc + word e.hash }))
          match e1.aged hit with
          | some e2 => acc.modTier i far (fun t => t.put n (some e2))
          | none => learnEvent i e.key e.result 3 far (acc.modTier i far (fun t => t.put n none))
  else s

/-- One segment at the end of a pass (R226, R227). -/
def compareSeg (i : Fin 16) (far : Bool) (n : Nat) (s : State) : State :=
  let t := (s.slice i).tier far
  let g := t.seg n
  let cmp := g.valid && g.whole && !g.changed && !t.mig
  let bad := cmp && decide (g.acc ≠ g.expect)
  let s1 := s.modTier i far (fun t => t.modSeg n (fun g =>
    { g with digest := g.acc, wasValid := g.valid, compared := cmp, mismatch := bad }))
  if bad then
    raiseEvent i.val 0x302 (2 ^ 31 * b2n far + n) false
      ((s1.count i Reg.TBL_COUNT0 31 16).setReg i Reg.TBL_FAULT (pack [(63, 62, 2), (61, 60, b2n far), (20, 0, n)]))
  else if cmp then s1 else s1.count i Reg.TBL_COUNT0 15 0
/-- SWEEP_PASS_END (R226): every segment is compared or counted as skipped. -/
def sweepPassEnd (i : Fin 16) (far : Bool) (s : State) : State :=
  let t := (s.slice i).tier far
  if t.passing && (s.slice i).tierWorks far && ((s.slice i).nextSweep far).isNone then
    let s1 := (t.segs.map (·.1)).foldl (fun a n => compareSeg i far n a) s
    -- segments whose state is the reset one are not listed: each counts as skipped and has digest 0
    let s2 := s1.modSlice i (fun x => x.count Reg.TBL_COUNT0 15 0 (tierSegs far - t.segs.length))
    s2.modTier i far (fun t => if t.again then Tier.startPass t else { t with passing := false })
  else s

-- Lookups by threads (R170 to R172) --------------------------------------------------------------------------------

/-- TBL_STATUS and TBL_OCC as they read. -/
def Tables.status (t : Tables) : Word :=
  pack ([(63, 63, b2n t.far.mig), (62, 62, b2n t.near.mig), (61, 61, b2n t.far.flush), (60, 60, b2n t.near.flush),
         (57, 57, b2n t.locStash), (56, 56, b2n t.locFar), (52, 32, t.locSlot), (21, 16, t.moves)] ++ t.cmd.fields)
/-- Slots of a tier in use in a range; a wide entry uses two. -/
def Tier.used (t : Tier) (lo hi : Nat) : Nat :=
  sumNat (t.slots.map (fun e => match e.2 with
    | some x => if lo ≤ e.1 ∧ e.1 < hi then 1 + b2n x.wide else 0
    | none => 0))
def Tables.occ (t : Tables) : Word :=
  pack [(57, 53, t.far.used (tierMain true) (tierSlots true)), (52, 32, t.far.used 0 (tierMain true)),
        (23, 19, t.near.used (tierMain false) (tierSlots false)), (18, 0, t.near.used 0 (tierMain false))]
/-- TBL_VIS as it reads. -/
def Tables.visWord (t : Tables) : Word := pack [(16, 16, b2n t.newValid), (15, 0, t.newEpoch)]
/-- An exact-match entry as a staging opening leaves it (R341): `gone` is the visibility that is deleted, the other becomes BOTH. -/
def Entry.retired (gone : Nat) (e : Entry) : Option Entry :=
  if e.fenced then some e else if e.vis = gone then none else some { e with vis := 3 }
def Tier.retire (gone : Nat) (t : Tier) : Tier := { t with slots := NMap.mapVal none (fun e => e.bind (Entry.retired gone)) t.slots }
/-- The slots that a retirement writes. -/
def Tier.retiring (t : Tier) : List Nat :=
  t.slots.filterMap (fun e => match e.2 with
    | some x => if !x.fenced && decide (x.vis ≠ 3) then some e.1 else none
    | none => none)
/-- The sequencer retires the entries of a tier. -/
def retireTier (i : Fin 16) (far : Bool) (gone : Nat) (s : State) : State :=
  (((s.slice i).tier far).retiring.foldl (fun a n => slotAccess i 1 far true n a) s).modTier i far (fun t => t.retire gone)
/-- The retirements of Far that waited for the channel are made, in order (R341, R362). -/
def retireFar (i : Fin 16) (s : State) : State :=
  ((s.slice i).tbl.farDue.foldl (fun a g => retireTier i true g a) s).modTbl i (fun t => { t with farDue := [] })
/-- The Far tier after a fenced channel returns: no entries, no expected digests (R217). -/
def Tier.emptied (t : Tier) : Tier :=
  { t with slots := [], mig := false, stalled := false, flush := false,
           segs := NMap.mapVal {} (fun g => { g with valid := false, whole := false }) t.segs }

end Sys2Proof.Machine
end

