-- ==== Sys2Proof/Machine/Dram.lean ====
section
/-!
DEFINITION. The DDR5 channel of a slice and the replay archive ("DDR5 Channels, Regions and Replay Archive"): states,
training, address mapping, open rows, regions, archive groups and slots.
-/
namespace Sys2Proof.Machine
open Sys2Proof

-- Channel states (Table 14.2) --------------------------------------------------------------------------------------

def DramState.code : DramState → Nat
  | .off => 0 | .training => 1 | .ready => 2 | .selfRefresh => 3 | .failed => 4 | .fenced => 5
/-- What a pin that the device does not drive as DDR5 asks holds: RESET_N low, every other output at high impedance. -/
inductive PinHeld where
  | low | highZ
  deriving DecidableEq, Repr
/-- The DDR5 outputs while the core domain is in reset or OFF (R491): `reset` selects RESET_N.  None: the pin follows the channel. -/
def State.ddrPin (s : State) (reset : Bool) : Option PinHeld :=
  if s.up then none else if reset then some .low else some .highZ
/-- Training starts: rows closed, EYE_MIN as it stands now (R377). -/
def startTraining (i : Fin 16) (s : State) : State :=
  s.modDram i (fun d => { d with state := .training, draining := false, relocking := false, banks := [], down := [],
                                 eyeMin := fld (s.reg i Reg.DRM_CFG) 7 0 })
/-- Geometry, regions and masks taken (R368, R371); the Copybook ring's free space follows the CPB region's size. -/
def takeRegions (i : Fin 16) (g : Word) (s : State) : State :=
  let n := regionBytes (s.reg i Reg.DRM_REGION_CPB)
  (s.modDram i (fun d => { d with
      geom := g, far := s.reg i Reg.DRM_REGION_FAR, cpb := s.reg i Reg.DRM_REGION_CPB, rpl := s.reg i Reg.DRM_REGION_RPL,
      scr := s.reg i Reg.DRM_REGION_SCR,
      xors := (List.range 7).foldl (fun m k => NMap.set 0 m k (s.drmXor i k)) [] })).modCpb i (fun c =>
    { c with free := n - (c.region - c.free), region := n })
/-- The channel goes to FAILED, which is the condition of DRM_TRAIN_FAIL. -/
def channelFailed (i : Fin 16) (syn : Nat) (s : State) : State :=
  setCond i.val 0x800 true syn (s.modDram i (fun d => { d with state := .failed }))
/-- INIT (R355, R358) of a module whose SPD gives `spd`; training needs the sequencer (R135). -/
def drmInit (i : Fin 16) (speed : Nat) (spd : Option Word) (s : State) : CmdStatus × State :=
  let d := s.dram i
  let g := spd.getD 0
  let f := s.reg i Reg.DRM_REGION_FAR
  let c := s.reg i Reg.DRM_REGION_CPB
  let r := s.reg i Reg.DRM_REGION_RPL
  let x := s.reg i Reg.DRM_REGION_SCR
  let ok := geomSupported g
  judge [(decide (speed = 3) || !regionsOk f c r x, .badArg),
         (ok && !((List.range 7).all (fun k => maskLegal g k (s.drmXor i k))), .badArg),
         (ok && !(regionFits g f && regionFits g c && regionFits g r && regionFits g x), .badArg),
         (!(s.slice i).seqRuns, .fenced),
         (decide (d.state ≠ .off ∧ d.state ≠ .failed), .stateRefused)] s (fun s =>
    if ok then
      let s1 := takeRegions i g s
      (.ok, startTraining i (setCond i.val 0x800 false 0
        (s1.modDram i (fun d => { d with spd := spd, speed := speed, freqPending := false, retrain := false }))))
    else (.ok, channelFailed i 0 (s.modDram i (fun d => { d with spd := spd, geom := g, speed := speed }))))
/-- An operation that the channel serves: an EM search that may reach Far, an RPLY. -/
def AsyncOp.reachesDram : AsyncOp → Bool
  | .lkpEm tier _ _ _ _ => decide (tier ≠ 1)
  | .rply .. => true
  | _ => false
/-- The operations of a slice, as (thread, tag), that the channel may still have to serve. -/
def State.dramQueue (s : State) (i : Fin 16) : List (Nat × Nat) :=
  let x := s.slice i
  (x.orphans.filter (fun o => o.op.reachesDram)).map (fun o => (o.thread, o.tag)) ++
  x.threads.flatMap (fun e => (e.2.ops.filter (fun o => o.2.reachesDram)).map (fun o => (e.1, o.1)))
/-- A speed change begins in READY: no request is taken any more, what is queued completes first (R360). -/
def startDrain (i : Fin 16) (s : State) : State :=
  s.modDram i (fun d => { d with draining := true, queued := s.dramQueue i })
/-- SET_SPEED (R360, Table 14.2); the sequencer runs every change of speed (R135). -/
def drmSetSpeed (i : Fin 16) (speed : Nat) (s : State) : CmdStatus × State :=
  let d := s.dram i
  let pend := fun (s : State) => s.modDram i (fun d => { d with freqPending := true, pendSpeed := speed })
  judge [(decide (speed = 3), .badArg), (!(s.slice i).seqRuns, .fenced)] s (fun s =>
    match d.state with
    | .training => (.ok, pend s)
    | .selfRefresh => (.ok, pend s)
    | .ready =>
      if d.draining then (.ok, pend s)
      else if speed = d.speed then (.ok, s)
      else (.ok, startDrain i (pend s))
    | _ => (.stateRefused, s))

def putDrm (i : Fin 16) (c : CmdReg) (s : State) : State := s.modDram i (fun d => { d with cmd := c })
def refuseDrm (i : Fin 16) (s : State) : State := s.count i Reg.DRM_COUNT0 15 0
/-- DRM_CMD written by a requester (R377); `spd`, the geometry that INIT reads from the module. -/
def drmCommand (i : Fin 16) (r : Requester) (w : Word) (spd : Option Word) (s : State) : State :=
  runCommand (s.sliceWriter i r) (fun s => (s.dram i).cmd) (putDrm i) (refuseDrm i)
    (fun s => match fld w 3 0 with
      | 1 => drmInit i (fld w 9 8) spd s
      | 2 => drmSetSpeed i (fld w 9 8) s
      | _ => (.badArg, s)) s

/-- The PHY relocks in self-refresh. -/
def relock (i : Fin 16) (s : State) : State :=
  s.modDram i (fun d => { d with state := .selfRefresh, draining := false, queued := [], relocking := true, banks := [], down := [] })

/-- The channel is READY: retirements and a table command that waited for it go on, and the records held are written (R217, R341, R362). -/
def channelReady (i : Fin 16) (s : State) : State :=
  tblStart i (flushReady i (retireFar i (s.modDram i (fun d => { d with state := .ready }))))

-- Training (R359) --------------------------------------------------------------------------------------------------

/-- The longest run of ones among the taps of a bit map, from tap `t` on: (start, length); the first of equal runs. -/
def longestRun (m : BitVec 128) : Nat → Nat → Nat × Nat → Nat × Nat
  | 0, _, best => best
  | n + 1, run, best =>
    let t := 127 - n
    let run1 := if m.getLsbD t then run + 1 else 0
    longestRun m n run1 (if best.2 < run1 then (t + 1 - run1, run1) else best)
/-- The centre of the longest run, the lower centre of an even one, and its length. -/
def runCentre (m : BitVec 128) : Nat × Nat :=
  let r := longestRun m 128 0 (0, 0)
  (r.1 + (r.2 - 1) / 2, r.2)
/-- DRM_TRAIN of one lane and rank: (EYE, WR_CENTRE, RD_CENTRE). -/
def setTrain (i : Fin 16) (lane rank eye wr rd : Nat) (s : State) : State :=
  let o := Reg.DRM_TRAIN + 8 * lane
  s.setReg i o (setFld (s.reg i o) (32 * rank + 31) (32 * rank) (eye * 65536 + wr * 256 + rd))
def State.trainField (s : State) (i : Fin 16) (lane rank hi lo : Nat) : Nat :=
  fld (s.reg i (Reg.DRM_TRAIN + 8 * lane)) (32 * rank + hi) (32 * rank + lo)
/-- One lane of one rank trained from its passing taps; an empty run's centre is open (log 2).  True when the eye passes. -/
def trainLane (i : Fin 16) (lane rank : Nat) (rd wr : BitVec 128) (s : State) : Bool × State :=
  let a := runCentre rd
  let b := runCentre wr
  let f := s.draw
  let g := f.2.draw
  let rdC := if a.2 = 0 then f.1 % 128 else a.1
  let wrC := if b.2 = 0 then g.1 % 128 else b.1
  let eye := min a.2 b.2
  if eye < (s.dram i).eyeMin then
    (false, s.modDram i (fun d => { d with failLane := lane, failRank := rank }))
  else
    let s0 := if a.2 = 0 ∨ b.2 = 0 then g.2 else s
    (true, (setTrain i lane rank eye wrC rdC s0).modDram i (fun d => { d with
      trained := NMap.set 0 (NMap.set 0 d.trained (2 * lane + rank) rdC) (32 + 2 * lane + rank) wrC }))
/-- Lanes and ranks in the order of the sweep until one fails. -/
def trainAll (i : Fin 16) (rd wr : List (BitVec 128)) : List (Nat × Nat) → State → Bool × State
  | [], s => (true, s)
  | (rank, lane) :: rest, s =>
    let r := trainLane i lane rank (rd[10 * rank + lane]?.getD 0) (wr[10 * rank + lane]?.getD 0) s
    if r.1 then trainAll i rd wr rest r.2 else r
/-- TRAIN_SWEEP_DONE: the passing taps of every lane, ten per rank (R359, Table 14.2).  A lane that fails ends the sweep in FAILED; with
a speed pending the results of a sweep that passes are discarded. -/
def trainDone (i : Fin 16) (rd wr : List (BitVec 128)) (s : State) : State :=
  let d := s.dram i
  if d.state = .training ∧ (s.slice i).seqRuns then
    let lanes := (List.range (geomK d.geom + 1)).flatMap (fun r => (List.range 10).map (fun l => (r, l)))
    let r := trainAll i rd wr lanes s
    if r.1 then
      if d.freqPending then relock i s
      else channelReady i ((setCond i.val 0x800 false 0 r.2).count i Reg.DRM_COUNT1 15 0)
    else channelFailed i ((r.2.dram i).failRank * 16 + (r.2.dram i).failLane) r.2
  else s
/-- A tap moved by at most one toward a centre. -/
def towardTap (t c : Nat) : Nat := if t < c then t + 1 else if c < t then t - 1 else t
/-- DRAM_TRACKING_STEP (R363): the measured read and write centres of the ten lanes of a rank, which leaves power-down for it; it is no
access, so the idle time of the rank runs on (R369). -/
def trackingStep (i : Fin 16) (rank : Nat) (centres : List (Nat × Nat)) (s : State) : State :=
  if (s.slice i).farReady ∧ rank ≤ geomK (s.dram i).geom then
    (List.range 10).foldl (fun a l =>
      let c := centres[l]?.getD (a.trainField i l rank 7 0, a.trainField i l rank 15 8)
      let rd := towardTap (a.trainField i l rank 7 0) (c.1 % 128)
      let wr := towardTap (a.trainField i l rank 15 8) (c.2 % 128)
      let b := setTrain i l rank (a.trainField i l rank 23 16) wr rd a
      let moved := fun (k x : Nat) => decide (8 ≤ ((x : Int) - ((NMap.get 0 (a.dram i).trained (k + 2 * l + rank) : Nat) : Int)).natAbs)
      if moved 0 (c.1 % 128) || moved 32 (c.2 % 128) then raiseEvent i.val 0x802 (16 * rank + l) false b else b)
      (s.modDram i (fun d => { d with down := NMap.set false d.down rank false }))
  else s
/-- DRAM_REFRESH (R354, R359, R364), which the sequencer orchestrates (R135): all banks of a rank in training, otherwise the same
bank of each group.  `retries`: how often the RCD had the controller's commands repeated since the last refresh (R377, log 102). -/
def dramRefresh (i : Fin 16) (rank bank retries : Nat) (s : State) : State :=
  let d := s.dram i
  if (d.state = .training ∨ d.state = .ready) ∧ rank ≤ geomK d.geom ∧ (s.slice i).seqRuns then
    (s.modSlice i (fun x => x.count Reg.DRM_COUNT0 31 16 retries)).modDram i (fun d => { d with
      refreshes := NMap.set 0 d.refreshes rank (NMap.get 0 d.refreshes rank + 1),
      down := NMap.set false d.down rank false,
      banks := NMap.mapKey {} (fun k b => if k / 64 = rank ∧ (d.state = .training ∨ k % 32 / 8 = bank % 4) then { b with row := none } else b) d.banks })
  else s
/-- MCLK cycles (1.6 GHz, Table 01.14) in a number of CCLK cycles. -/
def mclk (c : Nat) : Nat := c * 16 / 15
/-- ROW_CLOSE_IDLE (R364). -/
def rowClose (i : Fin 16) (rank bank : Nat) (s : State) : State :=
  let b := NMap.get {} (s.dram i).banks (bankKey rank bank)
  if (s.dram i).state = .ready ∧ b.row.isSome ∧ fld (s.reg i Reg.DRM_CFG) 63 48 ≤ mclk (s.uptime - b.last) then
    s.modDram i (fun d => { d with banks := NMap.set {} d.banks (bankKey rank bank) { b with row := none } })
  else s
/-- RANK_POWER_DOWN (R369). -/
def rankPowerDown (i : Fin 16) (rank : Nat) (s : State) : State :=
  let d := s.dram i
  let n := fld (s.reg i Reg.DRM_CFG) 47 32
  if d.state = .ready ∧ n ≠ 0 ∧ rank ≤ geomK d.geom ∧ n ≤ mclk (s.uptime - NMap.get 0 d.ranks rank) then
    s.modDram i (fun d => { d with down := NMap.set false d.down rank true })
  else s

-- Fence (R217, R329, Table 17.4) -----------------------------------------------------------------------------------

/-- The slot writes under way are lost; their REPLAY buffers are free again. -/
def writesLost (i : Fin 16) (s : State) : State :=
  (s.dram i).writes.foldl (fun a w => match w.buf with
    | some p => (freePtr i p 0x300 a).1
    | none => a) (s.modDram i (fun d => { d with writes := [] }))
/-- The fault unit fences the channel: blocks not drained are lost, the archive is emptied (R378).  A speed change that waits
is not among what the fence changes (Table 14.2). -/
def dramFence (i : Fin 16) (s : State) : State :=
  cpbFence i (setCond i.val 0x800 false 0 ((writesLost i s).modDram i (fun d => { d with
    state := .fenced, draining := false, queued := [], relocking := false, slots := [], banks := [], down := [] })))
/-- The fence ends: TRAINING, everything read again, every region empty, a new Copybook run. -/
def dramLift (i : Fin 16) (s : State) : State :=
  let g := (s.dram i).spd.getD 0
  let s1 := takeRegions i g s
  let s2 := newRun i s1
  let s3 := s2.modDram i (fun d => { d with scratch := [], slots := [], retrain := false })
  let s4 := s3.modSlice i (fun x => { x with tbl := { x.tbl with far := x.tbl.far.emptied, farDue := [] } })
  startTraining i (setCond i.val 0x304 ((s4.slice i).tbl.near.stalled || (s4.slice i).tbl.far.stalled) 0 s4)

-- Replay archive (R372 to R376) ------------------------------------------------------------------------------------

def State.rplGroup0 (s : State) (i : Fin 16) (g : Nat) : Word := s.reg i (Reg.RPL_GROUP0 + 8 * g)
def State.rplGroup1 (s : State) (i : Fin 16) (g : Nat) : Word := s.reg i (Reg.RPL_GROUP1 + 8 * g)
/-- Bytes of a slot. -/
def slotBytes (w0 : Word) : Nat := match fld w0 62 61 with
  | 0 => 256 | 1 => 512 | 2 => 2048 | _ => 10240
def groupSlots (w1 : Word) : Nat := fld w1 55 32
/-- First byte in the region, and bytes, of a group's slots. -/
def groupSpan (w0 w1 : Word) : Nat × Nat := (fld w1 20 0 * 65536, groupSlots w1 * slotBytes w0)
def slotKey (g n : Nat) : Nat := 16777216 * g + n
/-- The groups that archive copies of a kind (0 multicast, 1 Equinox) and target. -/
def State.archGroups (s : State) (i : Fin 16) (kind id : Nat) : List Nat :=
  (List.range 256).filter (fun g =>
    let w := s.rplGroup0 i g
    bitAt w 63 && decide (fld w 60 60 = kind) && decide (fld w 47 32 = id))
/-- A slot write begins: a REPLAY buffer is taken, or the slot is to be written with VALID = 0 (R374). -/
def archiveStore (i : Fin 16) (g n : Nat) (frame : Nat) (edits : List Edit) (capture : Stamp) (len : Nat) (s : State) : State :=
  let w0 := s.rplGroup0 i g
  let key := slotKey g (n % groupSlots (s.rplGroup1 i g))
  if !(s.slice i).farReady then s.count i Reg.RPL_COUNT0 31 16
  else
    let tooBig := decide (slotBytes w0 - 16 < len)
    let a : Option Nat × State := if tooBig then (none, s) else allocPool i len 0x300 s
    let s1 := match a.1 with
      | some _ => a.2
      | none => a.2.count i Reg.RPL_COUNT0 31 16
    s1.modDram i (fun d => { d with writes := d.writes ++
      [{ key := key, seq := n, frame := frame, edits := edits, capture := capture, buf := a.1 }] })
/-- ARCHIVE_NUMBERING (R373): a handed-on copy takes the next number of each group that archives its target. -/
def archiveCopy (i : Fin 16) (kind id : Nat) (frame : Nat) (edits : List Edit) (capture : Stamp) (len : Nat) (s : State) : State :=
  (s.archGroups i kind id).foldl (fun a g =>
    let n := NMap.get 0 (a.dram i).nextSeq g
    archiveStore i g n frame edits capture len
      (a.modDram i (fun d => { d with nextSeq := NMap.set 0 d.nextSeq g ((n + 1) % 2 ^ 32) }))) s
/-- The archived bytes: edits applied, INS_TX and CORR left unapplied (R372); none when an edit fails. -/
def archivedBytes (s : State) (w : ArchWrite) : Option (List Byte) :=
  let f := s.frame w.frame
  let es := w.edits.filter (fun e => match e with
    | .stampTx _ _ _ => false
    | .corr _ _ => false
    | _ => true)
  match editedFrame 0 es (f.bytes.take (f.bytes.length - 4)) with
  | .ok b => if f.bad || !f.done then none else some b.bytes
  | _ => none
/-- ARCHIVE_SLOT_WRITTEN (R374, R375): the oldest slot write completes and its buffer is freed.  A write begun before a speed
change is still made while the queues drain (R360). -/
def archiveWritten (i : Fin 16) (s : State) : State :=
  match (s.dram i).writes with
  | [] => s
  | w :: rest =>
    if (s.frame w.frame).done || w.buf.isNone then
      let g := w.key / 16777216
      let s1 := s.modDram i (fun d => { d with writes := rest })
      let s2 := match w.buf with
        | some p => (freePtr i p 0x300 s1).1
        | none => s1
      if decide ((s.dram i).state = .ready) && bitAt (s.rplGroup0 i g) 63 then
        let bytes := if w.buf.isSome then archivedBytes s w else none
        let ok := bytes.isSome && decide ((bytes.getD []).length ≤ slotBytes (s.rplGroup0 i g) - 16)
        let slot : ArchSlot := { seq := w.seq, valid := ok, time := w.capture.short, bytes := if ok then bytes.getD [] else [] }
        let o := (groupSpan (s.rplGroup0 i g) (s.rplGroup1 i g)).1 + slotBytes (s.rplGroup0 i g) * (w.key % 16777216)
        let s3 := dramWrite i 3 (regionAddr (s.dram i).rpl o) (ceilDiv (slot.bytes.length + 16) 64) (s2.modDram i (fun d => { d with slots := NMap.set none d.slots w.key (some slot) }))
        if ok then s3.count i Reg.RPL_COUNT0 63 32
        else if w.buf.isSome then s3.count i Reg.RPL_COUNT0 31 16 else s3
      else if w.buf.isSome then s2.count i Reg.RPL_COUNT0 31 16 else s2
    else s
/-- OLDEST of RPL_NEXT: the lowest number in the window of R375. -/
def State.rplOldest (s : State) (i : Fin 16) (g : Nat) : Nat :=
  (NMap.get 0 (s.dram i).nextSeq g + 2 ^ 32 - groupSlots (s.rplGroup1 i g) + 8) % 2 ^ 32
def State.rplNext (s : State) (i : Fin 16) (g : Nat) : Word :=
  if bitAt (s.rplGroup0 i g) 63 then pack [(63, 32, NMap.get 0 (s.dram i).nextSeq g), (31, 0, s.rplOldest i g)]
  else pack [(63, 32, NMap.get 0 (s.dram i).nextSeq g)]
/-- RPLY finds number `n` of group `g` (R375). -/
def State.archFind (s : State) (i : Fin 16) (g n : Nat) : Option ArchSlot :=
  let w0 := s.rplGroup0 i g
  let slots := groupSlots (s.rplGroup1 i g)
  let back := (NMap.get 0 (s.dram i).nextSeq g + 2 ^ 32 - 1 - n % 2 ^ 32) % 2 ^ 32
  if g < 256 ∧ bitAt w0 63 ∧ back + 9 ≤ slots then
    match NMap.get none (s.dram i).slots (slotKey g (n % slots)) with
    | some x => if x.seq = n ∧ x.valid then some x else none
    | none => none
  else none
/-- Channel address of the slot of number `n`. -/
def State.slotAddr (s : State) (i : Fin 16) (g n : Nat) : Nat :=
  regionAddr (s.dram i).rpl ((groupSpan (s.rplGroup0 i g) (s.rplGroup1 i g)).1 +
    slotBytes (s.rplGroup0 i g) * (n % groupSlots (s.rplGroup1 i g)))

/-- A write that sets EN breaks R376. -/
def State.badGroup (s : State) (i : Fin 16) (g : Nat) (w : Word) : Bool :=
  let w1 := s.rplGroup1 i g
  let a := groupSpan w w1
  decide (groupSlots w1 < 16) || decide (regionBytes (s.dram i).rpl < a.1 + a.2) ||
  (List.range 256).any (fun k => decide (k ≠ g) && bitAt (s.rplGroup0 i k) 63 &&
    (let b := groupSpan (s.rplGroup0 i k) (s.rplGroup1 i k)
     decide (a.1 < b.1 + b.2) && decide (b.1 < a.1 + a.2)))
def refuseRpl (i : Fin 16) (s : State) : State := s.count i Reg.RPL_COUNT0 15 0
/-- A write of RPL_GROUP0 (`one` false) or RPL_GROUP1 (R376). -/
def rplGroupWrite (i : Fin 16) (r : Requester) (g : Nat) (one : Bool) (h : Half) (w : Word) (s : State) : State :=
  if s.sliceWriter i r then
    let old := s.rplGroup0 i g
    let new := mergeWrite old w h 0xF000FFFFFFFFFFFF
    let reserved := decide (w &&& halfMask h &&& 0x0FFF000000000000 ≠ 0)
    let o := Reg.RPL_GROUP0 + 8 * g
    if one then
      if bitAt old 63 then refuseRpl i s
      else s.setReg i (Reg.RPL_GROUP1 + 8 * g) (mergeWrite (s.rplGroup1 i g) w h 0x00FFFFFF001FFFFF)
    else if bitAt old 63 then
      if bitAt new 63 then refuseRpl i s
      else (s.setReg i o new).modDram i (fun d => { d with slots := d.slots.filter (fun e => decide (e.1 / 16777216 ≠ g)) })
    else if bitAt new 63 then
      if s.badGroup i g new || reserved then refuseRpl i s
      else (s.setReg i o new).modDram i (fun d => { d with nextSeq := NMap.set 0 d.nextSeq g (fld new 31 0) })
    else s.setReg i o new
  else s

-- Speed changes and retention (Table 14.2) --------------------------------------------------------------------------

/-- The slot writes whose frames are whole complete before self-refresh (R360, Table 14.2). -/
def writesDrained (i : Fin 16) (s : State) : State :=
  (List.range (s.dram i).writes.length).foldl (fun a _ => archiveWritten i a) s
/-- DRAM_QUEUE_DRAINED (R360): the queued reads are served and the queued writes made; self-refresh, and the PHY relocks. -/
def dramDrained (i : Fin 16) (s : State) : State :=
  if (s.dram i).state = .ready ∧ (s.dram i).draining ∧ (s.slice i).seqRuns ∧
     (s.dramQueue i).all (fun q => !(s.dram i).queued.contains q) then
    relock i (writesDrained i s)
  else s
/-- PHY_RELOCK: the pending speed is in use, training reruns. -/
def phyRelock (i : Fin 16) (s : State) : State :=
  let d := s.dram i
  if d.state = .selfRefresh ∧ d.relocking ∧ (s.slice i).seqRuns then
    startTraining i (s.modDram i (fun d => { d with speed := d.pendSpeed, freqPending := false, retrain := false }))
  else s
/-- ENTER_RETENTION of the slice (R361). -/
def dramRetention (i : Fin 16) (s : State) : State :=
  let d := s.dram i
  match d.state with
  | .training => s.modDram i (fun d => { d with state := .selfRefresh, retrain := true })
  | .ready => (writesDrained i s).modDram i (fun d =>
      { d with state := .selfRefresh, relocking := false, banks := [], down := [], draining := false, queued := [] })
  | _ => s
/-- EXIT_RETENTION of the slice. -/
def dramExitRetention (i : Fin 16) (s : State) : State :=
  let d := s.dram i
  if d.state = .selfRefresh then
    if d.freqPending then relock i s
    else if d.retrain then startTraining i (s.modDram i (fun d => { d with retrain := false }))
    else channelReady i s
  else s

-- Register images --------------------------------------------------------------------------------------------------

/-- DRM_STATUS and DRM_GEOM as they read. -/
def Dram.status (d : Dram) : Word :=
  pack ([(44, 44, d.failRank), (43, 40, d.failLane), (33, 32, d.speed), (29, 28, d.pendSpeed), (27, 27, b2n d.freqPending),
    (26, 24, d.state.code), (23, 23, b2n d.retrain)] ++ d.cmd.fields)
def Dram.geomWord (d : Dram) : Word := d.geom &&& 0x80000000000FF101

end Sys2Proof.Machine
end

