-- ==== Sys2Proof/Machine/Sched.lean ====
section
/-!
DEFINITION. Scheduler configuration ("Egress Scheduling, Shaping, Policing and Gates"): banked entries, shapers, meters,
gate lists, and the commands of `SCH_CMD`.
-/
namespace Sys2Proof.Machine
open Sys2Proof

def State.sch (s : State) (i : Fin 16) : Sched := (s.slice i).eg.sch
def State.modEg (s : State) (i : Fin 16) (f : Egress → Egress) : State := s.modSlice i (fun x => { x with eg := f x.eg })
def State.modSch (s : State) (i : Fin 16) (f : Sched → Sched) : State := s.modEg i (fun e => { e with sch := f e.sch })

-- Banked entries ---------------------------------------------------------------------------------------------------

/-- Objects: 0 PORT, 1 SERVICE, 2 QUEUE, 3 METER. -/
def schKey (bank obj n : Nat) : Nat := (bank * 4 + obj) * 65536 + n
/-- An entry that is not listed holds zeros: every bank does after core reset (R338) and START writes 0 to it (R470). -/
def Sched.entry (c : Sched) (bank obj n : Nat) : SchEntry := NMap.get {} c.entries (schKey bank obj n)
def Sched.setEntry (c : Sched) (bank obj n : Nat) (e : SchEntry) : Sched :=
  { c with entries := NMap.set {} c.entries (schKey bank obj n) e,
           bad := NMap.set false c.bad (schKey bank obj n) false }
/-- VALID or EN of an entry; one with a double-bit error acts as not VALID (R286). -/
def Sched.valid (c : Sched) (bank obj n : Nat) : Bool :=
  bitAt (c.entry bank obj n).w0 63 && !NMap.get false c.bad (schKey bank obj n)
/-- The entries of one bank copied over those of another; keys stay in order. -/
def copyBank {β : Type} (m : NMap β) (src dst : Nat) : NMap β :=
  m.filter (fun e => decide (e.1 < dst * 262144)) ++
  (m.filter (fun e => decide (e.1 / 262144 = src))).map (fun e => (e.1 - src * 262144 + dst * 262144, e.2)) ++
  m.filter (fun e => decide ((dst + 1) * 262144 ≤ e.1))
/-- Every entry of one bank made equal to that of another, error marks with them. -/
def Sched.copyAll (c : Sched) (src dst : Nat) : Sched :=
  { c with entries := copyBank c.entries src dst, bad := copyBank c.bad src dst }
/-- The numbers of a kind of object that are listed in either of two banks, or have live state. -/
def Sched.listed (c : Sched) (obj a b : Nat) (live : List Nat) : List Nat :=
  (live ++ c.entries.filterMap (fun (e : Nat × SchEntry) =>
    if e.1 / 65536 = a * 4 + obj ∨ e.1 / 65536 = b * 4 + obj then some (e.1 % 65536) else none)).eraseDups

/-- The active bank of slice `i` (R274). -/
def State.bankA (s : State) (i : Fin 16) : Nat := (s.slice i).fol.roleA
def State.actEntry (s : State) (i : Fin 16) (obj n : Nat) : SchEntry := (s.sch i).entry (s.bankA i) obj n
def State.actValid (s : State) (i : Fin 16) (obj n : Nat) : Bool := (s.sch i).valid (s.bankA i) obj n

def Sched.queue (c : Sched) (n : Nat) : QueueLive := NMap.get {} c.queues n
def Sched.svc (c : Sched) (n : Nat) : SvcLive := NMap.get {} c.svcs n
def Sched.meter (c : Sched) (n : Nat) : MeterLive := NMap.get {} c.meters n
def Sched.port (c : Sched) (n : Nat) : EgPort := NMap.get {} c.ports n
def Sched.modQueue (c : Sched) (n : Nat) (f : QueueLive → QueueLive) : Sched :=
  { c with queues := NMap.set {} c.queues n (f (c.queue n)) }
def Sched.modSvc (c : Sched) (n : Nat) (f : SvcLive → SvcLive) : Sched := { c with svcs := NMap.set {} c.svcs n (f (c.svc n)) }
def Sched.modMeter (c : Sched) (n : Nat) (f : MeterLive → MeterLive) : Sched :=
  { c with meters := NMap.set {} c.meters n (f (c.meter n)) }
def Sched.modPort (c : Sched) (n : Nat) (f : EgPort → EgPort) : Sched :=
  { c with ports := NMap.set {} c.ports n (f (c.port n)) }

/-- Every port node changed by `f`, which keeps the reset one. -/
def Sched.mapPorts (c : Sched) (f : EgPort → EgPort) : Sched := { c with ports := NMap.mapVal {} f c.ports }

-- Shapers (R275) ---------------------------------------------------------------------------------------------------

/-- One byte in token units of 2⁻²⁴ byte / 12,000,000: RATE kb/s adds RATE · 2²⁴ of them in a CCLK cycle. -/
def tokenByte : Nat := 2 ^ 24 * 12000000
/-- RATE and BURST of shaper word 1. -/
def shRate (w : Word) : Nat := fld w 61 32
def shBurst (w : Word) : Nat := fld w 23 0
/-- A shaper's tokens at uptime `t`: they grow by RATE and never exceed BURST. -/
def Tokens.refill (k : Tokens) (w : Word) (t : Nat) : Tokens :=
  let cap : Int := ((shBurst w * tokenByte : Nat) : Int)
  { n := min cap (k.n + ((shRate w * 2 ^ 24 * (t - k.at_) : Nat) : Int)), at_ := t }
/-- The token count in units of 2⁻²⁴ byte. -/
def Tokens.count (k : Tokens) : Int := k.n / 12000000
/-- The shaper lets a frame start: disabled, or zero or more tokens. -/
def Tokens.allows (k : Tokens) (w : Word) (t : Nat) : Bool := !bitAt w 63 || decide (0 ≤ (k.refill w t).n)
/-- LEN subtracted when a copy is selected; a disabled shaper does not spend. -/
def Tokens.spend (k : Tokens) (w : Word) (t len : Nat) : Tokens :=
  if bitAt w 63 then { k.refill w t with n := (k.refill w t).n - ((len * tokenByte : Nat) : Int) } else k.refill w t
/-- INIT at a switch (R276). -/
def Tokens.init (w : Word) (t : Nat) : Tokens :=
  { n := if bitAt w 62 then ((shBurst w * tokenByte : Nat) : Int) else 0, at_ := t }

-- Meters (R277, R278) ----------------------------------------------------------------------------------------------

/-- A meter's buckets at uptime `t` under an entry: srTCM fills the committed bucket first, trTCM each by its own rate. -/
def MeterLive.refill (m : MeterLive) (e : SchEntry) (t : Nat) : MeterLive :=
  let a := fld e.w0 59 30 * 2 ^ 24 * (t - m.at_)
  let cbs := fld e.w0 23 0 * tokenByte
  let ebs := fld e.w1 23 0 * tokenByte
  let c := min m.c cbs
  if bitAt e.w0 61 then
    { c := min cbs (c + a), ep := min ebs (m.ep + fld e.w1 59 30 * 2 ^ 24 * (t - m.at_)), at_ := t }
  else { c := min cbs (c + a), ep := min ebs (m.ep + (a - (cbs - c))), at_ := t }
/-- INIT of a meter at a switch (R276). -/
def MeterLive.init (e : SchEntry) (t : Nat) : MeterLive :=
  if bitAt e.w0 62 then { c := fld e.w0 23 0 * tokenByte, ep := fld e.w1 23 0 * tokenByte, at_ := t }
  else { c := 0, ep := 0, at_ := t }
/-- RFC 2697 and RFC 2698 applied to a packet of `len` bytes with an input colour (0 green, 1 yellow, 2 or 3 red). -/
def MeterLive.mark (m : MeterLive) (e : SchEntry) (len colour : Nat) : Nat × MeterLive :=
  let b := len * tokenByte
  let inC := if bitAt e.w0 60 then colour else 0
  if bitAt e.w0 61 then
    if 2 ≤ inC ∨ m.ep < b then (2, m)
    else if inC = 1 ∨ m.c < b then (1, { m with ep := m.ep - b })
    else (0, { m with c := m.c - b, ep := m.ep - b })
  else if inC = 0 ∧ b ≤ m.c then (0, { m with c := m.c - b })
  else if inC ≤ 1 ∧ b ≤ m.ep then (1, { m with ep := m.ep - b })
  else (2, m)
/-- A METER operation on meter `n` with the entry of `bank` (R278): none when the meter is disabled (R174). -/
def meterOp (i : Fin 16) (bank n len colour : Nat) (s : State) : Option Nat × State :=
  let c := s.sch i
  if c.valid bank 3 n then
    let e := c.entry bank 3 n
    let r := ((c.meter n).refill e s.uptime).mark e len colour
    (some r.1, s.modSch i (fun c => c.modMeter n (fun _ => r.2)))
  else (none, s)
/-- A METER result counted by colour (R278). -/
def countColour (i : Fin 16) (colour : Nat) (s : State) : State :=
  s.count i (if colour = 0 then Reg.MTR_GREEN else if colour = 1 then Reg.MTR_YELLOW else Reg.MTR_RED) 63 0

/-- TOKEN_INIT (R276): at a switch from bank `a` to bank `b`, tokens first grow to the switch under the old entries, then every
shaper and meter whose entry differs takes its INIT. -/
def tokenInit (i : Fin 16) (a b : Nat) (s : State) : State :=
  s.modSch i (fun c =>
    let t := s.uptime
    let c1 := { c with
      queues := NMap.mapKey {} (fun n q => { q with tok := q.tok.refill (c.entry a 2 n).w1 t }) c.queues,
      svcs := NMap.mapKey {} (fun n q => { q with tok := q.tok.refill (c.entry a 1 n).w1 t }) c.svcs,
      meters := NMap.mapKey {} (fun n m => m.refill (c.entry a 3 n) t) c.meters }
    let c2 := (c.listed 2 a b (c.queues.map (·.1))).foldl (fun d n =>
      if c.entry a 2 n = c.entry b 2 n then d else d.modQueue n (fun q => { q with tok := Tokens.init (c.entry b 2 n).w1 t })) c1
    let c3 := (c.listed 1 a b (c.svcs.map (·.1))).foldl (fun d n =>
      if c.entry a 1 n = c.entry b 1 n then d else d.modSvc n (fun q => { q with tok := Tokens.init (c.entry b 1 n).w1 t })) c2
    (c.listed 3 a b (c.meters.map (·.1))).foldl (fun d n =>
      if c.entry a 3 n = c.entry b 3 n then d else d.modMeter n (fun _ => MeterLive.init (c.entry b 3 n) t)) c3)

-- Gates (R279 to R282) ---------------------------------------------------------------------------------------------

/-- Configuration and entry `n` of list `l` of a port node. -/
def Sched.gateCfg (c : Sched) (k l : Nat) : GateCfg := NMap.get {} c.gcfg (2 * k + l)
def gateEntryReset : Word := 0xFF000000000003E8
def Sched.gateEntry (c : Sched) (k l n : Nat) : Word := NMap.get gateEntryReset c.gent (512 * k + 256 * l + n)
/-- Keys of the double-bit error marks of a list's configuration and of its entry `n`. -/
def gateBadKey (k l : Nat) : Nat := 4194304 + 2 * k + l
def gateEntryBadKey (k l n : Nat) : Nat := 8388608 + 512 * k + 256 * l + n
def GateCfg.en (g : GateCfg) : Bool := bitAt g.w0 63
def GateCfg.len (g : GateCfg) : Nat := fld g.w0 40 32
/-- CYCLE and BASE in 1/16 ns. -/
def GateCfg.cycle (g : GateCfg) : Nat := fld g.w0 29 0 * 16
def GateCfg.base (g : GateCfg) : Nat := (stampOfPair g.w1 g.w2).t16
/-- Starts and gates of a list's intervals within one cycle; the cycle's end cuts them off. -/
def Sched.gateTable (c : Sched) (k l : Nat) : List (Nat × Nat) :=
  let g := c.gateCfg k l
  let r := (List.range g.len).foldl (fun (acc : List (Nat × Nat) × Nat) n =>
    let e := c.gateEntry k l n
    (if acc.2 < g.cycle then acc.1 ++ [(acc.2, fld e 63 56)] else acc.1, acc.2 + fld e 29 0 * 16)) ([], 0)
  r.1
/-- A double-bit error makes a list's gates all open: one of its configuration, or of an entry in use (R286). -/
def Sched.gateBroken (c : Sched) (k l : Nat) : Bool :=
  NMap.get false c.bad (gateBadKey k l) ||
  (List.range (c.gateCfg k l).len).any (fun n => NMap.get false c.bad (gateEntryBadKey k l n))
/-- Whether list `l` of port node `k` governs gates while it is ACTIVE. -/
def Sched.listGoverns (c : Sched) (k l : Nat) : Bool := (c.gateCfg k l).en && !c.gateBroken k l
/-- Phase of a list's cycle at slice time `t`. -/
def Sched.listPhase (c : Sched) (k l t : Nat) : Nat :=
  let g := c.gateCfg k l
  (((t : Int) - (g.base : Int)) % (g.cycle : Int)).toNat
/-- The gates that list `l` of port node `k` gives at slice time `t` (R279). -/
def Sched.listGates (c : Sched) (k l t : Nat) : Nat :=
  if c.listGoverns k l then
    (((c.gateTable k l).filter (fun e => decide (e.1 ≤ c.listPhase k l t))).getLast?.map (·.2)).getD 0xFF
  else 0xFF
/-- The gates of port node `k` at slice time `t`. -/
def Sched.gates (c : Sched) (k t : Nat) : Nat := c.listGates k (c.port k).gact t
/-- Slice time of the next boundary after `t` at which list `l` closes gate `p`; none when it never does. -/
def Sched.listCloses (c : Sched) (k l p t : Nat) : Option Nat :=
  if c.listGoverns k l then
    let ph := c.listPhase k l t
    let cy := (c.gateCfg k l).cycle
    let tab := c.gateTable k l
    ((tab ++ tab.map (fun e => (e.1 + cy, e.2))).find? (fun e => decide (ph < e.1) && decide (e.2 / 2 ^ p % 2 = 0))).map
      (fun e => t - ph + e.1)
  else none
/-- Slice time of the next boundary after `t` at which gate `p` closes (R280): the ACTIVE list's until the scheduled switch, at
`swap`, and from then on the PENDING list's. -/
def Sched.gateCloses (c : Sched) (k p t : Nat) (swap : Option Nat) : Option Nat :=
  let a := (c.port k).gact
  match swap with
  | none => c.listCloses k a p t
  | some u =>
    match (c.listCloses k a p t).filter (fun b => decide (b < u)) with
    | some b => some b
    | none => if c.listGates k (1 - a) u / 2 ^ p % 2 = 0 then some u else c.listCloses k (1 - a) p u
/-- A pending rollback will exchange the lists of a port node (R282). -/
def State.rollsBack (s : State) (i : Fin 16) (p : EgPort) : Bool :=
  s.fol.rollback && (decide (s.fol.state = .pending) || (decide (s.fol.state = .draining) && !(s.slice i).fol.switched)) &&
  p.gfolio && !p.gwritten
/-- The instant of the next gate list switch of a port node: its own, that of the pending commit to which it is tied, or that of a
pending rollback (R281, R282). -/
def State.gateSwapAt (s : State) (i : Fin 16) (k : Nat) : Option Nat :=
  let p := (s.sch i).port k
  let own := match p.gswitch with
    | .none => none
    | .at t => some t
    | .folio e => if e = s.fol.staged ∧ !s.fol.rollback then some s.fol.time else none
  if s.rollsBack i p then some (min s.fol.time (own.getD s.fol.time)) else own

/-- The PENDING list becomes ACTIVE and the ACTIVE one PENDING (R281). -/
def EgPort.gateSwap (p : EgPort) : EgPort := { p with gact := 1 - p.gact, gswitch := .none }
/-- The port node's scheduled switch has its time by slice time `now`. -/
def EgPort.swapDue (now : Nat) (p : EgPort) : Bool :=
  match p.gswitch with
  | .at t => decide (t ≤ now)
  | _ => false
/-- GCL_SWITCH_TIME (R281): every switch whose time slice time has reached is made; the sequencer records it by micro-trap 11. -/
def gclSwitchTime (i : Fin 16) (s : State) : State :=
  let now := s.sliceT i
  if (s.sch i).ports.any (fun e => e.2.swapDue now) then
    (s.modSch i (fun c => c.mapPorts (fun p =>
      if p.swapDue now then { p.gateSwap with gfolio := false, gwritten := false } else p))).modSlice i (fun x => x.noteTrap 11)
  else s

-- Commands (R283 to R285) ------------------------------------------------------------------------------------------

/-- The indices of an object (Table 10.4); 0 for codes that name none. -/
def schCount (obj : Nat) : Nat :=
  if obj = 0 ∨ obj = 4 ∨ obj = 5 then 64 else if obj = 1 then 1024 else if obj = 2 then 4096 else if obj = 3 then 65536 else 0
/-- Bits of words 0, 1 and 2 that software writes (Table 10.5). -/
def schBits (obj : Nat) : List Nat :=
  match obj with
  | 0 => [0x8000000000FF0FFF, 0, 0]
  | 1 => [0x80FFFFFF0000003F, 0xFFFFFFFF00FFFFFF, 0]
  | 2 => [0x87FFFFFF03FF0000, 0xFFFFFFFF00FFFFFF, 0xFFFFFFFFFFFF0000]
  | 3 => [0xFFFFFFFFC0FFFFFF, 0x0FFFFFFFC0FFFFFF, 0]
  | 4 => [0x800001FF3FFFFFFF, 0xFFFFFFFFFFFFFFFF, 0xFFFFFFFF]
  | _ => [0xFF0000003FFFFFFF, 0, 0]
/-- Words of an object that software writes. -/
def schWords (obj : Nat) : Nat := if obj = 0 ∨ obj = 5 then 1 else if obj = 1 ∨ obj = 3 then 2 else 3
def State.schData (s : State) (i : Fin 16) (k : Nat) : Word := s.reg i (Reg.SCH_DATA + 8 * k)
/-- RATE and BURST lie in the ranges of R275; a disabled shaper may hold the reset value 0 of either (log 92). -/
def shaperOk (w : Word) : Bool :=
  decide (shRate w ≤ 800000000) && (decide (8 ≤ shRate w) || (!bitAt w 63 && decide (shRate w = 0))) &&
  (decide (1 ≤ shBurst w) || !bitAt w 63)
/-- A WRITE's data break R277 or R285. -/
def badSchData (obj : Nat) (d : Nat → Word) : Bool :=
  (List.range (schWords obj)).any (fun k => decide ((d k).toNat &&& (2 ^ 64 - 1 - ((schBits obj)[k]?).getD 0) ≠ 0)) ||
  (match obj with
    | 0 => decide (4088 < fld (d 0) 11 0)
    | 1 => !shaperOk (d 1)
    | 2 => !shaperOk (d 1) || decide (fld (d 2) 63 48 < fld (d 2) 47 32) || decide (fld (d 2) 47 32 < fld (d 2) 31 16)
    | 3 =>
      let en := bitAt (d 0) 63
      let tr := bitAt (d 0) 61
      let cir := fld (d 0) 59 30
      let pir := fld (d 1) 59 30
      (en && (decide (cir < 8) || (tr && decide (pir < cir)) ||
        (!tr && decide (fld (d 0) 23 0 = 0) && decide (fld (d 1) 23 0 = 0)))) ||
      decide (800000000 < cir) || decide (800000000 < pir) || (!tr && decide (pir ≠ 0))
    | 4 =>
      decide (fld (d 0) 40 32 = 0) || decide (256 < fld (d 0) 40 32) || decide (fld (d 0) 29 0 < 1000) ||
      decide (1000000000 < fld (d 0) 29 0) || (stampOfPair (d 1) (d 2)).malformed
    | _ => decide (fld (d 0) 29 0 = 0) || decide (1000000000 < fld (d 0) 29 0))

/-- The physical bank of a COPY_SEL. -/
def State.selBank (s : State) (i : Fin 16) (sel : Nat) : Nat :=
  let f := (s.slice i).fol.settled
  if sel = 0 then f.roleA else if sel = 1 then f.roleP else f.roleS
/-- SCH_DATA0 to SCH_DATA4 set. -/
def setSchData (i : Fin 16) (ws : List Word) (s : State) : State :=
  (List.range 5).foldl (fun a k => a.setReg i (Reg.SCH_DATA + 8 * k) ((ws[k]?).getD 0)) s
/-- READ (R283): the entry of COPY_SEL with its live fields. -/
def schRead (i : Fin 16) (w : Word) (s : State) : CmdStatus × State :=
  let obj := fld w 11 8
  let n := fld w 31 16
  let sel := fld w 50 49
  let c := s.sch i
  let e := c.entry (s.selBank i sel) obj n
  let act := c.entry (s.bankA i) obj n
  let l := if sel = 0 then (c.port n).gact else 1 - (c.port n).gact
  let g := c.gateCfg n l
  let bad := if obj < 4 then decide (sel = 3) else decide (sel = 1 ∨ sel = 3)
  judge [(decide (schCount obj ≤ n) || bad, .badArg)] s (fun s =>
    (.ok, setSchData i (match obj with
      | 0 => [e.w0]
      | 1 => [e.w0, e.w1, 0, word (twos 64 ((c.svc n).tok.refill act.w1 s.uptime).count)]
      | 2 =>
        let q := c.queue n
        [e.w0, e.w1, e.w2, word (twos 64 (q.tok.refill act.w1 s.uptime).count),
         pack [(63, 32, q.copies.length), (16, 0, sumNat (q.copies.map (·.cells)))]]
      | 3 =>
        let m := (c.meter n).refill act s.uptime
        [e.w0, e.w1, word (m.c / 12000000), word (m.ep / 12000000)]
      | 4 => [g.w0, g.w1, g.w2]
      | _ => [c.gateEntry n l (fld w 39 32)]) s))

/-- A switch of the port node is scheduled. -/
def EgPort.scheduled (p : EgPort) : Bool := decide (p.gswitch ≠ .none)
/-- WRITE (R283 to R285). -/
def schWrite (i : Fin 16) (w : Word) (s : State) : CmdStatus × State :=
  let obj := fld w 11 8
  let n := fld w 31 16
  let d := s.schData i
  let c := s.sch i
  judge [(decide (schCount obj ≤ n) || decide (fld w 50 49 ≠ 2) || badSchData obj d, .badArg),
         (if obj < 4 then !decide (s.fol.state = .staging) else (c.port n).scheduled, .stateRefused)] s (fun s =>
    (.ok, s.modSch i (fun c =>
      if obj < 4 then
        c.setEntry (s.slice i).fol.settled.roleS obj n
          { w0 := d 0, w1 := if obj = 0 then 0 else d 1, w2 := if obj = 2 then d 2 else 0 }
      else
        let l := 1 - (c.port n).gact
        let c1 := c.modPort n (fun p => { p with gwritten := true, gfolio := false })
        let key := if obj = 4 then gateBadKey n l else gateEntryBadKey n l (fld w 39 32)
        let c2 := { c1 with bad := NMap.set false c1.bad key false }
        if obj = 4 then { c2 with gcfg := NMap.set {} c2.gcfg (2 * n + l) { w0 := d 0, w1 := d 1, w2 := d 2 } }
        else { c2 with gent := NMap.set gateEntryReset c2.gent (512 * n + 256 * l + fld w 39 32) (d 0) })))

/-- COPY (R283): staging made equal to active. -/
def schCopy (i : Fin 16) (s : State) : CmdStatus × State :=
  let f := (s.slice i).fol.settled
  judge [(!decide (s.fol.state = .staging), .stateRefused)] s (fun s =>
    (.ok, s.modSch i (fun c => c.copyAll f.roleA f.roleS)))

/-- Some interval in use reaches CYCLE, so that CYCLE lies below it and 1 ns (R285). -/
def Sched.gateTooShort (c : Sched) (k l : Nat) : Bool :=
  let g := c.gateCfg k l
  g.en && (List.range g.len).any (fun n => decide (fld g.w0 29 0 < fld (c.gateEntry k l n) 29 0 + 1))
/-- GCL_SWITCH (R281, R282, R284, R285). -/
def gclSwitch (i : Fin 16) (n : Nat) (s : State) : CmdStatus × State :=
  let folio := bitAt (s.schData i 2) 0
  let time := stampOfPair (s.schData i 0) (s.schData i 1)
  let c := s.sch i
  judge [(decide (64 ≤ n) || (!folio && (time.malformed || decide (time.t16 < s.sliceT i + 160000))) ||
          c.gateTooShort n (1 - (c.port n).gact), .badArg),
         ((c.port n).scheduled || (folio && (!decide (s.fol.state = .pending) || s.fol.rollback)), .stateRefused)] s (fun s =>
    (.ok, s.modSch i (fun c => c.modPort n (fun p => { p with gswitch := if folio then .folio s.fol.staged else .at time.t16 }))))
/-- GCL_CANCEL. -/
def gclCancel (i : Fin 16) (n : Nat) (s : State) : CmdStatus × State :=
  judge [(decide (64 ≤ n), .badArg), (!((s.sch i).port n).scheduled, .stateRefused)] s (fun s =>
    (.ok, s.modSch i (fun c => c.modPort n (fun p => { p with gswitch := .none }))))

def putSch (i : Fin 16) (c : CmdReg) (s : State) : State := s.modSch i (fun x => { x with cmd := c })
def refuseSch (i : Fin 16) (s : State) : State := s.modSch i (fun x => { x with refused := satN 16 (x.refused + 1) })
/-- OBJ or COPY_SEL is none of the values of Table 10.4. -/
def badSchSel (w : Word) : Bool :=
  decide (5 < fld w 11 8) || decide (fld w 50 49 = 3) || (decide (4 ≤ fld w 11 8) && decide (fld w 50 49 = 1))
/-- SCH_CMD written by a requester (R283). -/
def schCommand (i : Fin 16) (r : Requester) (w : Word) (s : State) : State :=
  runCommand (s.sliceWriter i r) (fun s => (s.sch i).cmd) (putSch i) (refuseSch i) (fun s =>
    if badSchSel w then (.badArg, s)
    else match fld w 3 0 with
      | 1 => schRead i w s
      | 2 => schWrite i w s
      | 3 => schCopy i s
      | 4 => gclSwitch i (fld w 31 16) s
      | 5 => gclCancel i (fld w 31 16) s
      | _ => (.badArg, s)) s

/-- SCH_STATUS, SCH_GCL_PEND and SCH_GCL_FOLIO as they read. -/
def Sched.status (c : Sched) : Word := pack ((47, 32, c.refused) :: c.cmd.fields)
def Sched.pendWord (c : Sched) : Word := word (sumNat (c.ports.map (fun e => if e.2.scheduled then 2 ^ e.1 else 0)))
def Sched.folioWord (c : Sched) : Word :=
  word (sumNat (c.ports.map (fun e => if e.2.gfolio && !e.2.gwritten then 2 ^ e.1 else 0)))

/-- Gate switches tied to the commit of an epoch are made, with micro-trap 11, or cancelled with it (R281, R282). -/
def gclFolio (i : Fin 16) (epoch : Nat) (commit : Bool) (s : State) : State :=
  let s1 := s.modSch i (fun c => c.mapPorts (fun p =>
    if p.gswitch = .folio epoch then
      (if commit then { p.gateSwap with gfolio := true, gwritten := false } else { p with gswitch := .none })
    else p))
  if commit && (s.sch i).ports.any (fun e => decide (e.2.gswitch = .folio epoch)) then s1.modSlice i (fun x => x.noteTrap 11) else s1
/-- A rollback exchanges the lists that the last commit switched, where PENDING has not been written since (R282). -/
def gclRollback (i : Fin 16) (s : State) : State :=
  s.modSch i (fun c => c.mapPorts (fun p => if p.gfolio && !p.gwritten then { p with gact := 1 - p.gact } else p))

end Sys2Proof.Machine
end

