-- ==== Sys2Proof/Machine/Egress.lean ====
section
/-!
DEFINITION. The egress side of a slice: subscriber queues and weighted fair queueing, the merge and release queues, what a
port starts at a frame boundary, and the end of a transmission.
-/
namespace Sys2Proof.Machine
open Sys2Proof

-- Ports ------------------------------------------------------------------------------------------------------------

/-- Gb/s of a SPEED (Table 03.1). -/
def gbps (speed : Nat) : Nat := ([0, 10, 25, 50, 100, 200, 400, 800][speed]?).getD 0
def Lane.speed (l : Lane) : Nat := fld l.cfg 3 0
def Lane.gbps (l : Lane) : Nat := Machine.gbps l.speed
/-- Lanes of a SPEED. -/
def speedLanes (speed : Nat) : Nat := ([0, 1, 1, 1, 1, 2, 4, 8][speed]?).getD 0
/-- The lowest lane of the enabled port that holds lane `k`. -/
def Slice.portOf (x : Slice) (k : Nat) : Option Nat :=
  (List.range (k + 1)).find? (fun p => (x.lane p).enabled && decide (k < p + speedLanes (x.lane p).speed))
/-- R498: a port node that names an egress port. -/
def Slice.namesPort (x : Slice) (k : Nat) : Bool := decide (x.portOf k = some k)
/-- 64 bit times of a port in 1/16 ns (R84, R303). -/
def Lane.preamble (l : Lane) : Nat := 1024 / max 1 l.gbps
/-- Whether `n` wire bytes starting at `t` end by `lim`, or before it, all in 1/16 ns. -/
def Lane.endsBy (l : Lane) (n t lim : Nat) : Bool := decide (n * 128 ≤ (lim - t) * l.gbps) && decide (t ≤ lim)
def Lane.endsBefore (l : Lane) (n t lim : Nat) : Bool := decide (n * 128 < (lim - t) * l.gbps)
/-- Minimum non-final fragment (R305). -/
def Lane.minFrag (l : Lane) : Nat := 64 * (1 + fld l.preCfg 9 8) - 4
/-- Priority `p` is preemptable under an active preemption (R80). -/
def Lane.preemptable (l : Lane) (p : Nat) : Bool := l.preempt && !bitAt l.preCfg p
/-- The port is held by a received 802.3x PAUSE; a priority is held by PFC (R77, R78). -/
def Lane.paused (l : Lane) (t : Nat) : Bool := match l.pauseUntil with
  | some u => decide (t < u)
  | none => false
def Lane.prioPaused (l : Lane) (p t : Nat) : Bool :=
  l.paused t || (match NMap.get none l.pfcUntil p with
    | some u => decide (t < u)
    | none => false)
/-- The instant and bound of a frame whose delimiter leaves the reference plane at `t` (R84). -/
def State.txStamp (s : State) (i : Fin 16) (k t : Nat) : Stamp := stampOf t (s.captureBound i k)
/-- The delimiter's instant of a frame whose preamble starts at `t`. -/
def State.delimAt (s : State) (i : Fin 16) (k t : Nat) : Nat :=
  (((t + (s.lane i k).preamble : Nat) : Int) + (s.lane i k).txDelay s.uptime).toNat
/-- S of a copy with release time `r`: the start that puts its delimiter on the plane at `r` (R303). -/
def State.releaseStart (s : State) (i : Fin 16) (k r : Nat) : Nat :=
  ((r : Int) - (s.lane i k).txDelay s.uptime - ((s.lane i k).preamble : Int)).toNat

-- Charges and pause (R259, R260) -----------------------------------------------------------------------------------

/-- Cells charged to a port and priority, and to a port in all. -/
def Lane.charge (l : Lane) (p : Nat) : Nat := NMap.get 0 l.charges p
def Lane.chargeAll (l : Lane) : Nat := sumNat ((List.range 8).map l.charge)
/-- A count against its thresholds: asks at XOFF, releases at XON, otherwise keeps. -/
def hysteresis (asks : Bool) (n xoff xon : Nat) : Bool :=
  if xoff ≤ n then true else if n ≤ xon then false else asks

/-- The priorities whose own count asks for pause on the port of lane `k` (R260); bit 0 for 802.3x. -/
def State.overNow (s : State) (i : Fin 16) (k : Nat) : Nat :=
  let l := s.lane i k
  let pc := s.reg i Reg.BPM_PAUSE_CFG
  let xoff := fld pc 31 16
  let xon := if xoff ≤ fld pc 15 0 then xoff - 1 else fld pc 15 0
  let ask := fun (p n : Nat) => hysteresis (decide (l.overAsk / 2 ^ p % 2 = 1)) n (xoff * 16) (xon * 16)
  if fld l.cfg 7 6 = 1 then b2n (ask 0 l.chargeAll)
  else sumNat ((List.range 8).map (fun p => if ask p (l.charge p) then 2 ^ p else 0))
/-- Whether GENERAL_FREE asks every pause-enabled port to pause (R260). -/
def State.globalAskNow (s : State) (i : Fin 16) : Bool :=
  let bc := s.reg i Reg.BPM_CFG
  let goff := fld bc 31 16
  let gon := if fld bc 15 0 ≤ goff then goff + 1 else fld bc 15 0
  let free := (s.slice i).bpm.generalFree
  if free < goff * 16 then true else if gon * 16 ≤ free then false else (s.slice i).globalAsk
/-- The priorities for which the port of lane `k` asks for pause: bits of PFC_EN, or bit 0 for 802.3x (R260). -/
def State.askNow (s : State) (i : Fin 16) (k : Nat) : Nat :=
  let l := s.lane i k
  let en := fld (s.reg i (prt Reg.PRT_PAUSE k)) 23 16
  if !l.enabled || !l.linkUp then 0
  else if fld l.cfg 7 6 = 2 then en &&& (if (s.slice i).globalAsk then 0xFF else l.overAsk)
  else if fld l.cfg 7 6 = 1 then b2n ((s.slice i).globalAsk || decide (l.overAsk % 2 = 1))
  else 0

/-- A preemptable frame in transmission that has sent a whole fragment can be cut for an express frame (R80, R305). -/
def Tx.cuttable (x : Tx) (l : Lane) (now : Nat) : Bool :=
  match x.prio with
  | some p => l.preemptable p && l.endsBy (l.minFrag + 24) x.start now
  | none => false
/-- Bytes of the frame sent when it is cut now: those of its earlier fragments, and of this one what lets mCRC and gap end now, at
least the minimum non-final fragment (R80, R305). -/
def Tx.cutBytes (x : Tx) (l : Lane) (now : Nat) : Nat := x.sent + max l.minFrag ((now - x.start) * l.gbps / 128 - 24)
/-- A cut now leaves a final fragment of at least 64 bytes (R80; IEEE 802.3br, log 124). -/
def State.leavesFinal (s : State) (i : Fin 16) (k : Nat) (x : Tx) : Bool :=
  decide (x.cutBytes (s.lane i k) (s.sliceT i) + 64 + fld (s.actEntry i 0 k).w0 23 16 ≤ x.copy.len)
/-- A frame in transmission can be cut for an express frame (R80). -/
def State.mayCut (s : State) (i : Fin 16) (k : Nat) (x : Tx) : Bool := x.cuttable (s.lane i k) (s.sliceT i) && s.leavesFinal i k x
/-- A preemptable frame in transmission is cut (R80, R280, R305). -/
def cutFrame (i : Fin 16) (k : Nat) (s : State) : State :=
  match ((s.sch i).port k).tx with
  | none => s
  | some x => (s.countPort i k 15 1).modSch i (fun d => d.modPort k (fun p =>
      { p with tx := none, preempted := some { x with frags := x.frags + 1, cutAt := none, sent := x.cutBytes (s.lane i k) (s.sliceT i) } }))
/-- The frame in transmission is cut when an express frame may preempt it. -/
def cutForExpress (i : Fin 16) (k : Nat) (s : State) : State :=
  match ((s.sch i).port k).tx with
  | some x => if s.mayCut i k x then cutFrame i k s else s
  | none => s

/-- A pause frame of a port with the given quanta (R79): with preemption it is an express frame, never itself preempted. -/
def sendPause (i : Fin 16) (k prios quanta : Nat) (s : State) : State :=
  let pfc := if fld (s.lane i k).cfg 7 6 = 2 then prios else 0
  ((cutForExpress i k (s.countPort i k 10 1)).emit (.pause (64 * i.val + k) pfc quanta))
/-- The priorities `ps` have been asked for now (R79). -/
def Lane.noteAsked (l : Lane) (ps t : Nat) : Lane :=
  { l with askedAt := (onesList 8 ps).foldl (fun m p => NMap.set 0 m p t) l.askedAt }
/-- Pause asked for or released as the counts now stand; each change sends a frame (R79, R260). -/
def updatePause (i : Fin 16) (k : Nat) (s0 : State) : State :=
  let s := s0.modLane i k (fun l => { l with overAsk := s0.overNow i k })
  let now := s.askNow i k
  let was := (s.lane i k).asking
  if now = was then s
  else
    let q := fld (s.reg i (prt Reg.PRT_PAUSE k)) 15 0
    let new := now &&& (now ^^^ was)
    let s1 := s.modLane i k (fun l => { l with asking := now }.noteAsked new s.uptime)
    let s2 := if new = 0 then s1 else sendPause i k new q s1
    let gone := was &&& (now ^^^ was)
    if gone = 0 then s2 else sendPause i k gone 0 s2
/-- Every port's pause as the counts now stand. -/
def updatePauses (i : Fin 16) (s : State) : State :=
  (s.slice i).lanes.foldl (fun a e => if e.2.enabled then updatePause i e.1 a else a)
    (s.modSlice i (fun x => { x with globalAsk := s.globalAskNow i }))
/-- A change of the buffer lists, and the pauses that follow from it (R260). -/
def pausesAfter (i : Fin 16) (f : State → State) (s : State) : State := updatePauses i (f s)

/-- Ingress cells freed, and those freed no longer charged (R259). -/
def freeIngress (i : Fin 16) (p : Packet) (s : State) : State :=
  let r := freeChain i (p.lane / 4) p.cells s
  updatePauses i (r.2.modLane i p.lane (fun l => { l with charges := NMap.set 0 l.charges p.prio (l.charge p.prio - r.1) }))

-- Chains and drops -------------------------------------------------------------------------------------------------

/-- Cells that a frame of `n` bytes without FCS takes. -/
def cellsFor (n : Nat) : Nat := ceilDiv (n + 4) 128
def State.inbound (s : State) (i : Fin 16) (n : Nat) : Inbound := NMap.get { frame := 0 } (s.slice i).eg.inbound n
def State.setInbound (s : State) (i : Fin 16) (n : Nat) (b : Inbound) : State :=
  s.modEg i (fun e => { e with inbound := NMap.insert e.inbound n b })
/-- A copy no longer needs the cells that hold it (R247): the chain is freed with its last copy. -/
def releaseChain (i : Fin 16) (c : EgCopy) (s : State) : State :=
  if c.inbound then
    let b := s.inbound i c.chain
    if b.refs ≤ 1 then
      updatePauses i ((freeChain i 0x010 b.cells s).2.modEg i (fun e => { e with inbound := NMap.erase e.inbound c.chain }))
    else s.setInbound i c.chain { b with refs := b.refs - 1 }
  else match s.packet i c.chain with
    | none => s
    | some p =>
      if p.leaving ≤ 1 ∧ p.committed = some [] ∧ p.held = [] then (freeIngress i p s).delPacket i c.chain
      else s.setPacket i c.chain { p with leaving := p.leaving - 1 }
/-- A merge port reports a copy of an evidential packet to the packet's ingress slice (R296): its release, or what R295 did with
it. -/
def reportCopy (c : EgCopy) (outcome : Nat) (s : State) : State :=
  if c.evidential then sendReport (sl c.src) c.pkt c.late c.uncertain outcome s else s
/-- A copy dropped at the egress slice with a reason. -/
def dropCopy (i : Fin 16) (code : Nat) (c : EgCopy) (s : State) : State := releaseChain i c (s.countDrop i code)
/-- All bytes of the copy's frame have arrived. -/
def EgCopy.whole (s : State) (c : EgCopy) : Bool := c.bytes.isSome || (s.frame c.frame).done
/-- The copy can be started: cut-through, or stored in full. -/
def EgCopy.available (s : State) (c : EgCopy) : Bool := c.cut || c.whole s
/-- The cells that hold a copy: those of its chain, or of its packet when it did not cross. -/
def EgCopy.cellList (s : State) (i : Fin 16) (c : EgCopy) : List Nat :=
  if c.inbound then (s.inbound i c.chain).cells else ((s.packet i c.chain).map (·.cells)).getD []
/-- A cell was refused to the copy's packet, here or at its ingress slice, which counted the drop (R249). -/
def EgCopy.cutOff (s : State) (i : Fin 16) (c : EgCopy) : Bool :=
  c.bytes.isNone && ((s.frame c.frame).cutOff || (c.inbound && (s.inbound i c.chain).cutOff))
/-- The copy's frame without FCS as received so far. -/
def EgCopy.payload (s : State) (c : EgCopy) : List Byte :=
  match c.bytes with
  | some b => b
  | none => let f := s.frame c.frame; if f.done then f.bytes.take (f.bytes.length - 4) else f.bytes
def EgCopy.badFrame (s : State) (i : Fin 16) (c : EgCopy) : Bool :=
  c.cutOff s i || (c.bytes.isNone && (s.frame c.frame).bad)

-- The hierarchy (R266 to R272) -------------------------------------------------------------------------------------

/-- Tags compare modulo 2⁶⁴ within a window of 2⁶³: `a` is at or after `b`. -/
def tagGe (a b : Nat) : Bool := decide ((a + 2 ^ 64 - b) % 2 ^ 64 < 2 ^ 63)
def tagMax (a b : Nat) : Nat := if tagGe a b then a else b
/-- inc(c): floor(2³² / W), a weight of 0 used as 1. -/
def tagInc (w0 : Word) : Nat := 2 ^ 32 / max 1 (fld w0 55 32)
/-- A child's tags when its head is copy `id` of length `len` (R272). -/
def Tags.onHead (g : Tags) (v id len : Nat) (w0 : Word) : Tags :=
  match g.head with
  | some h =>
    if h = id then g else { g with head := some id, f := (g.s + len * tagInc w0) % 2 ^ 64 }
  | none =>
    let s := tagMax v g.last
    { g with head := some id, s := s, f := (s + len * tagInc w0) % 2 ^ 64 }
/-- A child's tags after its head was sent. -/
def Tags.sent (g : Tags) : Tags := { g with last := g.f, head := none }
/-- The child with the smallest F, the lowest index on a tie. -/
def smallestF (l : List (Nat × Tags)) : Option (Nat × Tags) :=
  l.foldl (fun a c => match a with
    | none => some c
    | some b => if tagGe c.2.f b.2.f && (c.2.f != b.2.f || decide (b.1 < c.1)) then some b else some c) none

/-- SERVICE and PRIO of a queue, PORT of a service, in the active bank. -/
def State.queueSvc (s : State) (i : Fin 16) (q : Nat) : Nat := fld (s.actEntry i 2 q).w0 25 16
def State.queuePrio (s : State) (i : Fin 16) (q : Nat) : Nat := fld (s.actEntry i 2 q).w0 58 56
def State.svcPort (s : State) (i : Fin 16) (v : Nat) : Nat := fld (s.actEntry i 1 v).w0 5 0
def State.queuePort (s : State) (i : Fin 16) (q : Nat) : Nat := s.svcPort i (s.queueSvc i q)
/-- Queue, service and port node are VALID (R268). -/
def State.queueValid (s : State) (i : Fin 16) (q : Nat) : Bool :=
  s.actValid i 2 q && s.actValid i 1 (s.queueSvc i q) && s.actValid i 0 (s.queuePort i q)

/-- HEAD_INVALID_DROP (R268): the copies of queues that are no longer VALID are dropped as they reach the head. -/
def purgeInvalid (i : Fin 16) (s : State) : State :=
  (s.sch i).queues.foldl (fun a e =>
    if e.2.copies.isEmpty || a.queueValid i e.1 then a
    else
      let a1 := a.modSch i (fun c => c.modQueue e.1 (fun q => { q with copies := [], tags := { q.tags with head := none } }))
      e.2.copies.foldl (fun b c => dropCopy i 0x8A c (b.count i Reg.SCH_COUNT0 31 0)) a1) s
/-- A copy passes its gate and the gate guard at slice time `t` (R280). -/
def gatePass (s : State) (i : Fin 16) (k prio len : Nat) : Bool :=
  let c := s.sch i
  let t := s.sliceT i
  decide (c.gates k t / 2 ^ prio % 2 = 1) &&
  ((s.lane i k).preemptable prio || (match c.gateCloses k prio t (s.gateSwapAt i k) with
    | some b => (s.lane i k).endsBefore len t b
    | none => true))
/-- A subscriber queue is eligible (R271); while a frame is preempted its port's MAC takes express frames alone (R80). -/
def State.queueEligible (s : State) (i : Fin 16) (q : Nat) : Bool :=
  match ((s.sch i).queue q).copies with
  | [] => false
  | c :: _ =>
    let k := s.queuePort i q
    let p := s.queuePrio i q
    c.available s && !(((s.sch i).port k).preempted.isSome && (s.lane i k).preemptable p) && ((s.sch i).queue q).tok.allows (s.actEntry i 2 q).w1 s.uptime && !(s.lane i k).prioPaused p s.uptime &&
    gatePass s i k p c.len
/-- The queues of a service that hold copies. -/
def State.svcQueues (s : State) (i : Fin 16) (v : Nat) : List Nat :=
  (s.sch i).queues.filterMap (fun e => if e.2.copies.isEmpty || decide (s.queueSvc i e.1 ≠ v) then none else some e.1)
/-- What a service node would select: its eligible queue with the smallest F. -/
def State.svcPick (s : State) (i : Fin 16) (v : Nat) : Option Nat :=
  (smallestF ((s.svcQueues i v).filterMap (fun q =>
    if s.queueEligible i q then some (q, ((s.sch i).queue q).tags) else none))).map (·.1)
/-- Services that hold copies. -/
def State.busySvcs (s : State) (i : Fin 16) : List Nat :=
  ((s.sch i).queues.filterMap (fun e => if e.2.copies.isEmpty then none else some (s.queueSvc i e.1))).eraseDups
/-- The tags of every child follow its present head (R272). -/
def refreshTags (i : Fin 16) (s0 : State) : State :=
  let s := purgeInvalid i s0
  let s1 := (s.sch i).queues.foldl (fun a e =>
    match e.2.copies with
    | [] => a.modSch i (fun c => c.modQueue e.1 (fun q => { q with tags := { q.tags with head := none } }))
    | h :: _ => a.modSch i (fun c => c.modQueue e.1 (fun q =>
        { q with tags := q.tags.onHead (c.svc (s.queueSvc i e.1)).v h.id h.len (s.actEntry i 2 e.1).w0 }))) s
  let s2 := (s1.busySvcs i).foldl (fun a v =>
    match (s1.svcPick i v).bind (fun q => ((s1.sch i).queue q).copies.head?) with
    | some h => a.modSch i (fun c => c.modSvc v (fun x =>
        { x with tags := x.tags.onHead (c.port (s.svcPort i v)).v h.id h.len (s.actEntry i 1 v).w0 }))
    | none => a) s1
  (s2.sch i).svcs.foldl (fun a e =>
    if (s2.busySvcs i).contains e.1 then a
    else a.modSch i (fun c => c.modSvc e.1 (fun x => { x with tags := { x.tags with head := none } }))) s2
/-- A service is eligible (R271). -/
def State.svcEligible (s : State) (i : Fin 16) (v : Nat) : Bool :=
  ((s.sch i).svc v).tok.allows (s.actEntry i 1 v).w1 s.uptime && (s.svcPick i v).isSome
/-- WFQ_SELECT (R272): the service and queue whose head port node `k` would send. -/
def State.portPick (s : State) (i : Fin 16) (k : Nat) : Option (Nat × Nat) :=
  (smallestF ((s.busySvcs i).filterMap (fun v =>
    if s.svcPort i v = k ∧ s.svcEligible i v then some (v, ((s.sch i).svc v).tags) else none))).bind (fun c =>
      (s.svcPick i c.1).map (fun q => (c.1, q)))
/-- The head of queue `q` leaves its queue. -/
def takeHead (i : Fin 16) (q : Nat) (s : State) : State :=
  s.modSch i (fun d => d.modQueue q (fun x => { x with copies := x.copies.drop 1 }))
/-- A head that is sent changes V and F_LAST of both nodes, and the tokens of both shapers (R272, R275). -/
def headSent (i : Fin 16) (k v q : Nat) (c : EgCopy) (s : State) : State :=
  let fq := ((s.sch i).queue q).tags.f
  let fs := ((s.sch i).svc v).tags.f
  s.modSch i (fun d =>
    let d1 := d.modQueue q (fun x => { x with tags := x.tags.sent, tok := x.tok.spend (s.actEntry i 2 q).w1 s.uptime c.len })
    let d2 := d1.modSvc v (fun x => { x with v := fq, tags := x.tags.sent,
                                             tok := x.tok.spend (s.actEntry i 1 v).w1 s.uptime c.len })
    d2.modPort k (fun x => { x with v := fs }))

/-- EGRESS_ENQUEUE (R267 to R269): validity, link, then admission by colour and depth in cells. -/
def enqueueQueue (i : Fin 16) (q colour : Nat) (c : EgCopy) (s : State) : State :=
  let k := s.queuePort i q
  if !s.queueValid i q || (((s.slice i).portOf k).isSome && !(s.slice i).namesPort k) then
    dropCopy i 0x8A c (s.count i Reg.SCH_COUNT0 31 0)
  else if !(s.lane i k).enabled || !(s.lane i k).linkUp then dropCopy i 0x86 c s
  else
    let depth := sumNat (((s.sch i).queue q).copies.map (·.cells))
    let w2 := (s.actEntry i 2 q).w2
    let lim := if colour = 0 then fld w2 63 48 else if colour = 1 then fld w2 47 32 else fld w2 31 16
    if depth < lim then
      refreshTags i (s.modSch i (fun d => d.modQueue q (fun x =>
        { x with copies := x.copies ++ [{ c with port := k, len := c.len + fld (s.actEntry i 0 k).w0 23 16 }] })))
    else dropCopy i 0x88 c (s.count i Reg.SCH_COUNT0 63 32)
/-- R498 for a port target: `none` when it names an egress port that is up, otherwise the drop reason. -/
def portTargetDrop (s : State) (i : Fin 16) (k : Nat) : Option Nat :=
  match (s.slice i).portOf k with
  | none => some 0x86
  | some p => if p ≠ k then some 0x8A else if (s.lane i k).linkUp then none else some 0x86
/-- A copy for a port target enters the port's default queue for its CLASS (R267). -/
def enqueuePort (i : Fin 16) (k colour : Nat) (c : EgCopy) (s : State) : State :=
  match portTargetDrop s i k with
  | some code => dropCopy i code c s
  | none => enqueueQueue i ((fld (s.actEntry i 0 k).w0 11 0 + c.cls) % 4096) colour c s

-- The merge queue (R287 to R297) -----------------------------------------------------------------------------------

def State.ligCfg (s : State) (i : Fin 16) (k : Nat) : Word := s.reg i (Reg.LIG_CFG + 8 * k)
/-- H in 1/16 ns. -/
def State.horizon (s : State) (i : Fin 16) (k : Nat) : Nat := fld (s.ligCfg i k) 13 0 * 16
/-- The key (TS, RANK, INGRESS_PORT) of a merge entry is below another's (R288). -/
def EgCopy.keyLt (a b : EgCopy) : Bool :=
  decide (a.ts < b.ts) ||
  (decide (a.ts = b.ts) && (decide (a.rank < b.rank) || (decide (a.rank = b.rank) && decide (a.inPort < b.inPort))))
/-- The entry is due (R288, R291, R293, R294). -/
def EgCopy.due (c : EgCopy) (h now : Nat) : Bool := c.late || c.forced || decide (c.ts + h ≤ now)
/-- Slice time from which the entry was due. -/
def EgCopy.dueTime (c : EgCopy) (h : Nat) : Nat := if c.late || c.forced then c.dueAt else c.ts + h
/-- The place of an entry in the release order (R288, R294): a LATE one behind every entry already due, another by its key. -/
def mergeInsert (h now : Nat) (c : EgCopy) (l : List EgCopy) : List EgCopy :=
  if c.late then
    let n := l.length - (l.reverse.findIdx (fun x => x.due h now))
    l.take n ++ [c] ++ l.drop n
  else
    let n := l.findIdx (fun x => !x.late && !x.stepped && c.keyLt x)
    l.take n ++ [c] ++ l.drop n
/-- MERGE_ENQUEUE (R287 to R296): LATE and ORDER_UNCERTAIN judged, the full queue handled, the entry sorted in. -/
def enqueueMerge (i : Fin 16) (k : Nat) (alarm : Bool) (c0 : EgCopy) (s : State) : State :=
  let cfg := s.ligCfg i k
  match (if bitAt cfg 63 then portTargetDrop s i k else some 0x8A) with
  | some code => dropCopy i code c0 s
  | none =>
      let q := ((s.sch i).port k).merge
      if 8192 ≤ q.length then
        let s1 := s.count i (Reg.LIG_COUNT0 + 8 * k) 31 0
        if bitAt cfg 62 then
          let r := fld cfg 55 48
          let bytes := c0.payload s
          if s1.ringTakes i r then
            match allocPool i bytes.length (0x100 + r) s1 with
            | (some buf, s2) =>
              reportCopy c0 2 (releaseChain i c0 (postItem i r (.punt 0xFF c0.inPort c0.seqnum false c0.info c0.capture bytes buf) s2))
            | (none, s2) => reportCopy c0 1 (dropCopy i 0x8B c0 s2)
          else reportCopy c0 1 (dropCopy i 0x8B c0 (s1.count i (rng Reg.RNG_COUNT r) 31 0))
        else reportCopy c0 1 (dropCopy i 0x89 c0 s1)
      else
        let now := s.sliceT i
        let h := s.horizon i k
        let future := decide (now < c0.ts)
        let nearStep := (s.slice i).eg.stepAt.any (fun t => decide (t ≤ c0.ts) && decide (c0.ts < t + h))
        let c := { c0 with
          late := decide (c0.ts + h < now), forced := future, dueAt := now, port := k,
          uncertain := decide (c0.capture.bound = 0x3FFF) || alarm || future || nearStep }
        let s1 := if c.late then s.count i (Reg.LIG_COUNT0 + 8 * k) 63 32 else s
        let s2 := if c.uncertain then s1.count i (Reg.LIG_COUNT1 + 8 * k) 63 32 else s1
        s2.modSch i (fun d => d.modPort k (fun p =>
          let l := mergeInsert h now { c with len := c.len + fld (s.actEntry i 0 k).w0 23 16 } p.merge
          { p with merge := l, highWater := max p.highWater l.length }))

-- The release queue (R301 to R308) ---------------------------------------------------------------------------------

/-- EQX_ENQUEUE (R301, R306, R308). -/
def enqueueEqx (i : Fin 16) (k : Nat) (c : EgCopy) (s : State) : State :=
  match portTargetDrop s i k with
  | some code => dropCopy i code c s
  | none =>
    let q := ((s.sch i).port k).eqx
    if 256 ≤ q.length then dropCopy i 0x88 c (s.count i Reg.EQX_COUNT 15 0)
    else
      let c1 := { c with port := k, atOnce := decide (s.sliceT i + 816000 < c.release),
                         len := c.len + fld (s.actEntry i 0 k).w0 23 16 }
      let n := q.findIdx (fun x => decide (c1.release < x.release) || (decide (c1.release = x.release) && decide (c1.group < x.group)))
      s.modSch i (fun d => d.modPort k (fun p => { p with eqx := p.eqx.take n ++ [c1] ++ p.eqx.drop n }))

/-- Every entry held is affected by a step of device time (R293, R294, R308); the gate lists follow the new time (R281).  An entry that
was due before the step, when slice time was `old`, stays due for as long as it has been (R297). -/
def egressStep (i : Fin 16) (old : Nat) (s : State) : State :=
  let now := s.sliceT i
  let s1 := (s.sch i).ports.foldl (fun a e =>
    a.modSlice i (fun x => x.count (Reg.LIG_COUNT1 + 8 * e.1) 63 32 (e.2.merge.filter (fun c => !c.uncertain)).length)) s
  let s2 := s1.modSch i (fun d => { d with ports := d.ports.map (fun e => (e.1,
    { e.2 with merge := e.2.merge.map (fun c => { c with uncertain := true, forced := true, stepped := true,
                                                         dueAt := now - (old - c.dueTime (s.horizon i e.1)) }),
               eqx := e.2.eqx.map (fun c => { c with atOnce := true }) })) })
  gclSwitchTime i (s2.modEg i (fun e => { e with stepAt := now :: e.stepAt }))

-- Starting a frame (R273, R303 to R307) ----------------------------------------------------------------------------

/-- What the edits make of a copy that is stored whole: `none` when it can be sent, otherwise the counter for an abort. -/
def editProblem (s : State) (i : Fin 16) (k : Nat) (stamp : Stamp) (c : EgCopy) : Option Bool :=
  if c.whole s then
    match editedFrame stamp c.edits (c.payload s) with
    | .ok b => if fld (s.lane i k).cfg 29 16 < b.length + 4 then some false else none
    | .abort => some true
    | .fault => some false
  else none
/-- A frame starts at `t` on port `k`; a copy whose frame is bad, whose chain ends at a quarantined cell or whose edits fail is
dropped instead (R76, R180, R181, R251), and one whose packet was refused a cell is discarded.  `cls` is the PRIO that counts the frame
(R454). -/
def startFrame (i : Fin 16) (k t delim : Nat) (prio cutAt : Option Nat) (cls : Nat) (c : EgCopy) (s : State) : Bool × State :=
  let stamp := s.txStamp i k delim
  if c.cutOff s i then (false, releaseChain i c s)
  else if c.badFrame s i then (false, dropCopy i 0x8E c s)
  else if (s.slice i).bpm.chainBad (c.cellList s i) then (false, dropCopy i 0x87 c s)
  else match editProblem s i k stamp c with
    | some abort => (false, dropCopy i 0x8F c (if abort then s.countPort i k 11 1 else s))
    | none =>
      (true, pmcEvent i 0x50 c.len { cls := cls, range := k } (s.modSch i (fun d => d.modPort k (fun p =>
        { p with tx := some { copy := c, stamp := stamp, prio := prio, start := t, cutAt := cutAt }, guardHeld := p.guardHeld.erase c.id }))))

/-- The smallest S in a port's release queue. -/
def State.nextRelease (s : State) (i : Fin 16) (k : Nat) : Option Nat :=
  (((s.sch i).port k).eqx.map (fun c => if c.atOnce then s.sliceT i else s.releaseStart i k c.release)).foldl
    (fun a x => match a with
      | none => some x
      | some y => some (min x y)) none
/-- The guard's verdict (R305): start whole, start and cut at an instant, or hold. -/
inductive GuardVerdict where
  | go (cutAt : Option Nat)
  | hold
  deriving DecidableEq, Repr
def eqxGuard (s : State) (i : Fin 16) (k : Nat) (prio : Option Nat) (len : Nat) : GuardVerdict :=
  match s.nextRelease i k with
  | none => .go none
  | some r =>
    let l := s.lane i k
    let t := s.sliceT i
    let pre := match prio with
      | some p => l.preemptable p
      | none => false
    if l.endsBy len t r then .go none
    else if pre && l.endsBy (l.minFrag + 24) t r then .go (some r)
    else .hold
/-- EQX_GUARD_HOLD: a frame that is held counts once until it starts. -/
def holdFrame (i : Fin 16) (k id : Nat) (s : State) : State :=
  if ((s.sch i).port k).guardHeld.contains id then s
  else (s.count i (Reg.EQX_PORT_COUNT + 8 * k) 15 0).modSch i (fun d => d.modPort k (fun p => { p with guardHeld := id :: p.guardHeld }))

/-- An Equinox copy starts at `t` (R303, R304, R307): SENT, LATE and UNALIGNED are counted. -/
def startEqx (i : Fin 16) (k t : Nat) (c : EgCopy) (s : State) : Bool × State :=
  let s0 := s.modSch i (fun d => d.modPort k (fun p => { p with eqx := p.eqx.erase c }))
  let delim := if t = s.releaseStart i k c.release then c.release else s.delimAt i k t
  let r := startFrame i k t delim none none c.pfc c s0
  if r.1 then
    let late := c.atOnce || decide (c.release + c.tol < delim)
    let pc := Reg.EQX_PORT_COUNT + 8 * k
    let grp := fun (e : Egress) (f : EqxGroup → EqxGroup) =>
      { e with eqx := NMap.set {} e.eqx c.group (f (NMap.get {} e.eqx c.group)) }
    let s1 := (r.2.count i pc 63 32).modEg i (fun e => grp e (fun g => { g with sent := satN 32 (g.sent + 1) }))
    let s2 := if late then
        ((s1.count i pc 31 16).modEg i (fun e => grp e (fun g => { g with late := satN 32 (g.late + 1) }))).setReg i
          Reg.EQX_LAST_LATE (pack [(57, 48, c.group), (37, 32, k), (31, 0, satN 32 (delim - c.release))])
      else s1
    let u := (s.slice i).tbu
    (true, if !u.checkValid || u.alarm then s2.count i Reg.EQX_COUNT 63 32 else s2)
  else r
/-- The Equinox copy that the port can start now: due by its S or at once, its priority not held. -/
def State.eqxReady (s : State) (i : Fin 16) (k : Nat) : Option EgCopy :=
  ((s.sch i).port k).eqx.find? (fun c =>
    (c.atOnce || decide (s.releaseStart i k c.release ≤ s.sliceT i)) && !(s.lane i k).prioPaused c.pfc s.uptime)
/-- A merge entry starts (R288, R296, R297): HELD counts when it starts more than 1 µs after it became due. -/
def startMerge (i : Fin 16) (k : Nat) (c : EgCopy) (s : State) : Bool × State :=
  let t := s.sliceT i
  let s0 := s.modSch i (fun d => d.modPort k (fun p => { p with merge := p.merge.erase c }))
  let r := startFrame i k t (s.delimAt i k t) none none (fld (s.ligCfg i k) 61 59) c s0
  if r.1 then
    let s1 := if c.dueTime (s.horizon i k) + 16000 < t then r.2.count i (Reg.LIG_COUNT1 + 8 * k) 31 0 else r.2
    (true, reportCopy c 0 s1)
  else (false, r.2)
/-- S in the cycle of S, so that the start is placed to 1/16 ns (R303); else slice time now. -/
def State.eqxStart (s : State) (i : Fin 16) (k : Nat) (c : EgCopy) : Nat :=
  let at_ := s.releaseStart i k c.release
  if s.sliceT i < at_ + 11 ∧ ¬ c.atOnce then at_ else s.sliceT i
/-- The due merge entry at the head of the release order, its priority not held. -/
def State.mergeReady (s : State) (i : Fin 16) (k : Nat) : Option EgCopy :=
  if (s.lane i k).prioPaused (fld (s.ligCfg i k) 61 59) s.uptime then none
  else ((s.sch i).port k).merge.find? (fun c => c.due (s.horizon i k) (s.sliceT i))

/-- A preempted frame resumes once its priority is neither paused nor closed, and a fragment of it ends by the next release start
(R80, R305).  A received PAUSE, too, holds the rest of a preempted frame: R77 says that the frame in transmission completes and
does not say whether that is one (log 93). -/
def resumeFrame (i : Fin 16) (k : Nat) (s : State) : Option State :=
  let p := (s.sch i).port k
  match p.preempted with
  | none => none
  | some x =>
    let prio := x.prio.getD 0
    let fits : Bool := match s.nextRelease i k with
      | some r => (s.lane i k).endsBy ((s.lane i k).minFrag + 24) (s.sliceT i) r
      | none => true
    if (s.lane i k).prioPaused prio s.uptime ∨ (s.sch i).gates k (s.sliceT i) / 2 ^ prio % 2 = 0 ∨ fits = false then none
    else some (s.modSch i (fun d => d.modPort k (fun p =>
      { p with preempted := none, tx := some { x with start := s.sliceT i, cutAt := s.nextRelease i k } })))
/-- The hierarchy's selection starts, or is held by the guard. -/
def startSelected (i : Fin 16) (k : Nat) (s : State) : Bool × State :=
  match s.portPick i k with
  | none => (true, s)
  | some (v, q) =>
    match ((s.sch i).queue q).copies with
    | [] => (true, s)
    | c :: _ =>
      let prio := s.queuePrio i q
      match eqxGuard s i k (some prio) c.len with
      | .hold => (true, holdFrame i k c.id s)
      | .go cutAt =>
        let t := s.sliceT i
        let r := startFrame i k t (s.delimAt i k t) (some prio) cutAt prio c (takeHead i q s)
        (r.1, refreshTags i (if r.1 then headSent i k v q c r.2 else r.2))

/-- What a port that is idle starts (R273); a copy dropped at its start lets the next be tried. -/
def portStartFrom (i : Fin 16) (k : Nat) : Nat → State → State
  | 0, s => s
  | n + 1, s =>
    if !(s.lane i k).enabled || !(s.lane i k).linkUp || ((s.sch i).port k).tx.isSome || (s.lane i k).paused s.uptime then s
    else match s.eqxReady i k with
      | some c =>
        let r := startEqx i k (s.eqxStart i k c) c s
        if r.1 then r.2 else portStartFrom i k n r.2
      | none => match s.mergeReady i k with
        | some c =>
          (match eqxGuard s i k none c.len with
          | .hold => holdFrame i k c.id s
          | .go _ =>
            let r := startMerge i k c s
            if r.1 then r.2 else portStartFrom i k n r.2)
        | none => match (if (s.portPick i k).isSome then none else resumeFrame i k s) with
          | some s1 => s1
          | none =>
            let r := startSelected i k s
            if r.1 then r.2 else portStartFrom i k n r.2
/-- Copies a port could try in one boundary. -/
def State.portWork (s : State) (i : Fin 16) (k : Nat) : Nat :=
  let p := (s.sch i).port k
  1 + p.merge.length + p.eqx.length + sumNat ((s.sch i).queues.map (fun e => e.2.copies.length))
/-- An express frame waits that the port could start now: an Equinox or merge copy, or one of an express priority. -/
def State.expressWaits (s : State) (i : Fin 16) (k : Nat) : Bool :=
  !(s.lane i k).paused s.uptime && ((s.eqxReady i k).isSome ||
    (match s.mergeReady i k with
      | some c => decide (eqxGuard s i k none c.len ≠ .hold)
      | none => match s.portPick i k with
        | some (_, q) => (((s.sch i).queue q).copies.head?.map (fun c =>
            decide (eqxGuard s i k (some (s.queuePrio i q)) c.len ≠ .hold))).getD false
        | none => false))
/-- A queued express frame preempts a preemptable frame in transmission (R80). -/
def preemptForExpress (i : Fin 16) (k : Nat) (s : State) : State :=
  match ((s.sch i).port k).tx with
  | some x =>
    if s.mayCut i k x then
      let s1 := refreshTags i (cutFrame i k s)
      if s1.expressWaits i k then s1 else s
    else s
  | none => s
/-- PORT_FRAME_BOUNDARY, and every event that makes work for a port (R80, R273). -/
def portStart (i : Fin 16) (k : Nat) (s : State) : State :=
  let s1 := preemptForExpress i k (refreshTags i s)
  portStartFrom i k (s1.portWork i k) s1

/-- EQX_RELEASE_START (R303, R305): at S the port starts the copy, cutting a preemptable frame that the guard let start, or that
was on the wire before the copy came and has sent a fragment. -/
def eqxRelease (i : Fin 16) (k : Nat) (s0 : State) : State :=
  let now := s0.sliceT i
  let s := match ((s0.sch i).port k).tx with
    | some x =>
      if x.cutAt.any (fun t => decide (t ≤ now)) || (s0.mayCut i k x && (s0.eqxReady i k).isSome) then cutFrame i k s0
      else s0
    | none => s0
  if ((s.sch i).port k).tx.isSome || !(s.lane i k).enabled || !(s.lane i k).linkUp then s
  else match s.eqxReady i k with
    | none => s
    | some c => (startEqx i k (s.eqxStart i k c) c s).2

/-- GATE_BOUNDARY (R279, R280): the gates of a port node stand as slice time says; a preemptable frame whose gate has closed
is preempted, unless too little of it is left to be a fragment, and an idle port may start a frame. -/
def gateBoundary (i : Fin 16) (k : Nat) (s : State) : State :=
  let s1 := match ((s.sch i).port k).tx with
    | some x => (match x.prio with
      | some p =>
        if (s.lane i k).preemptable p ∧ (s.sch i).gates k (s.sliceT i) / 2 ^ p % 2 = 0 ∧ s.leavesFinal i k x then cutFrame i k s else s
      | none => s)
    | none => s
  portStart i k s1

-- The end of a transmission ----------------------------------------------------------------------------------------

/-- A frame in transmission ends cut off, with an invalid FCS (R32, R74); `count` for a cut-through abort. -/
def abortTx (i : Fin 16) (k : Nat) (x : Tx) (count : Bool) (s : State) : State :=
  let s1 := if count then s.countPort i k 11 1 else s
  let s2 := s1.emit (.frame (64 * i.val + k) ((match editedFrame x.stamp x.copy.edits (x.copy.payload s) with
    | .ok b => b.bytes
    | _ => x.copy.payload s)) false)
  releaseChain i x.copy s2
/-- TRANSMIT_COMPLETE (R180, R247): the edited frame has left with a new FCS, or was truncated or dropped.  A cut-through copy that is
found longer than MAX_LEN as its transmission ends leaves no frame at all (the model's choice, log 122). -/
def txComplete (i : Fin 16) (k : Nat) (s : State) : State :=
  match ((s.sch i).port k).tx with
  | none => s
  | some x =>
    let c := x.copy
    if !c.whole s && !c.badFrame s i then s
    else
      let s0 := s.modSch i (fun d => d.modPort k (fun p => { p with tx := none }))
      let s1 := if x.frags = 0 then s0 else s0.countPort i k 15 1
      if c.badFrame s i then abortTx i k x true s1
      else match editedFrame x.stamp c.edits (c.payload s) with
        | .ok b =>
          if fld (s.lane i k).cfg 29 16 < b.length + 4 then releaseChain i c (s1.countDrop i 0x8F)
          else
            releaseChain i c (((s1.countPort i k 8 1).countPort i k 9 (b.length + 4)).emit
              (.frame (64 * i.val + k) b.bytes true))
        | .abort => abortTx i k x true (s1.countDrop i 0x8F)
        | .fault => abortTx i k x false (s1.countDrop i 0x8F)

/-- Every copy that satisfies `p` leaves the queues of the slice, dropped with a reason. -/
def dropQueued (i : Fin 16) (code : Nat) (p : EgCopy → Bool) (s : State) : State :=
  let s1 := (s.sch i).queues.foldl (fun a e =>
    (e.2.copies.filter p).foldl (fun b c => dropCopy i code c b)
      (a.modSch i (fun c => c.modQueue e.1 (fun q => { q with copies := q.copies.filter (fun c => !p c) })))) s
  let s2 := (s.sch i).ports.foldl (fun a e =>
    let a1 := a.modSch i (fun c => c.modPort e.1 (fun q =>
      { q with merge := q.merge.filter (fun c => !p c), eqx := q.eqx.filter (fun c => !p c) }))
    (e.2.eqx.filter p).foldl (fun b c => dropCopy i code c b)
      ((e.2.merge.filter p).foldl (fun b c => dropCopy i code c b) a1)) s1
  refreshTags i s2
/-- A shaper's count has grown back to zero (R275): an idle port may start. -/
def shaperEligible (i : Fin 16) (k : Nat) (s : State) : State := portStart i k s

end Sys2Proof.Machine
end

