-- ==== Sys2Proof/Machine/Ligature.lean ====
section
/-!
DEFINITION. Registers and commands of Ligature, Equinox and the multicast lists: merge port configuration, the Ligature seed
and the RANK made with it, the group and list tables.
-/
namespace Sys2Proof.Machine
open Sys2Proof

/-- A write of LIG_CFG[k] (R310): discarded and counted in LIG_REFUSED in the cases the rule names. -/
def ligCfgWrite (i : Fin 16) (r : Requester) (k : Nat) (h : Half) (w : Word) (s : State) : State :=
  let old := s.ligCfg i k
  let new := mergeWrite old w h 0xFFFFFFFFFFFFFFFF
  if s.sliceWriter i r then
    let held := !((s.sch i).port k).merge.isEmpty
    if (held && (decide (fld new 13 0 < fld old 13 0) || (bitAt old 63 && !bitAt new 63))) ||
       decide (fld new 13 0 < 100) || decide (10000 < fld new 13 0) ||
       decide (new.toNat &&& (2 ^ 64 - 1 - 0xF8FF000000003FFF) ≠ 0) then s.count i Reg.LIG_REFUSED 63 0
    else s.setReg i (Reg.LIG_CFG + 8 * k) new
  else s
/-- LIG_STATUS[k] as it reads; a read of LIG_COUNT0[k] restarts the high-water mark. -/
def EgPort.ligStatus (p : EgPort) : Word := pack [(29, 16, p.highWater), (13, 0, p.merge.length)]
def resetHighWater (i : Fin 16) (k : Nat) (s : State) : State :=
  s.modSch i (fun d => d.modPort k (fun p => { p with highWater := p.merge.length }))

-- The seed (R300) --------------------------------------------------------------------------------------------------

def State.ligTime (s : State) : Stamp := stampOfPair (s.greg Reg.LIG_SEED_TIME0) (s.greg Reg.LIG_SEED_TIME1)
def modLig (f : LigSeed → LigSeed) (s : State) : State := { s with lig := f s.lig }
/-- SCHEDULE and CANCEL, for the device-owner PF and the Scribe. -/
def ligSeedCommand (r : Requester) (w : Word) (s : State) : State :=
  runCommand (s.globalWriter r) (fun s => s.lig.cmd) (fun c s => modLig (fun l => { l with cmd := c }) s)
    (fun s => s.gcount Reg.GLB_REFUSED 47 32) (fun s =>
      match fld w 3 0 with
      | 1 =>
        judge [(s.ligTime.malformed || decide (s.ligTime.t16 < s.centralT + 16000000), .badArg),
               (s.lig.pending.isSome, .stateRefused)] s (fun s =>
          (.ok, modLig (fun l => { l with pending := some (l.next, s.ligTime.t16) }) s))
      | 2 =>
        judge [(s.lig.pending.isNone, .stateRefused)] s (fun s => (.ok, modLig (fun l => { l with pending := none }) s))
      | _ => (.badArg, s)) s
def LigSeed.status (l : LigSeed) : Word := pack ([(47, 32, l.epoch), (8, 8, b2n l.pending.isSome)] ++ l.cmd.fields)
/-- SEED_SWITCH: at SWITCH_TIME the next seed takes force in every slice, which keeps the previous one beside those that it still
holds. -/
def seedSwitch (s : State) : State :=
  match s.lig.pending with
  | none => s
  | some (w, t) =>
    if t ≤ s.centralT then
      (List.finRange 16).foldl (fun a i => a.modEg i (fun e => { e with seed := w, prevSeed := (e.seed, t) :: e.prevSeed }))
        (modLig (fun l => { l with pending := none, epoch := (l.epoch + 1) % 65536 }) s)
    else s
/-- A previous seed, replaced at `t`, is no longer needed: 10 µs have passed and no packet captured before the switch is uncommitted. -/
def State.seedSpent (s : State) (i : Fin 16) (t : Nat) : Bool :=
  decide (t + 160000 ≤ s.sliceT i) && (s.slice i).packets.all (fun e => e.2.committed.isSome || decide (t ≤ e.2.capture.t16))
/-- SEED_ERASE: the previous seeds that are spent go. -/
def seedErase (i : Fin 16) (s : State) : State :=
  s.modEg i (fun e => { e with prevSeed := e.prevSeed.filter (fun p => !s.seedSpent i p.2) })
/-- The slice's seed for an instant TS before any pending switch: the one that the first switch after TS replaced, else the current
one. -/
def State.seedBefore (s : State) (i : Fin 16) (ts : Nat) : Word :=
  (s.slice i).eg.prevSeed.foldl (fun w p => if ts < p.2 then p.1 else w) (s.slice i).eg.seed
/-- The seed in force at the instant TS. -/
def State.seedAt (s : State) (i : Fin 16) (ts : Nat) : Word :=
  match s.lig.pending with
  | some (w, t) => if t ≤ ts then w else s.seedBefore i ts
  | none => s.seedBefore i ts
/-- RANK_COMPUTE (R289). -/
def State.rankOf (s : State) (i : Fin 16) (capture : Stamp) (port : Nat) : Nat :=
  let n := capture.toNat
  crc64 (crc64 (s.seedAt i capture.t16).toNat (bitsOf n 77 14)) (port * 2 ^ 32 + bitsOf n 95 78)

-- Equinox groups (R311) --------------------------------------------------------------------------------------------

def State.eqxGroup (s : State) (i : Fin 16) (g : Nat) : EqxGroup := NMap.get {} (s.slice i).eg.eqx g
/-- READ and WRITE of EQX_CMD. -/
def eqxRead (i : Fin 16) (g : Nat) (s : State) : CmdStatus × State :=
  let e := s.eqxGroup i g
  (.ok, ((s.setReg i Reg.EQX_DATA0 e.w0).setReg i Reg.EQX_DATA1 e.w1).setReg i Reg.EQX_DATA2
    (pack [(63, 32, e.sent), (31, 0, e.late)]))
def eqxWrite (i : Fin 16) (g : Nat) (s : State) : CmdStatus × State :=
  let w := s.reg i Reg.EQX_DATA0
  judge [(decide (fld w 15 0 < 300) || decide (50000 < fld w 15 0) ||
          decide (w.toNat &&& (2 ^ 64 - 1 - 0x8007FFFF3FFFFFFF) ≠ 0), .badArg)] s (fun s =>
    (.ok, s.modEg i (fun e => { e with
      eqx := NMap.set {} e.eqx g { NMap.get {} e.eqx g with w0 := w, w1 := s.reg i Reg.EQX_DATA1 } })))
/-- EQX_CMD written, by the owner PF or the Scribe (R311). -/
def eqxCommand (i : Fin 16) (r : Requester) (w : Word) (s : State) : State :=
  runCommand (s.sliceWriter i r) (fun s => (s.slice i).eg.eqxCmd) (fun c s => s.modEg i (fun e => { e with eqxCmd := c }))
    (fun s => s.count i Reg.SLC_REFUSED 63 0) (fun s =>
      match fld w 3 0 with
      | 1 => eqxRead i (fld w 25 16) s
      | 2 => eqxWrite i (fld w 25 16) s
      | _ => (.badArg, s)) s

-- Multicast lists (R499, R500) -------------------------------------------------------------------------------------

/-- MCL_DATA0 and MCL_DATA1 of list `l`. -/
def State.mclEntry (s : State) (i : Fin 16) (l : Nat) : Word × Word := NMap.get (0, 0) (s.slice i).eg.mcl l
def mclRead (i : Fin 16) (l : Nat) (s : State) : CmdStatus × State :=
  let e := s.mclEntry i l
  (.ok, (s.setReg i Reg.MCL_DATA0 e.1).setReg i Reg.MCL_DATA1 e.2)
def mclWrite (i : Fin 16) (l : Nat) (s : State) : CmdStatus × State :=
  let w := s.reg i Reg.MCL_DATA0
  judge [(decide (w.toNat &&& (2 ^ 64 - 1 - 0x800000000000FFFF) ≠ 0), .badArg)] s (fun s =>
    (.ok, s.modEg i (fun e => { e with mcl := NMap.set (0, 0) e.mcl l (w, s.reg i Reg.MCL_DATA1) })))
def mclCommand (i : Fin 16) (r : Requester) (w : Word) (s : State) : State :=
  runCommand (s.sliceWriter i r) (fun s => (s.slice i).eg.mclCmd) (fun c s => s.modEg i (fun e => { e with mclCmd := c }))
    (fun s => s.modEg i (fun e => { e with mclRefused := satN 16 (e.mclRefused + 1) })) (fun s =>
      match fld w 3 0 with
      | 1 => mclRead i (fld w 27 16) s
      | 2 => mclWrite i (fld w 27 16) s
      | _ => (.badArg, s)) s
def Egress.mclStatus (e : Egress) : Word := pack ((47, 32, e.mclRefused) :: e.mclCmd.fields)

/-- The slices of a group or list that this slice's entry names, when it is VALID (R301, R499). -/
def State.memberSlices (s : State) (i : Fin 16) (t : Target) : Option (List Nat) :=
  match t with
  | .eqx g =>
    let e := s.eqxGroup i g
    if 1024 ≤ g ∨ ¬ bitAt e.w0 63 then none else some (onesList 16 (fld e.w0 47 32))
  | .mcast l =>
    let e := s.mclEntry i l
    if 4096 ≤ l ∨ ¬ bitAt e.1 63 then none else some (onesList 16 (fld e.1 15 0))
  | .queue q => some [q / 4096]
  | .replay q _ => some [q / 4096]
  | .port p => some [p / 64]
  | .merge p => some [p / 64]
  | .punt .. => some []

end Sys2Proof.Machine
end

