-- ==== Sys2Proof/Machine/Crossbar.lean ====
section
/-!
DEFINITION. From the order restorer to the egress queues: partitions, the crossing of a copy, copies made at the egress slice,
and the retiring of packets in their port's order ("Slices, Crossbar and a Packet's Life", R120 to R124).
-/
namespace Sys2Proof.Machine
open Sys2Proof

-- Partitions (R23 to R26) ------------------------------------------------------------------------------------------

/-- Partition of a slice (Table 01.8). -/
def State.partition (s : State) (i : Fin 16) : Nat := fld (s.greg Reg.XBR_PART_MAP) (4 * i.val + 3) (4 * i.val)
/-- One count of XBR_PART_DROP of an ingress slice. -/
def countPartDrop (i : Fin 16) (s : State) : State := s.gcount (Reg.XBR_PART_DROP + 8 * i.val) 63 0
/-- A write of XBR_PART_MAP (R25, R26). -/
def partMapWrite (r : Requester) (h : Half) (w : Word) (s : State) : State :=
  if s.globalWriter r then
    if s.xbrPending then { s with xbrRefused := satN 16 (s.xbrRefused + 1) }
    else { s.setGreg Reg.XBR_PART_MAP (mergeWrite (s.greg Reg.XBR_PART_MAP) w h 0xFFFFFFFFFFFFFFFF) with xbrPending := true }
  else s
/-- XBR_APPLY_DONE (R25). -/
def xbrApplyDone (s : State) : State := { s with xbrPending := false }
def State.xbrStatus (s : State) : Word := pack [(47, 32, s.xbrRefused), (0, 0, b2n s.xbrPending)]
/-- The first reason of R197 for which a copy from slice `i` cannot go to slice `e`, 0 for none. -/
def crossDrop (s : State) (i e : Fin 16) : Nat :=
  if i = e then 0
  else if s.partition i ≠ s.partition e then 0x84
  else if s.unitFenced i .xbr || s.unitFenced e .xbr then 0x8D
  else if (s.slice e).pwr ≠ .active then 0x85
  else 0
/-- A copy dropped at its ingress slice; a partition drop also counts in XBR_PART_DROP. -/
def dropAtIngress (i : Fin 16) (code : Nat) (s : State) : State :=
  let s1 := s.countDrop i code
  if code = 0x84 then countPartDrop i s1 else s1

-- The restorer's turn (R111, R121, R124) ---------------------------------------------------------------------------

/-- A port's turn moves past every number that is already done. -/
def Lane.advance : Nat → Lane → Lane
  | 0, l => l
  | n + 1, l =>
    if l.doneAhead.contains l.turn then
      Lane.advance n { l with turn := (l.turn + 1) % 2 ^ 32, doneAhead := l.doneAhead.erase l.turn,
                              entryAhead := l.entryAhead.erase l.turn, ended := l.ended.erase l.turn }
    else l
/-- A number of the port is retired or handed on; it keeps a restorer entry that it holds until its turn. -/
def Lane.retire (l : Lane) (n : Nat) (entry : Bool) : Lane :=
  Lane.advance (l.doneAhead.length + 2)
    { l with doneAhead := n :: l.doneAhead, entryAhead := if entry then n :: l.entryAhead else l.entryAhead }
/-- Every packet of the port below number `n` has ended its thread or been retired (R176); they have once the port's turn has passed
`n`. -/
def Lane.allEnded (l : Lane) (n : Nat) : Bool :=
  let d := (n + 2 ^ 32 - l.turn) % 2 ^ 32
  decide (2 ^ 31 ≤ d) || (List.range d).all (fun k =>
    let m := (l.turn + k) % 2 ^ 32
    l.ended.contains m || l.doneAhead.contains m)
/-- The packet leaves the ingress slice once nothing of it is left there (R30, R124). -/
def leaveIngress (i : Fin 16) (n : Nat) (s : State) : State :=
  match s.packet i n with
  | none => s
  | some p =>
    if p.committed = some [] ∧ p.leaving = 0 ∧ p.held = [] ∧ (s.lane i p.lane).rx ≠ some n ∧ (s.lane i p.lane).rxHeld ≠ some n then (freeIngress i p s).delPacket i n
    else s
/-- A packet with nothing to hand on is retired (R121): its number is done, its entry given up, its cells freed. -/
def retirePacket (i : Fin 16) (n : Nat) (s : State) : State :=
  match s.packet i n with
  | none => s
  | some p =>
    let s1 := s.modLane i p.lane (fun l => if p.parsed then l.retire p.seq p.entry else l)
    leaveIngress i n (s1.setPacket i n { p with entry := false, committed := some [] })

-- Copies at an egress slice (R29, R301, R499) ----------------------------------------------------------------------

/-- R31 for a copy toward queue `q` of port node `k` of slice `e`. -/
def cutOk (s : State) (e : Fin 16) (k q speed : Nat) : Bool :=
  ((s.sch e).port k).tx.isNone && ((s.sch e).queue q).copies.isEmpty && decide (0 < (s.lane e k).gbps) &&
  decide ((s.lane e k).gbps ≤ gbps speed) && (s.slice e).namesPort k
/-- A copy for the egress side made from a crossing; it counts every cell that its whole frame takes (R269). -/
def mkCopy (s : State) (x : Cross) (src : Nat) (inbound : Bool) (chain : Nat) : EgCopy :=
  let f := s.frame x.frame
  let own := match x.copy.target with
    | .replay _ b => some b
    | _ => none
  let n := match own with
    | some b => b.length
    | none => if f.done then f.bytes.length - 4 else x.len
  { id := s.nextId, inbound := inbound, chain := chain, src := src, pkt := x.pkt.getD 0, inPort := x.port, frame := x.frame,
    bytes := own, capture := x.capture, port := 0, edits := x.copy.edits, cells := max 1 (cellsFor n), len := editedLen x.copy.edits n + 4,
    cls := x.copy.cls, cut := x.copy.cut, evidential := x.evidential, info := x.info, seqnum := x.seqnum,
    ts := x.capture.t16, rank := x.copy.rank,
    group := (match x.copy.target with
      | .eqx g => g
      | _ => 0),
    release := x.copy.release, tol := x.copy.tol, pfc := x.copy.pfc }
/-- The member port nodes of this slice for a group or list, none when its entry has no member. -/
def State.members (s : State) (e : Fin 16) (t : Target) : List Nat :=
  match t with
  | .eqx g => if bitAt (s.eqxGroup e g).w0 63 then onesList 64 (s.eqxGroup e g).w1.toNat else []
  | .mcast l => if bitAt (s.mclEntry e l).1 63 then onesList 64 (s.mclEntry e l).2.toNat else []
  | .port p => [p % 64]
  | .merge p => [p % 64]
  | .queue q => [q % 4096]
  | .replay q _ => [q % 4096]
  | .punt .. => []
/-- A copy that reaches a slice where its group or list has no member (R301, R499). -/
def orphan (e : Fin 16) (t : Target) (s : State) : State :=
  match t with
  | .mcast _ => (s.countDrop e 0x8A).count e Reg.MCL_COUNT 31 0
  | _ => (s.countDrop e 0x8A).count e Reg.EQX_COUNT 31 16
/-- One copy enqueued for one member of its target (R267, R288, R301, R499). -/
def enqueueMember (e : Fin 16) (x : Cross) (k : Nat) (c : EgCopy) (s0 : State) : State :=
  let s := { s0 with nextId := s0.nextId + 1 }
  match x.copy.target with
  | .queue _ => enqueueQueue e k x.copy.colour c s
  | .replay _ _ => enqueueQueue e k x.copy.colour c s
  | .port _ => enqueuePort e k x.copy.colour c s
  | .merge _ => enqueueMerge e k x.alarm c s
  | .eqx _ => enqueueEqx e k c s
  | .mcast _ =>
    let q := (fld (s.actEntry e 0 k).w0 11 0 + c.cls) % 4096
    enqueuePort e k x.copy.colour { c with cut := cutOk s e k q x.speed } (s.count e Reg.MCL_COUNT 63 32)
  | .punt .. => s
/-- The ports that may start a frame after copies were made are tried. -/
def startPorts (e : Fin 16) (s : State) : State :=
  (s.slice e).lanes.foldl (fun a l => if l.2.enabled then portStart e l.1 a else a) s
/-- The copies that cross together, each as a crossing of its own. -/
def Cross.parts (x : Cross) : List Cross := { x with more := [] } :: x.more.map (fun c => { x with copy := c, more := [] })
/-- Every copy of a crossing made and enqueued at slice `e`: one for each member of each part, and an orphan for a part without
one. -/
def makeCopies (e : Fin 16) (x : Cross) (src : Nat) (inbound : Bool) (chain : Nat) (s : State) : State :=
  x.parts.foldl (fun a y =>
    let ms := a.members e y.copy.target
    if ms.isEmpty then orphan e y.copy.target a
    else ms.foldl (fun b k => enqueueMember e y k (mkCopy b y src inbound chain) b) a) s
/-- How many copies a crossing makes at slice `e`. -/
def State.copiesOf (s : State) (e : Fin 16) (x : Cross) : Nat := sumNat (x.parts.map (fun y => (s.members e y.copy.target).length))

/-- A slice is given a packet whose epoch is none of its own (R350). -/
def epochSplit (e : Fin 16) (epoch : Nat) (s : State) : State :=
  let f := (s.slice e).fol
  if epoch = f.active ∨ epoch = f.previous ∨ (f.armed ∧ epoch = f.armedEp) then s else s.count e Reg.FOL_SPLIT_COUNT 63 0

-- Hand-on (R121, R122, R373) ---------------------------------------------------------------------------------------

/-- The bytes of a punted copy, edited when asked (R193); an edit fault leaves none. -/
def puntBytes (edited : Bool) (es : List Edit) (bytes : List Byte) (stamp : Stamp) : Option (List Byte) :=
  if edited then
    match editedFrame stamp es bytes with
    | .ok b => some b.bytes
    | _ => none
  else some bytes
/-- The packet's own chain holds a quarantined cell (R251). -/
def State.packetBroken (s : State) (i : Fin 16) (pkt : Option Nat) : Bool :=
  match pkt.bind (s.packet i ·) with
  | some p => (s.slice i).bpm.chainBad p.cells
  | none => false
/-- A punt copy takes its pool buffer and is posted to its ring (R193).  Timestamps that an EDITED punt's edits take at transmission are
those of the slice's time at its hand-on (the model's choice, log 122). -/
def handPunt (i : Fin 16) (x : Cross) (ring code : Nat) (edited : Bool) (s : State) : State :=
  let f := s.frame x.frame
  if s.packetBroken i x.pkt then s.countDrop i 0x87
  else match puntBytes edited x.copy.edits (f.bytes.take (f.bytes.length - 4)) (s.sliceStamp i) with
  | none => s.countDrop i 0x8F
  | some b =>
    if s.ringTakes i ring then
      match allocPool i b.length (0x100 + ring) s with
      | (some buf, s1) => postItem i ring (.punt code x.port x.seqnum edited x.info x.capture b buf) s1
      | (none, s1) => s1.countDrop i 0x8B
    else (s.count i (rng Reg.RNG_COUNT ring) 31 0).countDrop i 0x8B
/-- The archive's numbering of a multicast or Equinox copy. -/
def archiveHandOn (i : Fin 16) (x : Cross) (s : State) : State :=
  match x.copy.target with
  | .mcast l => archiveCopy i 0 l x.frame x.copy.edits x.capture (editedLen x.copy.edits x.len) s
  | .eqx g => archiveCopy i 1 g x.frame x.copy.edits x.capture (editedLen x.copy.edits x.len) s
  | _ => s
/-- A copy for a merge port or an Equinox group, which is never cut-through (R31). -/
def Copy.isTimed (c : Copy) : Bool :=
  match c.target with
  | .merge _ => true
  | .eqx _ => true
  | _ => false
/-- A copy that stays in its slice: its cells are the packet's own (R30). -/
def handLocal (i : Fin 16) (x : Cross) (s : State) : State :=
  let p := x.pkt.getD 0
  startPorts i (makeCopies i x i.val false p (s.modPacket i p (fun y => { y with leaving := y.leaving + s.copiesOf i x })))
/-- A merge or Equinox copy for its own slice waits for the frame's last byte (R31); any other is handed over at once. -/
def keepLocal (i : Fin 16) (x : Cross) (s : State) : State :=
  if x.copy.isTimed && !(s.frame x.frame).done then
    s.modPacket i (x.pkt.getD 0) (fun y => { y with held := y.held ++ [x.copy] })
  else handLocal i x s
/-- A replayed copy brings its own bytes. -/
def Copy.isReplay (c : Copy) : Bool :=
  match c.target with
  | .replay _ _ => true
  | _ => false
/-- The waiting crossing that a copy joins: one of its packet that carries the packet's own bytes (R29). -/
def Cross.takes (x y : Cross) : Bool := x.pkt.isSome && decide (x.pkt = y.pkt) && !x.copy.isReplay && !y.copy.isReplay
/-- A copy toward another slice waits in its virtual output queue; copies of one packet cross together (R29). -/
def pushCross (i e : Fin 16) (x : Cross) (s : State) : State :=
  let k := 8 * e.val + x.copy.xcls
  let q := NMap.get [] (s.slice i).eg.voq k
  let put := fun (l : List Cross) (s : State) => s.modEg i (fun g => { g with voq := NMap.set [] g.voq k l })
  if q.any (fun y => y.takes x) then
    put (q.map (fun y => if y.takes x then { y with more := y.more ++ [x.copy] } else y)) s
  else
    put (q ++ [x]) (match x.pkt with
      | some p => s.modPacket i p (fun y => { y with leaving := y.leaving + 1 })
      | none => s)
/-- One copy handed on: to a ring, to this slice's queues, or toward each slice of its target.  A copy that R15 or R23 removes
counts once for each slice that it is removed from, in DRP_COUNT and for a partition in XBR_PART_DROP: the spec does not say how
often they rise for one packet with members on several such slices (log 94). -/
def handCopy (i : Fin 16) (x : Cross) (s : State) : State :=
  match x.copy.target with
  | .punt ring code edited => handPunt i x ring code edited s
  | _ =>
    (archiveHandOn i x s |> fun s1 => x.copy.slices.foldl (fun a e =>
      if e = i.val then keepLocal i x a
      else
        let code := crossDrop a i (sl e)
        if code ≠ 0 then dropAtIngress i code a else pushCross i (sl e) x a) s1)
/-- The crossing of a packet's copy. -/
def crossOf (i : Fin 16) (n : Nat) (p : Packet) (c : Copy) : Cross :=
  { pkt := some n, frame := p.frame, copy := c, epoch := p.epoch, capture := p.capture, port := 64 * i.val + p.lane,
    speed := p.speed, len := p.parse.frameLen, evidential := p.evidential, info := c.info, seqnum := p.seq, alarm := p.alarm }
/-- Copies of a packet handed on in order, or discarded: when its frame proved bad (R76), and when a cell of it was refused,
which counted the packet's drop then (R249).  A bad frame counts once for a packet of which nothing has been handed on, and once for
each copy that is left of any other (R198). -/
def handCopies (i : Fin 16) (n : Nat) (p : Packet) (cs : List Copy) (s : State) : State :=
  if (s.frame p.frame).cutOff then s
  else if (s.frame p.frame).bad then
    (if cs.isEmpty then s else if p.handed then cs.foldl (fun a _ => a.countDrop i 0x8E) s else s.countDrop i 0x8E)
  else
    let s1 := cs.foldl (fun a c => handCopy i (crossOf i n p c) a) s
    if cs.isEmpty then s1 else s1.modPacket i n (fun y => { y with handed := true })
/-- The frame has ended: the merge and Equinox copies that waited for it go to their slice's queues, or end. -/
def handHeld (i : Fin 16) (n : Nat) (s : State) : State :=
  match s.packet i n with
  | none => s
  | some p => leaveIngress i n (handCopies i n p (p.held.map (fun c => { c with slices := [i.val] }))
      (s.setPacket i n { p with held := [] }))
/-- The packet of a port whose turn it is. -/
def State.turnPacket (s : State) (i : Fin 16) (k : Nat) : Option (Nat × Packet) :=
  (s.slice i).packets.find? (fun e => decide (e.2.lane = k) && e.2.parsed && decide (e.2.seq = (s.lane i k).turn))
def Copy.isPunt (c : Copy) : Bool :=
  match c.target with
  | .punt .. => true
  | _ => false
/-- RESTORER_HAND_ON (R121): the packet whose turn it is hands its committed copies on, and gives up its entry.  A punt carries
the whole frame, so it waits for the frame's end. -/
def restorerHandOn (i : Fin 16) (k : Nat) (s : State) : State :=
  match s.turnPacket i k with
  | none => s
  | some (n, p) =>
    match p.committed with
    | none => s
    | some cs =>
      if cs.any Copy.isPunt && !(s.frame p.frame).done then s
      else retirePacket i n (handCopies i n p cs s)

-- Arrival (R22, R25, R30, R247) ------------------------------------------------------------------------------------

/-- Cells for a crossing at the egress slice; all of them, or none when one is refused (R249). -/
def takeCells (e : Fin 16) (c7 : Bool) : Nat → List Nat → State → Option (List Nat) × State
  | 0, l, s => (some l, s)
  | n + 1, l, s =>
    match allocGeneral e 0x010 c7 s with
    | (some c, s1) => takeCells e c7 n (l ++ [c]) s1
    | (none, s1) => (none, (freeChain e 0x010 l s1).2)
/-- Cells taken for a chain are linked in order (R247). -/
def linkChain (e : Fin 16) (cells : List Nat) (s : State) : State :=
  s.modSlice e (fun x => { x with bpm := Bpm.linkFrom cells x.bpm })
/-- The ingress slice frees its cells once the crossing has taken them (R30). -/
def crossingDone (i : Fin 16) (x : Cross) (s : State) : State :=
  match x.pkt with
  | some n => leaveIngress i n (s.modPacket i n (fun p => { p with leaving := p.leaving - 1 }))
  | none => s
/-- XBR_CELLS_OUT and XBR_CELLS_IN (Table 18.1). -/
def countCells (i e : Fin 16) (cls n : Nat) (s : State) : State :=
  pmcEvent e 0x41 n { cls := cls, src := s.partition i } (pmcEvent i 0x40 n { cls := cls, src := s.partition e } s)
/-- Bytes of the frame that a crossing carries now. -/
def State.crossBytes (s : State) (x : Cross) : Nat :=
  match x.copy.target with
  | .replay _ b => b.length + 4
  | _ => (s.frame x.frame).bytes.length
/-- A packet lost in the crossbar or at its ingress slice: each of its copies there is dropped with a code. -/
def loseCross (i : Fin 16) (x : Cross) (code : Nat) (s : State) : State := x.parts.foldl (fun a _ => dropAtIngress i code a) s
/-- The copies of one crossing of a packet, counted as dropped at an egress slice. -/
def countParts (e : Fin 16) (x : Cross) (code : Nat) (s : State) : State := x.parts.foldl (fun a _ => a.countDrop e code) s
/-- A packet refused a cell at an egress slice (R249). -/
def refusedCell (e : Fin 16) (s : State) : State := (s.countDrop e 0x87).count e Reg.BPM_COUNT1 63 32
/-- The chain of an egress slice that holds a frame, when a crossing has brought it there and it is whole or still arrives (R247). -/
def Slice.chainOf (x : Slice) (frame : Nat) : Option Nat :=
  (x.eg.inbound.find? (fun b => decide (b.2.frame = frame) && !b.2.cutOff && !b.2.cells.isEmpty)).map (·.1)
/-- A crossing whose frame its egress slice holds already: no cell crosses again, and its copies join the chain (R29, R247). -/
def joinChain (e i : Fin 16) (x : Cross) (key : Nat) (s : State) : State :=
  let m := s.copiesOf e x
  let b := s.inbound e key
  crossingDone i x (makeCopies e x i.val true key (s.setInbound e key { b with refs := b.refs + m }))
/-- EGRESS_ARRIVAL: the head of the virtual output queue from slice `i` to `e` in a class crosses (R22, R25, R29, R30).  It waits
for the end of its frame unless a copy of it is cut-through; the copies of a packet share one chain at the egress slice (R247). -/
def egressArrival (e i : Fin 16) (cls : Nat) (s : State) : State :=
  let k := 8 * e.val + cls
  match NMap.get [] (s.slice i).eg.voq k with
  | [] => s
  | x :: rest =>
    let own := x.copy.isReplay
    let f := s.frame x.frame
    let whole := own || f.done
    if !whole && !x.parts.any (fun y => y.copy.cut) then s
    else
      let s1 := s.modEg i (fun g => { g with voq := NMap.set [] g.voq k rest })
      let code := crossDrop s1 i e
      if code ≠ 0 then crossingDone i x (loseCross i x code s1)
      else if !own && f.cutOff then crossingDone i x s1
      else if !own && f.bad then crossingDone i x (countParts e x 0x8E s1)
      else if !own && s1.packetBroken i x.pkt then crossingDone i x (loseCross i x 0x87 s1)
      else match (if own then none else (s1.slice e).chainOf x.frame) with
      | some key => updatePauses e (startPorts e (joinChain e i x key (epochSplit e x.epoch s1)))
      | none =>
        let n := max 1 (ceilDiv (s1.crossBytes x) 128)
        match takeCells e (decide (cls = 7)) n [] (countCells i e cls n (epochSplit e x.epoch s1)) with
        | (none, s2) => updatePauses e (crossingDone i x (refusedCell e s2))
        | (some cells, s2) =>
          let m := s2.copiesOf e x
          let key := s2.nextId
          let s3 := if m = 0 then makeCopies e x i.val true key (freeChain e 0x010 cells s2).2
            else makeCopies e x i.val true key (linkChain e cells
              (({ s2 with nextId := key + 1 }).setInbound e key { frame := x.frame, cells := cells, refs := m }))
          let s4 := if whole || decide (m = 0) then crossingDone i x s3
            else match x.pkt with
              | some p => s3.modPacket i p (fun y => { y with crossed := y.crossed ++ [(e.val, key, cls)] })
              | none => s3
          updatePauses e (startPorts e s4)

/-- A chain of an egress slice whose frame cannot arrive whole any more (R19, R249). -/
def cutChain (e : Fin 16) (key : Nat) (s : State) : State :=
  if (s.slice e).eg.inbound.any (fun b => decide (b.1 = key)) then s.setInbound e key { s.inbound e key with cutOff := true } else s
/-- A further cell of a frame that crosses as it arrives (R31): each egress chain takes it, or is cut off (R249). -/
def crossCell (i : Fin 16) (p : Packet) (s : State) : State :=
  p.crossed.foldl (fun a c =>
    let e := sl c.1
    let key := c.2.1
    if (a.slice e).eg.inbound.any (fun b => decide (b.1 = key)) then
      let b := a.inbound e key
      if b.cutOff then a
      else match allocGeneral e 0x010 false (countCells i e c.2.2 1 a) with
        | (some x, a1) => updatePauses e (linkCell e b.cells x (a1.setInbound e key { b with cells := b.cells ++ [x] }))
        | (none, a1) => cutChain e key (refusedCell e a1)
    else a) s
/-- The frame has ended: every crossing that took it as it arrived is complete, and the copies that waited for it go on. -/
def crossEnd (i : Fin 16) (n : Nat) (s : State) : State :=
  match s.packet i n with
  | none => s
  | some p =>
    let m := p.crossed.length
    handHeld i n (leaveIngress i n (s.setPacket i n { p with leaving := p.leaving - m, crossed := [] }))

-- A fenced crossbar port (R19, Table 17.4) -------------------------------------------------------------------------

/-- The packets that wait at slice `j` to cross toward slice `e` are dropped with 0x8D. -/
def dropVoq (j e : Fin 16) (s : State) : State :=
  (List.range 8).foldl (fun a c =>
    let k := 8 * e.val + c
    (NMap.get [] (a.slice j).eg.voq k).foldl (fun b x => crossingDone j x (loseCross j x 0x8D b))
      (a.modEg j (fun g => { g with voq := NMap.set [] g.voq k [] }))) s
/-- The frames of slice `j` that cross toward slice `e` as they arrive lose their cells in flight: each counts with 0x8D at its
ingress slice, and its copies end cut off. -/
def loseFlight (j e : Fin 16) (s : State) : State :=
  (s.slice j).packets.foldl (fun a p =>
    (p.2.crossed.filter (fun c => decide (c.1 = e.val))).foldl (fun b c =>
      cutChain e c.2.1 (leaveIngress j p.1 ((b.countDrop j 0x8D).modPacket j p.1 (fun y =>
        { y with crossed := y.crossed.erase c, leaving := y.leaving - 1 })))) a) s
/-- The crossbar port of slice `i` is fenced: what waits or moves toward it or from it is lost. -/
def xbrFence (i : Fin 16) (s : State) : State :=
  (List.finRange 16).foldl (fun a j =>
    if j = i then a else loseFlight i j (loseFlight j i (dropVoq i j (dropVoq j i a)))) s

end Sys2Proof.Machine
end

