-- ==== Sys2Proof/Machine/Parser.lean ====
section
/-!
DEFINITION. The fixed parser (R92 to R97): header recognition to the limits of Table 03.12, the flags of Table 03.14, the
parse record of Table 03.13.  The outer frame is parsed first; a recognised tunnel names where its inner frame starts.
-/
namespace Sys2Proof.Machine
open Sys2Proof

/-- Flag bits of Table 03.14. -/
def flgVlan : Nat := 0
def flgMpls : Nat := 2
def flgIpv4 : Nat := 5
def flgIpv6 : Nat := 6
def flgOptions : Nat := 7
def flgExt : Nat := 8
def flgFragment : Nat := 10
def flgFirst : Nat := 11
def flgUdp : Nat := 12
def flgTcp : Nat := 13
def flgIcmp : Nat := 14
def flgArp : Nat := 15
def flgPtp : Nat := 16
def flgVxlan : Nat := 17
def flgGre : Nat := 18
def flgInner : Nat := 19
def flgPayload : Nat := 20
def flgTruncated : Nat := 21
def flgL3Bad : Nat := 22
def flgUnknown : Nat := 23
def flgTooDeep : Nat := 24
def flgFragHit : Nat := 25
def flgFragMiss : Nat := 26
def flgSkewAlarm : Nat := 27
def flgMf : Nat := 28

/-- The flags that describe the innermost level (R97): cleared when an inner frame's first header is recognised. -/
def levelFlags : Nat := 0x3FF + 0x1F * 2 ^ 12

/-- What the parser sees: the first bytes of the frame, where it ends (frame or window), PAR_CFG. -/
structure ParseIn where
  h   : List Byte
  lim : Nat
  cfg : Word

/-- The parser's progress: the record, the level (0 outer, 1 inner), the start of the payload window. -/
structure ParseSt where
  r     : ParseRec := {}
  inner : Bool := false
  pay   : Option Nat := none

/-- Where a level continues: an Ethernet, IPv4 or IPv6 header at an offset. -/
inductive InnerStart where
  | eth (off : Nat) | ip4 (off : Nat) | ip6 (off : Nat)

/-- A level's end: stopped, or a tunnel whose inner frame is parsed next. -/
abbrev ParseOut := ParseSt × Option InnerStart

def ParseIn.u8 (x : ParseIn) (o : Nat) : Nat := (byteAt x.h o).toNat
/-- `n` bytes in network order. -/
def ParseIn.be (x : ParseIn) (o n : Nat) : Nat := ofBytesBE (slice x.h o n)

def ParseRec.has (r : ParseRec) (b : Nat) : Bool := decide (r.flags / 2 ^ b % 2 = 1)
def ParseRec.flag (r : ParseRec) (b : Nat) : ParseRec := { r with flags := r.flags ||| 2 ^ b }
/-- A count field of FLAGS: VLAN_COUNT, MPLS_COUNT, IPV6_EXT. -/
def ParseRec.counted (r : ParseRec) (b w n : Nat) : ParseRec :=
  { r with flags := r.flags - r.flags / 2 ^ b % 2 ^ w * 2 ^ b + n % 2 ^ w * 2 ^ b }
def ParseSt.flag (p : ParseSt) (b : Nat) : ParseSt := { p with r := p.r.flag b }
def ParseSt.stop (p : ParseSt) (b : Nat) : ParseOut := (p.flag b, none)
/-- A header of `n` bytes at `o` is complete; otherwise parsing stops, TRUNCATED (R93). -/
def ParseSt.need (p : ParseSt) (x : ParseIn) (o n : Nat) (k : ParseOut) : ParseOut :=
  if o + n ≤ x.lim then k else p.stop flgTruncated
/-- The first recognised header of the inner frame makes the level flags describe it (R97). -/
def ParseSt.enter (p : ParseSt) : ParseSt :=
  if p.inner && !p.r.has flgInner then
    { p with r := { p.r with flags := (p.r.flags &&& (0xFFFFFFFF - levelFlags)) ||| 2 ^ flgInner } }
  else p
def ParseSt.l3At (p : ParseSt) (o : Nat) : ParseSt :=
  let q := p.enter
  if q.inner then { q with r := { q.r with iL3 := o } } else { q with r := { q.r with oL3 := o } }
/-- An L4 header at `o` of `n` bytes; the payload window starts after it (R95). -/
def ParseSt.l4At (p : ParseSt) (o n : Nat) : ParseSt :=
  let r := if p.inner then { p.r with iL4 := o } else { p.r with oL4 := o }
  { p with r := r, pay := some (o + n) }

/-- The one's-complement sum of 16-bit words, folded to 16 bits. -/
def onesSum (bs : List Byte) : Nat :=
  let rec words : List Byte → Nat
    | a :: b :: t => a.toNat * 256 + b.toNat + words t
    | [a] => a.toNat * 256
    | [] => 0
  let s := words bs
  let f := s % 65536 + s / 65536
  f % 65536 + f / 65536

/-- PTP (Table 03.12): its 34-byte header (log 15); over Ethernet the payload window starts at it (R95). -/
def parsePtp (x : ParseIn) (o : Nat) (overEth : Bool) (p : ParseSt) : ParseOut :=
  p.need x o 34 (let q := p.flag flgPtp; (if overEth then { q with pay := some o } else q, none))

/-- ARP (Table 03.12): 8 bytes and two hardware and protocol address pairs (log 15). -/
def parseArp (x : ParseIn) (o : Nat) (p : ParseSt) : ParseOut :=
  p.need x o 8 (p.need x o (8 + 2 * (x.u8 (o + 4) + x.u8 (o + 5))) ((p.l3At o).flag flgArp, none))

/-- UDP, with VXLAN and PTP by destination port. -/
def parseUdp (x : ParseIn) (o : Nat) (p : ParseSt) : ParseOut :=
  p.need x o 8 (
    let dst := x.be (o + 2) 2
    let q := (p.l4At o 8).flag flgUdp
    let q := { q with r := { q.r with l4src := x.be o 2, l4dst := dst } }
    if dst = fld x.cfg 15 0 then
      if q.inner then q.stop flgUnknown
      else q.need x (o + 8) 8 (
        let v := ({ q with r := { q.r with tunnel := o + 8 } }).flag flgVxlan
        (v, if bitAt x.cfg 16 then some (.eth (o + 16)) else none))
    else if dst = 319 ∨ dst = 320 then parsePtp x (o + 8) false q
    else (q, none))

/-- TCP, well formed with a data offset of 5 or more. -/
def parseTcp (x : ParseIn) (o : Nat) (p : ParseSt) : ParseOut :=
  p.need x o 20 (
    let d := x.u8 (o + 12) / 16
    if d < 5 then p.stop flgUnknown
    else p.need x o (4 * d) (
      let q := (p.l4At o (4 * d)).flag flgTcp
      ({ q with r := { q.r with l4src := x.be o 2, l4dst := x.be (o + 2) 2 } }, none)))

/-- GRE version 0 without routing; checksum, key and sequence options lengthen it. -/
def parseGre (x : ParseIn) (o : Nat) (p : ParseSt) : ParseOut :=
  if p.inner then p.stop flgUnknown
  else p.need x o 4 (
    let w := x.be o 2
    if w / 2 ^ 14 % 2 = 1 ∨ w % 8 ≠ 0 then p.stop flgUnknown
    else
      let n := 4 + 4 * (w / 2 ^ 15 % 2 + w / 2 ^ 13 % 2 + w / 2 ^ 12 % 2)
      p.need x o n (
        let q := ({ p with r := { p.r with tunnel := o } }).flag flgGre
        let t := x.be (o + 2) 2
        if !bitAt x.cfg 32 then (q, none)
        else if t = 0x6558 then (q, some (.eth (o + n)))
        else if t = 0x0800 then (q, some (.ip4 (o + n)))
        else if t = 0x86DD then (q, some (.ip6 (o + n)))
        else q.stop flgUnknown))

/-- The transport or tunnel header of a protocol number. -/
def parseL4 (x : ParseIn) (proto o : Nat) (p : ParseSt) : ParseOut :=
  if proto = 17 then parseUdp x o p
  else if proto = 6 then parseTcp x o p
  else if proto = 1 ∨ proto = 58 then p.need x o 8 ((p.l4At o 8).flag flgIcmp, none)
  else if proto = 47 then parseGre x o p
  else p.stop flgUnknown

/-- The fragment fields of the outermost fragmented header (R97, R100). -/
def noteFragment (ident off mf : Nat) (p : ParseSt) : ParseSt :=
  if p.r.has flgFragment then p
  else
    let r := { (p.r.flag flgFragment) with fragId := ident, fragOff := off }
    let r := if mf = 1 then r.flag flgMf else r
    { p with r := if off = 0 ∧ mf = 1 then r.flag flgFirst else r }

/-- IPv4, well formed with version 4 and an IHL of 5 or more. -/
def parseIp4 (x : ParseIn) (o : Nat) (p : ParseSt) : ParseOut :=
  p.need x o 20 (
    let ihl := x.u8 o % 16
    if x.u8 o / 16 ≠ 4 ∨ ihl < 5 then p.stop flgUnknown
    else p.need x o (4 * ihl) (
      let q := (p.l3At o).flag flgIpv4
      let q := if 5 < ihl then q.flag flgOptions else q
      let q := if onesSum (slice x.h o (4 * ihl)) = 0xFFFF then q else q.flag flgL3Bad
      let q := { q with r := { q.r with ipProto := x.u8 (o + 9) } }
      let w := x.be (o + 6) 2
      let mf := w / 2 ^ 13 % 2
      let off := w % 2 ^ 13
      let q := if mf = 1 ∨ off ≠ 0 then noteFragment (x.be (o + 4) 2) off mf q else q
      if off ≠ 0 then (q, none) else parseL4 x (x.u8 (o + 9)) (o + 4 * ihl) q))

/-- IPv6 extension headers, at most two; a fragment header with offset 0 and M = 0 is atomic (R92). -/
def parseExt (x : ParseIn) : Nat → Nat → Nat → Nat → ParseSt → ParseOut
  | fuel, n, nh, o, p =>
    if nh = 0 ∨ nh = 43 ∨ nh = 44 ∨ nh = 60 then
      if n = 2 then p.stop flgTooDeep
      else match fuel with
        | 0 => p.stop flgTooDeep
        | fuel + 1 => p.need x o 8 (
          let len := if nh = 44 then 8 else (x.u8 (o + 1) + 1) * 8
          p.need x o len (
            let next := x.u8 o
            let q := { p with r := { (p.r.counted flgExt 2 (n + 1)) with ipProto := next } }
            let w := x.be (o + 2) 2
            let off := w / 8
            let mf := w % 2
            if nh = 44 then
              if off = 0 ∧ mf = 0 then
                let q := if q.r.has flgFragment then q
                  else { q with r := { q.r with fragId := x.be (o + 4) 4, fragOff := 0 } }
                parseExt x fuel (n + 1) next (o + len) q
              else
                let q := noteFragment (x.be (o + 4) 4) off mf q
                if off ≠ 0 then (q, none) else parseExt x fuel (n + 1) next (o + len) q
            else parseExt x fuel (n + 1) next (o + len) q))
    else parseL4 x nh o p

/-- IPv6, well formed with version 6. -/
def parseIp6 (x : ParseIn) (o : Nat) (p : ParseSt) : ParseOut :=
  p.need x o 40 (
    if x.u8 o / 16 ≠ 6 then p.stop flgUnknown
    else
      let q := (p.l3At o).flag flgIpv6
      let nh := x.u8 (o + 6)
      parseExt x 3 0 nh (o + 40) { q with r := { q.r with ipProto := nh } })

/-- MPLS labels, at most four; the bottom-of-stack bit ends the stack, and the next nibble names the network header. -/
def parseMpls (x : ParseIn) : Nat → Nat → Nat → ParseSt → ParseOut
  | 0, _, _, p => p.stop flgTooDeep
  | fuel + 1, n, o, p =>
    p.need x o 4 (
      let r := { (p.r.counted flgMpls 3 (n + 1)) with mpls := if p.r.mpls = 0 then o else p.r.mpls }
      let q := { p with r := r }
      if x.u8 (o + 2) % 2 = 1 then
        q.need x (o + 4) 1 (
          let nib := x.u8 (o + 4) / 16
          if nib = 4 then parseIp4 x (o + 4) q else if nib = 6 then parseIp6 x (o + 4) q else q.stop flgUnknown)
      else parseMpls x fuel (n + 1) (o + 4) q)

/-- What follows an Ethernet header or its tags, by EtherType; at most two tags. -/
def parseType (x : ParseIn) : Nat → Nat → Nat → Nat → ParseSt → ParseOut
  | fuel, n, t, o, p =>
    if t = 0x8100 ∨ t = 0x88A8 then
      match fuel with
      | 0 => p.stop flgTooDeep
      | fuel + 1 => p.need x o 4 (
        let r := p.r.counted flgVlan 2 (n + 1)
        let next := x.be (o + 2) 2
        let r := if p.inner then r
          else if n = 0 then { r with vlan0 := x.be o 2, ethType := next } else { r with vlan1 := x.be o 2, ethType := next }
        parseType x fuel (n + 1) next (o + 4) { p with r := r })
    else if t = 0x8847 ∨ t = 0x8848 then parseMpls x 4 0 o p
    else if t = 0x0800 then parseIp4 x o p
    else if t = 0x86DD then parseIp6 x o p
    else if t = 0x0806 then parseArp x o p
    else if t = 0x88F7 then parsePtp x o true p
    else p.stop flgUnknown

/-- Ethernet II: an EtherType of 0x0600 or more. -/
def parseEth (x : ParseIn) (o : Nat) (p : ParseSt) : ParseOut :=
  p.need x o 14 (
    let t := x.be (o + 12) 2
    if t < 0x600 then p.stop flgUnknown
    else
      let q := p.enter
      let q := if q.inner then { q with r := { q.r with iL2 := o } } else { q with r := { q.r with ethType := t } }
      parseType x 2 0 t (o + 14) q)

/-- The payload window of R95, and its flag.  Where an L4 header is recognised and the window is empty, PAYLOAD_OFF is 0: the spec does
not say what it holds, this is the model's choice (log 15). -/
def ParseSt.finish (p : ParseSt) (lim : Nat) : ParseRec :=
  match p.pay with
  | some o => if o < lim then { (p.r.flag flgPayload) with payOff := o, payLen := min (lim - o) 255 } else p.r
  | none => p.r

/-- The parse record of a frame whose bytes (FCS included) are `bytes` so far and whose length without FCS is `len` (R96).
Headers and the payload window end with the frame, its FCS excluded, or with the parse window: R95 does not say whether the window
of a frame shorter than 256 bytes takes in the FCS, this is the model's choice (log 15). -/
def parseFrame (cfg : Word) (bytes : List Byte) (len : Nat) : ParseRec :=
  let lim := min len 256
  let x : ParseIn := { h := padTo 256 bytes, lim := lim, cfg := cfg }
  let o := parseEth x 0 {}
  let q := { o.1 with inner := true }
  let e := match o.2 with
    | none => o.1
    | some (.eth a) => (parseEth x a q).1
    | some (.ip4 a) => (parseIp4 x a q).1
    | some (.ip6 a) => (parseIp6 x a q).1
  { (e.finish lim) with frameLen := len % 65536 }

/-- The 32 bytes of a parse record (Table 03.13). -/
def ParseRec.bytes (r : ParseRec) : List Byte :=
  bytesLE 4 r.flags ++ [byte r.oL3, byte r.oL4, byte r.tunnel, byte r.iL2, byte r.iL3, byte r.iL4, byte r.payOff, byte r.payLen] ++
  bytesLE 2 r.frameLen ++ bytesLE 2 r.ethType ++ bytesLE 2 r.vlan0 ++ bytesLE 2 r.vlan1 ++ [byte r.ipProto, byte r.mpls] ++
  bytesLE 2 r.l4src ++ bytesLE 2 r.l4dst ++ bytesLE 4 r.fragId ++ bytesLE 2 r.fragOff

end Sys2Proof.Machine
end

