-- ==== Sys2Proof/Machine/Ingress.lean ====
section
/-!
DEFINITION. The ingress side of a slice: capture and reception of frames, the fragment table, dispatch records and queues,
the start and the theft of packets ("Lanes, Ports and the Fixed Parser", "Quill Engines, Dispatch and Work Stealing").
-/
namespace Sys2Proof.Machine
open Sys2Proof

-- Drops of packets -------------------------------------------------------------------------------------------------

/-- The fragment entry that a first fragment made and left PENDING becomes NO_DECISION (R102). -/
def endFragment (i : Fin 16) (n : Nat) (s : State) : State :=
  s.modSlice i (fun x => { x with frg := { x.frg with entries := NMap.mapVal none (fun e => e.map (fun f =>
    if f.maker = n ∧ f.state = .pending then { f with state := .noDecision } else f)) x.frg.entries } })
/-- A packet's copies are lost with its cells: it has committed, and something of it has not left yet (R249). -/
def Packet.losesCopies (p : Packet) : Bool :=
  match p.committed with
  | none => false
  | some cs => !cs.isEmpty || !p.held.isEmpty || decide (0 < p.leaving)
/-- A packet dropped at its ingress slice: counted, retired at its turn. -/
def dropPacket (i : Fin 16) (n code : Nat) (s : State) : State := retirePacket i n (endFragment i n (s.countDrop i code))
/-- A packet that was refused a cell is dropped, and counted in BUFFER_FULL (R249). -/
def dropFull (i : Fin 16) (n : Nat) (s : State) : State := dropPacket i n 0x87 (s.count i Reg.BPM_COUNT1 63 32)

-- Reception (R75, R76, R82, R247 to R249) --------------------------------------------------------------------------

/-- The Folio epoch in which a capture at `t` falls (R110, R343, R345). -/
def State.captureEpoch (s : State) (i : Fin 16) (t : Nat) : Nat :=
  let f := (s.slice i).fol
  if f.switched && !f.drained && decide (t < s.fol.time) then f.previous
  else if f.armed && !f.switched && (decide (s.fol.state = .pending) || decide (s.fol.state = .draining)) &&
    decide (s.fol.time ≤ t) then f.armedEp
  else f.active
/-- The port whose lowest lane is `k` receives frames. -/
def State.receives (s : State) (i : Fin 16) (k : Nat) : Bool :=
  s.up && decide ((s.slice i).pwr = .active) && (s.slice i).namesPort k && (s.lane i k).linkUp
/-- A frame may start: none is in reception, or an express frame arrives within a preempted one (R80). -/
def Lane.mayStart (l : Lane) : Bool := l.rx.isNone || (bitAt l.cfg 8 && l.rxHeld.isNone)
/-- FRAME_START (R81, R82, R57, R63, R80, R99): the delimiter at `interp`/16 ns into the cycle; the port's lowest lane is `k`.  A frame
that it interrupts arrives in fragments. -/
def frameStart (i : Fin 16) (k interp : Nat) (s : State) : State :=
  if s.receives i k ∧ (s.lane i k).mayStart then
    let n := s.nextId
    let t := (((s.sliceT i + interp : Nat) : Int) - (s.lane i k).rxDelay s.uptime).toNat
    let p : Packet := { frame := n, lane := k, speed := (s.lane i k).speed, capture := stampOf t (s.captureBound i k),
                        parCfg := s.reg i Reg.PAR_CFG, alarm := (s.slice i).tbu.alarm, epoch := s.captureEpoch i t }
    let cut := fun (s : State) => match (s.lane i k).rx with
      | some m => s.setFrame m { s.frame m with parts := true }
      | none => s
    (({ cut s with nextId := n + 1 } : State).setPacket i n p).modLane i k (fun l =>
      { l with rx := some n, rxHeld := l.rx, unparsed := l.unparsed ++ [n] })
  else s
/-- The frame in reception is over; one that it interrupted goes on (R80). -/
def Lane.rxOver (l : Lane) : Lane := { l with rx := l.rxHeld, rxHeld := none }
/-- PCP of the first VLAN tag of a frame, 0 when untagged (R259). -/
def framePrio (bs : List Byte) : Nat :=
  let t := ofBytesBE (slice bs 12 2)
  if t = 0x8100 ∨ t = 0x88A8 then (byteAt bs 14).toNat / 32 else 0
/-- One cell for the packet being received (R247 to R249, R259).  A refusal frees its cells; the drop counts when its thread ends,
or now when the thread has ended and copies of it are lost. -/
def takeIngressCell (i : Fin 16) (n : Nat) (s : State) : State :=
  match s.packet i n with
  | none => s
  | some p =>
    if p.full then s
    else match allocGeneral i (p.lane / 4) false s with
      | (some c, s1) =>
        let s3 := ((linkCell i p.cells c s1).setPacket i n { p with cells := p.cells ++ [c] }).modLane i p.lane (fun l =>
          { l with charges := NMap.set 0 l.charges p.prio (l.charge p.prio + 1) })
        updatePauses i (crossCell i p s3)
      | (none, s1) =>
        let s2 := (freeIngress i p s1).setPacket i n { p with cells := [], full := true }
        let s3 := if p.losesCopies then (s2.countDrop i 0x87).count i Reg.BPM_COUNT1 63 32 else s2
        let f := s3.frame p.frame
        s3.setFrame p.frame { f with cutOff := true }
/-- Bytes of the frame in reception on a lane are stored. -/
def storeBytes (i : Fin 16) (k : Nat) (bytes : List Byte) (s : State) : State :=
  match (s.lane i k).rx with
  | none => s
  | some n =>
    let f := s.frame n
    let all := f.bytes ++ bytes
    let s1 := s.setFrame n { f with bytes := all }
    let s2 := s1.modPacket i n (fun p => if p.cells.isEmpty && !p.full then { p with prio := framePrio all } else p)
    takeIngressCell i n s2
/-- FRAME_CELL_RECEIVED: a further 128 bytes. -/
def frameCell (i : Fin 16) (k : Nat) (bytes : List Byte) (s : State) : State :=
  if bytes.length = 128 then storeBytes i k bytes s else s
/-- A packet that never reached the parser is forgotten: its cells are freed (R75). -/
def forgetPacket (i : Fin 16) (k n : Nat) (s : State) : State :=
  let s1 := s.modLane i k (fun l => { l with unparsed := l.unparsed.erase n })
  match s1.packet i n with
  | some p => (freeIngress i p s1).delPacket i n
  | none => s1
/-- FRAME_END (R75, R76): the last bytes, and the MAC's verdict on length, FCS, PCS and FEC; each failure is counted.
`corrected` and `uncorrectable` are the FEC codewords of either kind that the frame overlaps, `frags` the fragments that a
preempted frame came in (Table 03.6). -/
def frameEnd (i : Fin 16) (k : Nat) (tail : List Byte) (pcs : Bool) (corrected uncorrectable frags : Nat) (s0 : State) : State :=
  match (s0.lane i k).rx with
  | none => s0
  | some n =>
    let s := if tail.isEmpty then s0 else storeBytes i k (tail.take 128) s0
    let f := s.frame n
    let len := f.bytes.length
    let body := f.bytes.take (len - 4)
    let under := decide (len < 64)
    let tooLong := decide (fld (s.lane i k).cfg 29 16 < len)
    let fcs := decide (4 ≤ len) && decide (ofBytesLE (f.bytes.drop (len - 4)) ≠ crc32 body)
    let bad := under || tooLong || fcs || pcs || decide (0 < uncorrectable)
    let tick := fun (b : Bool) (c : Nat) (s : State) => if b then s.countPort i k c 1 else s
    let s1 := tick pcs 5 (tick tooLong 4 (tick under 3 (tick fcs 2 s)))
    let s2 := ((s1.countPort i k 12 corrected).countPort i k 13 uncorrectable).countPort i k 14 frags
    let s3 := if bad then s2 else (s2.countPort i k 0 1).countPort i k 1 len
    let s4 := (s3.setFrame n { f with done := true, bad := bad }).modLane i k Lane.rxOver
    if bad ∧ (s4.lane i k).unparsed.contains n then forgetPacket i k n s4
    else recordFcs i n (!bad) (crossEnd i n s4)
/-- The frame being received on the port is discarded and counted in counter `c`. -/
def abortOne (i : Fin 16) (k c : Nat) (s : State) : State :=
  match (s.lane i k).rx with
  | none => s
  | some n =>
    let f := s.frame n
    let s1 := (((s.countPort i k c 1).setFrame n { f with done := true, bad := true })).modLane i k Lane.rxOver
    if (s1.lane i k).unparsed.contains n then forgetPacket i k n s1
    else recordFcs i n false (crossEnd i n s1)
/-- Reception on the port stops (R73, R75): the frame in reception is discarded, and one that it interrupted. -/
def abortRx (i : Fin 16) (k c : Nat) (s : State) : State := abortOne i k c (abortOne i k c s)

-- Session Records (R211 to R213) and dispatch records (R110) -------------------------------------------------------

/-- Word `k` of a record. -/
def recordWord (r k : Nat) : Word := word (r / 2 ^ (64 * k))
/-- The program bank of an epoch (R337). -/
def SliceFolio.progBank (f : SliceFolio) (e : Nat) : Nat := if e = f.active then f.bank else 1 - f.bank
/-- A record that is present (R212): VALID, of the slice's partition, readable. -/
def State.presentRecord (s : State) (i : Fin 16) (epoch idx : Nat) : Option Nat :=
  let x := s.slice i
  let b := s.recordBank x.fol epoch
  let r := x.tbl.record b idx
  if bitAt (recordWord r 0) 56 && decide (fld (recordWord r 0) 51 48 = s.partition i) && !x.unitFenced .session &&
     !(NMap.get false x.tbl.badRecs (131072 * b + idx)) then some r else none
/-- DEFAULT_PC of DSP_CFG. -/
def State.defaultPc (s : State) (i : Fin 16) : Nat := fld (s.reg i Reg.DSP_CFG) 30 16
/-- Entry point (`none`: DEFAULT_PC when it starts), pinned flag and m3 for a packet of lane `k` in an epoch (R110, R132, R212,
Table 05.2). -/
def State.dispatchRecord (s : State) (i : Fin 16) (k epoch : Nat) : Option Nat × Bool × Word :=
  let l := s.reg i (Reg.DSP_LANE + 8 * k)
  let m3 := l &&& 0x800000000001FFFF
  if bitAt l 63 then
    match s.presentRecord i epoch (fld l 16 0) with
    | some r => (some (fld (recordWord r 0) 14 0), bitAt (recordWord r 0) 58, m3)
    | none => (none, false, m3)
  else (none, false, m3)
/-- A packet that has become head of a queue: STEAL_THRESH as it stands applies to it (R116, R132). -/
def State.headNow (s : State) (i : Fin 16) (c : Cluster) : Cluster :=
  { c with headAt := s.uptime, thresh := fld (s.reg i Reg.DSP_CFG) 9 0 }

-- Fragments (R100 to R108) -----------------------------------------------------------------------------------------

/-- The key of a fragmented IPv4 header at `o`. -/
def fragKey4 (h : List Byte) (o : Nat) : Option (List Byte) :=
  if ofBytesBE (slice h (o + 6) 2) % 2 ^ 14 = 0 then none
  else some (slice h (o + 12) 4 ++ slice h (o + 16) 4 ++ slice h (o + 9) 1 ++ slice h (o + 4) 2)
/-- The key of the fragment header among the extension headers at `o`, the next header being `nh`. -/
def fragKey6 (h : List Byte) (l3 : Nat) : Nat → Nat → Nat → Option (List Byte)
  | 0, _, _ => none
  | n + 1, nh, o =>
    let next := (byteAt h o).toNat
    if nh = 44 then
      if ofBytesBE (slice h (o + 2) 2) / 8 = 0 ∧ (byteAt h (o + 3)).toNat % 2 = 0 then fragKey6 h l3 n next (o + 8)
      else some (slice h (l3 + 8) 32 ++ slice h o 1 ++ slice h (o + 4) 4)
    else if nh = 0 ∨ nh = 43 ∨ nh = 60 then fragKey6 h l3 n next (o + 8 + 8 * (byteAt h (o + 1)).toNat)
    else none
/-- The key at a network header. -/
def fragKeyAt (h : List Byte) (o : Nat) : Option (List Byte) :=
  if o = 0 then none
  else if (byteAt h o).toNat / 16 = 4 then fragKey4 h o
  else if (byteAt h o).toNat / 16 = 6 then fragKey6 h o 2 (byteAt h (o + 6)).toNat (o + 40)
  else none
/-- The key of the outermost fragmented header, address bytes in the order of the header (R100). -/
def fragKey (h : List Byte) (r : ParseRec) : List Byte := ((fragKeyAt h r.oL3).orElse (fun _ => fragKeyAt h r.iL3)).getD []

def State.frg (s : State) (i : Fin 16) : FragTable := (s.slice i).frg
def State.modFrg (s : State) (i : Fin 16) (f : FragTable → FragTable) : State := s.modSlice i (fun x => { x with frg := f x.frg })
def FragTable.entry (t : FragTable) (k : Nat) : Option FragEntry := NMap.get none t.entries k
def FragTable.put (t : FragTable) (k : Nat) (e : Option FragEntry) : FragTable := { t with entries := NMap.set none t.entries k e }
/-- The four places of a key's set (R100).  Of the CRC-32C of the key the low ten bits pick the set (the model's choice, log 122). -/
def fragPlaces (key : List Byte) : List Nat := (List.range 4).map (fun w => 4 * (crc32c key % 1024) + w)
/-- The place of a key. -/
def FragTable.find (t : FragTable) (key : List Byte) : Option Nat :=
  (fragPlaces key).find? (fun k => match t.entry k with
    | some e => decide (e.key = key)
    | none => false)
/-- LIFETIME in 1/16 ns; 0 is used as 1. -/
def State.fragLife (s : State) (i : Fin 16) : Nat := max 1 (fld (s.reg i Reg.FRG_CFG) 15 0) * 16000
/-- The table takes no entry and every lookup misses: FLUSH runs, or the table is fenced (R108, Table 17.4). -/
def State.fragClosed (s : State) (i : Fin 16) : Bool := (s.frg i).cmd.busy || s.unitFenced i .frag
/-- FRAGMENT_INSERT (R101, R108): the place of the entry made, if any; an expired entry of the set is reused before a free way. -/
def fragInsert (i : Fin 16) (n : Nat) (key : List Byte) (t : Nat) (s : State) : Option Nat × State :=
  if s.fragClosed i then (none, s.count i Reg.FRG_COUNT1 63 48)
  else
    let f := s.frg i
    let e : FragEntry := { key := key, created := t, life := s.fragLife i, state := .pending, maker := n }
    match f.find key with
    | some k => (some k, (s.modFrg i (fun f => f.put k (some e))).count i Reg.FRG_COUNT1 15 0)
    | none =>
      let old := (fragPlaces key).find? (fun k => (f.entry k).any (fun e => decide (e.created + e.life ≤ t) || e.expired))
      match old.orElse (fun _ => (fragPlaces key).find? (fun k => (f.entry k).isNone)) with
      | some k => (some k, s.modFrg i (fun f => f.put k (some e)))
      | none => (none, s.count i Reg.FRG_COUNT1 63 48)
/-- What a lookup finds (Table 03.17). -/
inductive FragOutcome where
  | miss
  | wait (place : Nat)
  | hit (bank pc arg epoch : Nat)
  deriving DecidableEq, Repr
def fragLookup (i : Fin 16) (key : List Byte) (t : Nat) (s : State) : FragOutcome × State :=
  let miss := fun (s : State) => s.count i Reg.FRG_COUNT0 31 0
  if s.fragClosed i then (.miss, miss s)
  else match (s.frg i).find key with
    | none => (.miss, miss s)
    | some k => match (s.frg i).entry k with
      | none => (.miss, miss s)
      | some e =>
        if e.created + e.life ≤ t then (.miss, miss (s.count i Reg.FRG_COUNT1 47 32))
        else match e.state with
          | .noDecision => (.miss, miss (s.count i Reg.FRG_COUNT1 31 16))
          | .pending =>
            if (s.frg i).waiting.length < 64 then (.wait k, s) else (.miss, miss s)
          | .decided b pc arg ep => (.hit b pc arg ep, s.count i Reg.FRG_COUNT0 63 32)

-- Dispatch (R111, R112, R124) --------------------------------------------------------------------------------------

/-- Restorer entries held (R124). -/
def State.restorerUsed (s : State) (i : Fin 16) : Nat :=
  NMap.countIf (fun _ p => p.entry) (s.slice i).packets + sumNat ((s.slice i).lanes.map (fun e => e.2.entryAhead.length))
/-- The packet enters its home queue, or is dropped when it is full (R112). -/
def enqueueHome (i : Fin 16) (n : Nat) (p : Packet) (s : State) : State :=
  let c := p.lane / 4
  let q := ((s.slice i).cluster c).queue
  let s1 := s.setPacket i n p
  if 128 ≤ q.length then dropPacket i n 0x81 (s1.count i Reg.DSP_COUNT0 31 0)
  else s1.modCluster i c (fun x =>
    let y := { x with queue := x.queue ++ [n] }
    if x.queue.isEmpty then s.headNow i y else y)
/-- FRAGMENT_MISS_ACTION (R105). -/
def fragMiss (i : Fin 16) (n : Nat) (p0 : Packet) (s : State) : State :=
  let p := { p0 with parse := p0.parse.flag flgFragMiss }
  let cfg := s.reg i Reg.FRG_CFG
  match fld cfg 17 16 with
  | 1 =>
    if p.full then dropFull i n (s.setPacket i n p) else
    let c : Copy := { target := .punt (fld cfg 25 18) 0 false, xcls := 0, cls := 0, colour := 0, edits := [], cut := false, dead := 0 }
    s.setPacket i n { p with committed := some [c] }
  | 2 =>
    let d := s.dispatchRecord i p.lane p.epoch
    enqueueHome i n { p with pc := fld cfg 46 32, deflt := false, bank := (s.slice i).fol.progBank p.epoch, pinned := false,
                             sr := d.2.2 } s
  | _ => dropPacket i n 0x83 (s.setPacket i n p)
/-- Table 03.17 for a fragment, as it is parsed or released from the wait list. -/
def fragTake (i : Fin 16) (n : Nat) (p : Packet) (key : List Byte) (s : State) : State :=
  match fragLookup i key p.capture.t16 s with
  | (.miss, s1) => fragMiss i n p s1
  | (.wait k, s1) =>
    if !p.entry && decide (1024 ≤ s1.restorerUsed i) then fragMiss i n p (s1.count i Reg.FRG_COUNT0 31 0)
    else (s1.setPacket i n { p with entry := true }).modFrg i (fun f => { f with waiting := f.waiting ++ [(n, k)] })
  | (.hit b pc arg ep, s1) =>
    let d := s1.dispatchRecord i p.lane ep
    enqueueHome i n { p with parse := p.parse.flag flgFragHit, fragArg := arg, epoch := ep, pc := pc, deflt := false, bank := b,
                             pinned := d.2.1, sr := d.2.2 } s1
/-- The header window of a frame is complete; a preempted frame reaches the parser once it is reassembled (R80, R98). -/
def State.windowDone (s : State) (n : Nat) : Bool :=
  (s.frame n).done || (decide (256 ≤ (s.frame n).bytes.length) && !(s.frame n).parts)
/-- PARSE_COMPLETE (R98, R111): the oldest frame of the port whose header window is complete; `len` is the length that its
frame will have, FCS excluded, used while it still arrives. -/
def parseComplete (i : Fin 16) (k len : Nat) (s : State) : State :=
  match (s.lane i k).unparsed.find? s.windowDone with
  | none => s
  | some n =>
    let rest := (s.lane i k).unparsed.erase n
    match s.packet i n with
    | none => s.modLane i k (fun l => { l with unparsed := rest })
    | some p0 =>
        let f := s.frame n
        let r0 := parseFrame p0.parCfg f.bytes (if f.done then f.bytes.length - 4 else len)
        let r := if p0.alarm then r0.flag flgSkewAlarm else r0
        let seq := (s.lane i k).seqNext
        let d := s.dispatchRecord i k p0.epoch
        let p := { p0 with parse := r, seq := seq, parsed := true, pc := (p0.entryPc.orElse (fun _ => d.1)).getD 0,
                           deflt := p0.entryPc.isNone && d.1.isNone, pinned := d.2.1, sr := d.2.2,
                           bank := (s.slice i).fol.progBank p0.epoch }
        let s1 := s.modLane i k (fun l => { l with unparsed := rest, seqNext := (seq + 1) % 2 ^ 32 })
        let h := padTo 256 f.bytes
        if r.has flgFirst then
          enqueueHome i n p (fragInsert i n (fragKey h r) p.capture.t16 s1).2
        else if r.has flgFragment then fragTake i n p (fragKey h r) s1
        else enqueueHome i n p s1
/-- FRAG_WAIT_RELEASE (R103): the oldest waiting fragment whose entry has resolved, or gone, takes the table again. -/
def fragRelease (i : Fin 16) (s : State) : State :=
  let t := s.frg i
  match t.waiting.find? (fun w => match t.entry w.2 with
    | some e => decide (e.state ≠ .pending) || s.fragClosed i || (match s.packet i w.1 with
      | some p => decide (fragKey (padTo 256 (s.frame p.frame).bytes) p.parse ≠ e.key)
      | none => true)
    | none => true) with
  | none => s
  | some w =>
    let s1 := s.modFrg i (fun f => { f with waiting := f.waiting.erase w })
    match s1.packet i w.1 with
    | none => s1
    | some p => fragTake i w.1 p (fragKey (padTo 256 (s1.frame p.frame).bytes) p.parse) s1
/-- FLUSH (R108): every entry goes, every waiting fragment takes the miss action; BUSY until FRG_FLUSH_DONE.  A fragment so
released does not count in MISSES, which counts lookups: the spec does not say whether it does (log 95). -/
def frgFlush (i : Fin 16) (s : State) : CmdStatus × State :=
  let w := (s.frg i).waiting
  let s1 := s.modFrg i (fun f => { f with entries := [], waiting := [] })
  (.busy, w.foldl (fun a e => match a.packet i e.1 with
    | some p => fragMiss i e.1 p a
    | none => a) s1)
def putFrg (i : Fin 16) (c : CmdReg) (s : State) : State := s.modFrg i (fun f => { f with cmd := c })
/-- SLC_REFUSED counts the refused commands of SLC_CMD, PRT_CMD, FRG_CMD and EQX_CMD (Table 01.3). -/
def refuseSlc (i : Fin 16) (s : State) : State := s.count i Reg.SLC_REFUSED 63 0
/-- FRG_CMD written by a requester. -/
def frgCommand (i : Fin 16) (r : Requester) (w : Word) (s : State) : State :=
  runCommand (s.sliceWriter i r) (fun s => (s.frg i).cmd) (putFrg i) (refuseSlc i)
    (fun s => if fld w 3 0 = 1 then frgFlush i s else (.badArg, s)) s
/-- FRG_FLUSH_DONE (R108). -/
def frgFlushDone (i : Fin 16) (s : State) : State := if (s.frg i).cmd.busy then putFrg i (CmdReg.take .ok) s else s
/-- FRAGMENT_ENTRY_EXPIRY (R107): the entry has reached its creation time plus LIFETIME. -/
def fragExpiry (i : Fin 16) (k : Nat) (s : State) : State :=
  match (s.frg i).entry k with
  | some e => if e.created + e.life ≤ s.sliceT i then s.modFrg i (fun f => f.put k (some { e with expired := true })) else s
  | none => s
/-- FRG_STATUS as it reads. -/
def FragTable.status (t : FragTable) : Word :=
  pack ([(44, 32, NMap.countIf (fun _ e => match e with
      | some x => !x.expired
      | none => false) t.entries), (22, 16, t.waiting.length)] ++ t.cmd.fields)

-- Starting packets (R113, R116 to R118, R131) ----------------------------------------------------------------------

/-- Threads of a cluster that hold packets. -/
def Slice.busyThreads (x : Slice) (c : Nat) : Nat := NMap.countIf (fun t _ => decide (t / 64 = c)) x.threads
/-- Threads busy on Quill `q` of cluster `c`. -/
def Slice.quillBusy (x : Slice) (c q : Nat) : Nat :=
  b2n (NMap.look x.threads (64 * c + 2 * q)).isSome + b2n (NMap.look x.threads (64 * c + 2 * q + 1)).isSome
/-- The thread that takes the next packet of cluster `c`: on the Quill with the fewest busy threads, lowest number first (R113).  Of two
free threads of a Quill the lower takes it (the model's choice, log 122). -/
def Slice.freeThread (x : Slice) (c : Nat) : Option Nat :=
  let at_ := fun n => (List.range 32).find? (fun q => decide (x.quillBusy c q = n))
  match (at_ 0).orElse (fun _ => at_ 1) with
  | some q => some (if (NMap.look x.threads (64 * c + 2 * q)).isNone then 64 * c + 2 * q else 64 * c + 2 * q + 1)
  | none => none
/-- A packet may start: a thread of the cluster and a restorer entry are free, the cluster is in service and has started no packet
in this cycle (R113). -/
def State.canStart (s : State) (i : Fin 16) (c : Nat) (p : Packet) : Bool :=
  ((s.slice i).freeThread c).isSome && decide (((s.slice i).cluster c).startAt ≠ some s.uptime) && (p.entry || decide (s.restorerUsed i < 1024)) && !s.unitFenced i (.cluster c)
/-- EVIDENTIAL of the Session Record that m3 names, 0 for one that is not present (R212). -/
def State.srEvidential (s : State) (i : Fin 16) (epoch : Nat) (m3 : Word) : Bool :=
  bitAt m3 63 && (match s.presentRecord i epoch (fld m3 16 0) with
    | some r => bitAt (recordWord r 0) 57
    | none => false)
/-- The metadata registers of a thread that starts (Table 05.2), m0 to m8, m10 and m13; the others are 0. -/
def startMeta (s : State) (i : Fin 16) (c : Nat) (p : Packet) : NMap Word :=
  ([(0, pack [(19, 16, p.speed), (9, 0, 64 * i.val + p.lane)]), (1, p.capture.lo), (2, p.capture.hi), (3, p.sr),
    (4, pack [(16, 16, p.bank), (15, 0, p.epoch)]), (5, word p.parse.flags), (6, word p.seq), (7, word p.fragArg),
    (8, pack [(15, 12, c), (11, 8, p.lane / 4), (2, 2, b2n p.stolen), (1, 1, b2n p.pinned), (0, 0, b2n p.redisp)]),
    (10, pack [(8, 8, b2n (s.srEvidential i p.epoch p.sr))]), (13, p.info)] : List (Nat × Word)).foldl (fun m e => NMap.set 0 m e.1 e.2) []
/-- RUN_LIMIT in cycles: values below 256 are used as 256. -/
def State.runLimit (s : State) (i : Fin 16) : Nat := max 256 (fld (s.reg i Reg.DSP_CFG) 63 48)
/-- The thread that runs a packet from its entry point (R136); DEFAULT_PC and RUN_LIMIT are those of its start (R132). -/
def startThread (i : Fin 16) (t n : Nat) (p : Packet) (s : State) : State :=
  ((s.setThread i t { pkt := n, pc := if p.deflt then s.defaultPc i else p.pc, bank := p.bank, epoch := p.epoch,
                      m := startMeta s i (t / 64) p, limit := s.runLimit i, nextAt := s.cycle + 4 }).setPacket i n
    { p with entry := true }).modCluster i (t / 64) (fun c => { c with startAt := some s.uptime })
/-- The queue has lost a head in this cycle (R117). -/
def State.lostHead (s : State) (i : Fin 16) (c : Nat) : Bool := decide (((s.slice i).cluster c).lostAt = some s.uptime)
/-- The head of a queue removed; what follows it becomes head now. -/
def popHead (i : Fin 16) (c : Nat) (s : State) : State :=
  s.modCluster i c (fun x => { s.headNow i { x with queue := x.queue.drop 1 } with lostAt := some s.uptime })
/-- PACKET_START (R113, R117). -/
def packetStart (i : Fin 16) (c : Nat) (s : State) : State :=
  match ((s.slice i).cluster c).queue with
  | [] => s
  | n :: _ =>
    match s.packet i n, (s.slice i).freeThread c with
    | some p, some t =>
      if s.canStart i c p ∧ !s.lostHead i c then
        pmcEvent i 0x18 1 { cluster := c } ((startThread i t n p (popHead i c s)).count i (Reg.ENG_COUNT0 + 0x1000 * c) 63 32)
      else s
    | _, _ => s
/-- Ring distance of two clusters. -/
def ringDistance (a b : Nat) : Nat := min (max a b - min a b) (16 - (max a b - min a b))
/-- A cluster is idle (R116). -/
def State.idleCluster (s : State) (i : Fin 16) (c : Nat) : Bool :=
  ((s.slice i).cluster c).queue.isEmpty && ((s.slice i).freeThread c).isSome && !s.unitFenced i (.cluster c)
/-- The cluster may take the head `p` of another's queue (R116 to R118, R131): near enough, idle, and the head past its threshold and
unpinned, or its cluster fenced. -/
def State.maySteal (s : State) (i : Fin 16) (thief victim : Nat) (p : Packet) : Bool :=
  let v := (s.slice i).cluster victim
  let d := ringDistance thief victim
  decide (1 ≤ d) && decide (d ≤ 2) && s.idleCluster i thief && s.canStart i thief p && !s.lostHead i victim &&
  (s.unitFenced i (.cluster victim) || (decide (v.thresh ≠ 0) && !p.pinned && decide (v.headAt + v.thresh < s.uptime)))
/-- Another cluster that may take the same head comes first: at a smaller distance, or with a lower number (R117). -/
def State.stealBeaten (s : State) (i : Fin 16) (thief victim : Nat) (p : Packet) : Bool :=
  (List.range 16).any (fun c =>
    let near := decide (ringDistance c victim < ringDistance thief victim) ||
      (decide (ringDistance c victim = ringDistance thief victim) && decide (c < thief))
    near && s.maySteal i c victim p)
/-- WORK_STEAL (R116 to R118, R131). -/
def workSteal (i : Fin 16) (thief victim : Nat) (s : State) : State :=
  match ((s.slice i).cluster victim).queue with
  | [] => s
  | n :: _ =>
    match s.packet i n, (s.slice i).freeThread thief with
    | some p, some t =>
      if s.maySteal i thief victim p ∧ !s.stealBeaten i thief victim p then
        let s1 := startThread i t n { p with stolen := true } (popHead i victim s)
        pmcEvent i 0x19 1 { cluster := thief } (pmcEvent i 0x18 1 { cluster := thief }
          ((s1.count i Reg.DSP_COUNT0 63 32).count i (Reg.ENG_COUNT0 + 0x1000 * thief) 31 0))
      else s
    | _, _ => s
end Sys2Proof.Machine
end

