-- ==== Sys2Proof/Machine/Ports.lean ====
section
/-!
DEFINITION. Port commands and events: enable, disable, link, calibration, pause and preemption ("Lanes, Ports and the Fixed
Parser"), and the health pin.
-/
namespace Sys2Proof.Machine
open Sys2Proof

-- ENABLE and DISABLE (R69 to R73) ----------------------------------------------------------------------------------

/-- FEC allowed for a SPEED (Table 03.1). -/
def fecAllowed (speed fec : Nat) : Bool :=
  if speed = 1 then decide (fec = 0) else if speed = 2 then decide (fec ≤ 1) else decide (fec = 2)
/-- ENABLE of lane `k` returns BAD_ARG (R69, R70, R72). -/
def badEnable (s : State) (i : Fin 16) (k : Nat) : Bool :=
  let c := s.reg i (prt Reg.PRT_CFG k)
  let sp := fld c 3 0
  decide (sp = 0) || decide (7 < sp) || !fecAllowed sp (fld c 5 4) || decide (fld c 7 6 = 3) || decide (fld c 29 16 < 64) ||
  decide (9728 < fld c 29 16) || decide (k % speedLanes sp ≠ 0)
/-- The lanes that a port of lane `k` takes under its written configuration. -/
def enableLanes (s : State) (i : Fin 16) (k : Nat) : List Nat :=
  (List.range (speedLanes (fld (s.reg i (prt Reg.PRT_CFG k)) 3 0))).map (k + ·)
/-- The lowest lane of a port that has left service and still completes a frame on lane `k` (R73). -/
def Slice.drainOf (x : Slice) (k : Nat) : Option Nat :=
  (List.range (k + 1)).find? (fun p => (x.lane p).draining && decide (k < p + speedLanes (x.lane p).speed))
/-- ENABLE: the configuration is taken and the port's counters count from here (R71, Table 03.6). -/
def portEnable (i : Fin 16) (k : Nat) (s : State) : CmdStatus × State :=
  judge [(badEnable s i k, .badArg),
         ((enableLanes s i k).any (fun j => s.unitFenced i (.port j)), .fenced),
         (decide ((s.slice i).pwr ≠ .active) || (enableLanes s i k).any (fun j =>
            ((s.slice i).portOf j).isSome || ((s.slice i).drainOf j).isSome), .stateRefused)] s
    (fun s =>
      let s1 := (List.range 16).foldl (fun a n => a.setReg i (prt Reg.PRT_CNT k + 8 * n) 0) s
      let s2 := (enableLanes s i k).foldl (fun a j => a.modLane i j (fun l => { l with base := some k })) s1
      (.ok, s2.modLane i k (fun l =>
        { l with enabled := true, cfg := s.reg i (prt Reg.PRT_CFG k), preCfg := s.reg i (prt Reg.PRT_PREEMPT k), linkUp := false,
                 calValid := false, preempt := false, pauseUntil := none, pfcUntil := [], asking := 0, overAsk := 0 })))
/-- A port leaves service: reception aborted, queued copies dropped with `code`, the frame in transmission left to complete
(R73, R442, R443): its lanes drain until that frame has left, and its link stays until then. -/
def portDown (i : Fin 16) (k code : Nat) (s : State) : State :=
  let s1 := abortRx i k 6 s
  let s2 := dropQueued i code (fun c => decide (c.port = k)) s1
  let s3 := s2.modSch i (fun d => d.modPort k (fun p =>
    if p.tx.isNone then { p with tx := p.preempted, preempted := none, guardHeld := [] } else { p with guardHeld := [] }))
  s3.modLane i k (fun l =>
    { l with enabled := false, linkUp := l.linkUp && ((s3.sch i).port k).tx.isSome, calValid := false, preempt := false, pauseUntil := none, pfcUntil := [],
             asking := 0, overAsk := 0, draining := ((s3.sch i).port k).tx.isSome })
/-- A lane's transmitter is in electrical idle (R73, R88, R491): the core is not UP, its slice is not ACTIVE, or no port has it,
enabled or completing its last frame; a fatal fault leaves the core not UP. -/
def State.txIdle (s : State) (i : Fin 16) (k : Nat) : Bool :=
  decide (s.core ≠ .up) || decide ((s.slice i).pwr ≠ .active) ||
  (((s.slice i).portOf k).isNone && ((s.slice i).drainOf k).isNone)
/-- DISABLE (R73): BUSY while the frame in transmission completes. -/
def portDisable (i : Fin 16) (k : Nat) (s : State) : CmdStatus × State :=
  judge [(!(s.lane i k).enabled, .stateRefused)] s (fun s =>
    let s1 := portDown i k 0x86 s
    (if (s1.lane i k).draining then .busy else .ok, s1))
def putPrt (i : Fin 16) (k : Nat) (c : CmdReg) (s : State) : State := s.modLane i k (fun l => { l with cmd := c })
/-- PRT_CMD written by a requester (R3, R4, R72). -/
def prtCommand (i : Fin 16) (k : Nat) (r : Requester) (w : Word) (s : State) : State :=
  runCommand (s.sliceWriter i r) (fun s => (s.lane i k).cmd) (putPrt i k) (refuseSlc i) (fun s =>
    match fld w 3 0 with
    | 1 => portEnable i k s
    | 2 => portDisable i k s
    | _ => (.badArg, s)) s

-- Link and calibration (R72, R74, R83 to R87) ----------------------------------------------------------------------

/-- Factory capture uncertainty of a SPEED in 1/256 ns (Table 03.9). -/
def factoryUnc (speed : Nat) : Nat := if speed = 1 then 160 else if speed = 2 then 112 else 90
/-- LINK_UP rises on an enabled port (R72, R80, R83): calibration is filled from factory data and the measured deskew.  With
VERIFY_DIS = 1 PREEMPT_ACTIVE rises with LINK_UP: R80 says "at once" and not after what (log 96). -/
def linkUp (i : Fin 16) (k deskew : Nat) (s : State) : State :=
  if s.up ∧ (s.lane i k).enabled ∧ ¬ (s.lane i k).linkUp then
    let id := 64 * i.val + k
    updatePauses i (s.modLane i k (fun l =>
      { l with linkUp := true, linkUpAt := s.uptime, calValid := false, facRx := Config.factoryRx id l.speed + deskew,
               facTx := Config.factoryTx id l.speed, facUnc := factoryUnc l.speed,
               preempt := bitAt l.cfg 8 && bitAt l.preCfg 10 }))
  else s
/-- A port out of service has nothing more to send: its lanes are idle, and a DISABLE that waited completes with OK (R73). -/
def Lane.drained (l : Lane) : Lane :=
  if l.draining then { l with draining := false, linkUp := false, cmd := if l.cmd.busy then CmdReg.take .ok else l.cmd } else l
/-- LINK_UP falls (R74, R80, R85), on a port in service or on one that completes its last frame: the frame in reception is lost, frames
in transmission end with an invalid FCS, and the capture bound is unbounded for the next microsecond. -/
def linkDown (i : Fin 16) (k : Nat) (s : State) : State :=
  if ((s.lane i k).enabled ∨ (s.lane i k).draining) ∧ (s.lane i k).linkUp then
    let s1 := abortRx i k 5 s
    let p := (s1.sch i).port k
    let s2 := s1.modSch i (fun d => d.modPort k (fun p => { p with tx := none, preempted := none, guardHeld := [] }))
    let s3 := match p.tx with
      | some x => abortTx i k x false s2
      | none => s2
    let s4 := match p.preempted with
      | some x => abortTx i k x false s3
      | none => s3
    s4.modLane i k (fun l => Lane.drained
      { l with linkUp := false, calValid := false, preempt := false, faultUntil := s.uptime + cyclesUs,
               pauseUntil := none, pfcUntil := [], asking := 0 })
  else s
/-- CAL_VALID rises 1 µs after LINK_UP (R85). -/
def calValidRise (i : Fin 16) (k : Nat) (s : State) : State :=
  let l := s.lane i k
  if l.enabled ∧ l.linkUp ∧ l.linkUpAt + cyclesUs ≤ s.uptime then s.modLane i k (fun l => { l with calValid := true }) else s
/-- A PRT_CAL_ADJ write (R86, R87). -/
def calAdjWrite (i : Fin 16) (k : Nat) (r : Requester) (h : Half) (w : Word) (s : State) : State :=
  if s.sliceWriter i r then
    s.modLane i k (fun l => { l with adjPrev := l.adjNow s.uptime, adj := mergeWrite l.adj w h 0xFFFFFFFFFFFF, adjAt := some s.uptime })
  else s

-- Pause and preemption (R77 to R80) --------------------------------------------------------------------------------

/-- `q` quanta of 512 bit times at a port's rate, in CCLK cycles. -/
def Lane.quantaCycles (l : Lane) (q : Nat) : Nat := ceilDiv (q * 768) (max 1 l.gbps)
/-- A received PAUSE (no priorities) or PFC frame (R77): a hold of 0 quanta ends at once. -/
def pauseReceived (i : Fin 16) (k : Nat) (pfc : Option (BitVec 8)) (quanta : List Nat) (s : State) : State :=
  if s.receives i k then
    let s1 := s.countPort i k 7 1
    let mode := fld (s.lane i k).cfg 7 6
    let until_ := fun (l : Lane) (n : Nat) =>
      let q := (quanta[n]?).getD 0 % 65536
      if q = 0 then none else some (s.uptime + l.quantaCycles q)
    match pfc with
    | none => if mode = 1 then portStart i k (s1.modLane i k (fun l => { l with pauseUntil := until_ l 0 })) else s1
    | some m =>
      if mode = 2 then
        let obeyed := onesList 8 (m.toNat &&& fld (s.reg i (prt Reg.PRT_PAUSE k)) 23 16)
        portStart i k (s1.modLane i k (fun l =>
          { l with pfcUntil := obeyed.foldl (fun a p => NMap.set none a p (until_ l p)) l.pfcUntil }))
      else s1
  else s
/-- A pause or a priority's pause ends (R77, R78): an idle port may start. -/
def pauseExpiry (i : Fin 16) (k : Nat) (s : State) : State :=
  let ended := fun (u : Option Nat) => match u with
    | some t => if t ≤ s.uptime then none else some t
    | none => none
  portStart i k (s.modLane i k (fun l => { l with pauseUntil := ended l.pauseUntil, pfcUntil := NMap.mapVal none ended l.pfcUntil }))
/-- Half of the pause time sent has passed for priorities for which the port still asks (R79): the frame is repeated for them. -/
def pauseRepeat (i : Fin 16) (k : Nat) (s : State) : State :=
  let l := s.lane i k
  let q := fld (s.reg i (prt Reg.PRT_PAUSE k)) 15 0
  let again := sumNat ((onesList 8 l.asking).map (fun p =>
    if 2 * NMap.get 0 l.askedAt p + l.quantaCycles q ≤ 2 * s.uptime then 2 ^ p else 0))
  if again ≠ 0 then sendPause i k again q (s.modLane i k (fun l => l.noteAsked again s.uptime)) else s
/-- A verify exchange succeeds or fails (R80). -/
def preemptVerify (i : Fin 16) (k : Nat) (good : Bool) (s : State) : State :=
  let l := s.lane i k
  if l.enabled ∧ l.linkUp ∧ bitAt l.cfg 8 ∧ ¬ bitAt l.preCfg 10 then s.modLane i k (fun l => { l with preempt := good }) else s
/-- TRANSMIT_COMPLETE; a disabled port then completes a frame it had preempted, and is drained (R73). -/
def transmitComplete (i : Fin 16) (k : Nat) (s : State) : State :=
  let s1 := txComplete i k s
  if (s1.lane i k).enabled then s1
  else
    let s2 := s1.modSch i (fun d => d.modPort k (fun p => if p.tx.isNone then { p with tx := p.preempted, preempted := none } else p))
    if (s2.lane i k).draining && ((s2.sch i).port k).tx.isNone then s2.modLane i k Lane.drained else s2

/-- PRT_STATUS (Table 03.5): membership in every lane's window, the rest in that of the port's lowest lane. -/
def State.prtStatus (s : State) (i : Fin 16) (k : Nat) : Word :=
  let l := s.lane i k
  let m := match ((s.slice i).portOf k).orElse (fun _ => (s.slice i).drainOf k) with
    | some p => [(31, 26, p), (25, 25, 1)]
    | none => []
  let pfc := sumNat ((List.range 8).map (fun p => match NMap.get none l.pfcUntil p with
    | some u => if s.uptime < u then 2 ^ p else 0
    | none => 0))
  pack (m ++ [(23, 16, pfc), (15, 15, b2n (l.enabled || l.draining)), (14, 14, b2n l.linkUp), (13, 13, b2n (l.paused s.uptime)),
              (12, 12, b2n l.preempt)] ++ l.cmd.fields)
/-- PRT_CAL (Table 03.9). -/
def State.prtCal (s : State) (i : Fin 16) (k : Nat) : Word :=
  let l := s.lane i k
  pack [(63, 63, b2n (l.calValidNow s.uptime)), (62, 62, b2n (decide (s.uptime < l.faultUntil))), (47, 32, l.capUnc s.uptime),
        (31, 16, twos 16 (l.txDelay s.uptime)), (15, 0, twos 16 (l.rxDelay s.uptime))]

-- HEALTH_N (R89 to R91) --------------------------------------------------------------------------------------------

/-- The pin is asserted (R90). -/
def State.healthAsserted (s : State) : Bool := s.arm && s.up && !s.fatalLive
/-- WDOG_MS in use. -/
def State.wdogMs (s : State) : Nat := fld (s.greg Reg.GLB_HEALTH) 31 16
/-- An event of R90: ARM clears; an asserted pin de-asserts and is counted. -/
def healthDown (s : State) : State :=
  if s.arm && s.up then ({ (s.gcount Reg.GLB_HEALTH 47 32) with arm := false, wdogExpired := false }).emit (.pin "HEALTH_N" true)
  else { s with arm := false }
/-- A GLB_HEALTH write (R90, R91, Table 03.11): ARM and WDOG_MS lie in the low half, DEASSERT_COUNT clears with the high. -/
def healthWrite (r : Requester) (h : Half) (w : Word) (s : State) : State :=
  if s.globalWriter r then
    let s1 := if h = .low then s else s.setGreg Reg.GLB_HEALTH (setFld (s.greg Reg.GLB_HEALTH) 47 32 0)
    if h = .high then s1
    else
      let s2 := s1.setGreg Reg.GLB_HEALTH (setFld (s1.greg Reg.GLB_HEALTH) 31 16 (fld w 31 16))
      if bitAt w 0 then
        let s3 := { s2 with arm := true, armedAt := s2.uptime, wdogExpired := false }
        if s3.healthAsserted && !s2.healthAsserted then s3.emit (.pin "HEALTH_N" false) else s3
      else healthDown s2
  else s
/-- The watchdog expires (R91): only the pin changes. -/
def watchdogExpiry (s : State) : State :=
  if s.arm && decide (s.wdogMs ≠ 0) && decide (s.armedAt + s.wdogMs * cyclesMs ≤ s.uptime) then
    { (healthDown s) with wdogExpired := true }
  else s
/-- GLB_HEALTH as it reads. -/
def State.healthWord (s : State) : Word :=
  pack [(47, 32, fld (s.greg Reg.GLB_HEALTH) 47 32), (31, 16, s.wdogMs), (2, 2, b2n s.wdogExpired),
        (1, 1, b2n s.healthAsserted), (0, 0, b2n s.arm)]

end Sys2Proof.Machine
end

