-- ==== Sys2Proof/Machine/Rmx.lean ====
section
/-!
DEFINITION. The rule matcher of a slice ("Rule Matcher"): rows, chains of banks, searches with their pre-filter, commands,
scrubbing.
-/
namespace Sys2Proof.Machine
open Sys2Proof

/-- The copy in a physical bank. -/
def Rmx.copy (m : Rmx) (b : Nat) : RmxCopy := NMap.get {} m.copies b
def Rmx.modCopy (m : Rmx) (b : Nat) (f : RmxCopy → RmxCopy) : Rmx := { m with copies := NMap.set {} m.copies b (f (m.copy b)) }
def RmxCopy.row (c : RmxCopy) (n : Nat) : RmxRow := NMap.get {} c.rows n
def RmxCopy.setRow (c : RmxCopy) (n : Nat) (r : RmxRow) : RmxCopy := { c with rows := NMap.set {} c.rows n r }
def RmxCopy.bankReg (c : RmxCopy) (b : Nat) : Word := NMap.get 0 c.bank b
def RmxCopy.sigReg (c : RmxCopy) (b : Nat) : Word := NMap.get 0xFFFFFFFFFFFFFFFF c.sig b
/-- Rows and bank configuration copied onto another copy, each of whose rows keeps its FENCED (R241). -/
def RmxCopy.onto (c old : RmxCopy) : RmxCopy :=
  { c with rows := (old.rows.filter (fun e => e.2.fenced && (old.row e.1).fenced)).foldl (fun m e => NMap.set {} m e.1 { c.row e.1 with fenced := true }) c.rows }
def State.modRmx (s : State) (i : Fin 16) (f : Rmx → Rmx) : State := s.modSlice i (fun x => { x with rmx := f x.rmx })

-- Searches (R229 to R236) ------------------------------------------------------------------------------------------

/-- Role of a bank (Table 08.1), and the number of banks of a width code or head role. -/
def RmxCopy.role (c : RmxCopy) (b : Nat) : Nat := fld (c.bankReg b) 1 0
def rmxWidth (w : Nat) : Nat := 2 ^ w
/-- A head bank whose role keeps the alignment of Table 08.1. -/
def RmxCopy.headOk (c : RmxCopy) (b : Nat) : Bool :=
  let r := c.role b
  decide (r < 3) && decide (b % rmxWidth r = 0) &&
  (List.range (rmxWidth r - 1)).all (fun j => decide (c.role (b + 1 + j) = 3))
/-- The head banks a search visits from `b`, or none when R231 ends it with BAD_ARG. -/
def RmxCopy.chain (c : RmxCopy) (rmw : Nat) : Nat → Nat → List Nat → Option (List Nat)
  | 0, _, _ => none
  | n + 1, b, seen =>
    if seen.contains b || !c.headOk b || decide (c.role b ≠ rmw) then none
    else if bitAt (c.bankReg b) 9 then c.chain rmw n (fld (c.bankReg b) 7 4) (seen ++ [b])
    else some (seen ++ [b])
/-- Bits of a key that bank `j` of a rule takes. -/
def keySegment (key j : Nat) : Nat := key / 2 ^ (160 * j) % 2 ^ 160
/-- A row matches its segment (R229). -/
def RmxRow.matches (r : RmxRow) (seg : Nat) : Bool := r.valid && !r.fenced && decide ((seg ^^^ r.value) &&& r.care = 0)
/-- The rule at a row of a head bank matches. -/
def RmxCopy.ruleMatches (c : RmxCopy) (rmw b row key : Nat) : Bool :=
  (List.range (rmxWidth rmw)).all (fun j => (c.row (2048 * (b + j) + row)).matches (keySegment key j))
/-- Rows of a head bank that match, ascending. -/
def RmxCopy.matchesIn (c : RmxCopy) (rmw key b : Nat) : List Nat :=
  (c.rows.filter (fun e => decide (e.1 / 2048 = b) && c.ruleMatches rmw b (e.1 % 2048) key)).map (·.1)
/-- The winner among row indices: lowest PRIORITY, then head bank, then row (R232). -/
def RmxCopy.winner (c : RmxCopy) (l : List Nat) : Option Nat :=
  l.foldl (fun w n => match w with
    | none => some n
    | some m => if (c.row n).prio < (c.row m).prio ∨ ((c.row n).prio = (c.row m).prio ∧ n < m) then some n else some m) none
/-- Groups of a bank that a search enables (R233): not EMPTY, and at every used position ANY or equal to the key bit. -/
def RmxCopy.groupEnabled (c : RmxCopy) (b g seg : Nat) : Bool :=
  let rows := (c.rows.filter (fun e => decide (e.1 / 64 = 32 * b + g) && e.2.valid && !e.2.fenced)).map (·.2)
  !rows.isEmpty && (List.range 8).all (fun k =>
    let p := fld (c.sigReg b) (8 * k + 7) (8 * k)
    decide (160 ≤ p) ||
    (let all (v : Nat) := rows.all (fun r => decide (r.care / 2 ^ p % 2 = 1) && decide (r.value / 2 ^ p % 2 = v))
     if all 0 then decide (seg / 2 ^ p % 2 = 0) else if all 1 then decide (seg / 2 ^ p % 2 = 1) else true))
/-- Groups enabled by a search over the banks it visits. -/
def RmxCopy.groups (c : RmxCopy) (rmw key : Nat) (banks : List Nat) : Nat :=
  sumNat (banks.flatMap (fun b => (List.range (rmxWidth rmw)).map (fun j =>
    ((List.range 32).filter (fun g => c.groupEnabled (b + j) g (keySegment key j))).length)))

/-- What a search answers: status, d, d+1. -/
structure RmxHit where
  status : CmdStatus
  d0 : Word
  d1 : Word
/-- A copy as a search reads it while an error stands undetected in it (R241): which row is corrupted, and what it then holds, is open. -/
def RmxCopy.asRead (c : RmxCopy) (err : Nat) (s : State) : RmxCopy × State :=
  if err = 0 then (c, s)
  else
    let a := s.draw
    let b := a.2.draw
    let n := a.1 % 32768
    let v := b.1
    (c.setRow n { value := v % 2 ^ 160, care := v / 2 ^ 160 % 2 ^ 160, result := word (v / 2 ^ 320), prio := v / 2 ^ 384 % 65536,
                  valid := decide (v / 2 ^ 400 % 2 = 1), fenced := (c.row n).fenced }, b.2)
/-- A search of a copy, that of the thread's epoch, from head bank `b` (R231, R232, R236), with its counts. -/
def rmxSearch (i : Fin 16) (c : RmxCopy) (b rmw key : Nat) (s : State) : RmxHit × State :=
  let done (s : State) : State := s.count i Reg.RMX_COUNT0 63 32
  match c.chain rmw 17 b [] with
  | none => ({ status := .badArg, d0 := 0, d1 := 0 }, done (s.count i Reg.RMX_COUNT2 15 0))
  | some banks =>
    let l := banks.flatMap (fun b => c.matchesIn rmw key b)
    let s1 := done (s.modSlice i (fun x => x.count Reg.RMX_COUNT1 63 0 (c.groups rmw key banks)))
    match c.winner l with
    | none => ({ status := .notFound, d0 := 0, d1 := 0 }, s1)
    | some n =>
      let multi := l.any (fun m => decide (m ≠ n) && decide ((c.row m).prio = (c.row n).prio))
      ({ status := .ok, d0 := (c.row n).result, d1 := pack [(16, 16, b2n multi), (14, 0, n)] },
       if multi then s1.count i Reg.RMX_COUNT0 31 0 else s1)

-- Commands (R237 to R240) ------------------------------------------------------------------------------------------

/-- RMX_VAL and RMX_CARE as numbers of 192 bits. -/
def State.rmxVal (s : State) (i : Fin 16) (o : Nat) : Nat :=
  sumNat ((List.range 3).map (fun k => (s.reg i (o + 8 * k)).toNat * 2 ^ (64 * k)))
def setRmxVal (i : Fin 16) (o n : Nat) (s : State) : State :=
  (List.range 3).foldl (fun a k => a.setReg i (o + 8 * k) (word (n / 2 ^ (64 * k)))) s
/-- An error met by a scrub or by READ_ROW on row `n` of the copy in a role (R241). -/
def rmxEcc (i : Fin 16) (copy n : Nat) (double : Bool) (s : State) : State :=
  if double then
    let s1 := s.modRmx i (fun m => m.modCopy ((s.slice i).fol.settled.role copy) (fun c => c.setRow n { c.row n with fenced := true }))
    raiseEvent i.val 0x400 n false
      ((s1.count i Reg.RMX_COUNT2 47 32).setReg i Reg.RMX_FAULT (pack [(63, 62, 1), (61, 60, copy), (14, 0, n)]))
  else s.count i Reg.RMX_COUNT2 63 48
/-- READ_ROW; `err` is what the read of the array meets: 0 no error, 1 single-bit, 2 double-bit (R241). -/
def rmxReadRow (i : Fin 16) (copy n err : Nat) (s0 : State) : CmdStatus × State :=
  let s := if err = 0 then s0 else rmxEcc i copy n (decide (err = 2)) s0
  let x := s.slice i
  let r := (x.rmx.copy (x.fol.settled.role copy)).row n
  (.ok, (((setRmxVal i Reg.RMX_CARE r.care (setRmxVal i Reg.RMX_VAL r.value s)).setReg i Reg.RMX_RES r.result)).setReg i Reg.RMX_CTL
    (pack [(63, 63, b2n r.valid), (62, 62, b2n r.fenced), (61, 61, b2n (decide (err = 2))), (15, 0, r.prio)]))
/-- WRITE_ROW: BAD_ARG by R238. -/
def badRow (i : Fin 16) (s : State) : Bool :=
  let v := s.rmxVal i Reg.RMX_VAL
  let c := s.rmxVal i Reg.RMX_CARE
  decide (2 ^ 160 ≤ v) || decide (2 ^ 160 ≤ c) || decide (fld (s.reg i Reg.RMX_CTL) 60 16 ≠ 0) || decide (v &&& c ≠ v)
def rmxWriteRow (i : Fin 16) (n : Nat) (s : State) : CmdStatus × State :=
  let ctl := s.reg i Reg.RMX_CTL
  let r : RmxRow := { value := s.rmxVal i Reg.RMX_VAL, care := s.rmxVal i Reg.RMX_CARE, result := s.reg i Reg.RMX_RES,
                      prio := fld ctl 15 0, valid := bitAt ctl 63 }
  (.ok, s.modRmx i (fun m => m.modCopy (s.slice i).fol.settled.roleS (fun c => c.setRow n r)))
/-- COPY, CLEAR_BANK, READ_CFG: staging rows keep FENCED, which only WRITE_ROW clears (R241). -/
def rmxCopyAll (i : Fin 16) (s : State) : CmdStatus × State :=
  let f := (s.slice i).fol.settled
  (.ok, s.modRmx i (fun m => m.modCopy f.roleS (fun c => (m.copy f.roleA).onto c)))
def rmxClear (i : Fin 16) (b : Nat) (s : State) : CmdStatus × State :=
  (.ok, s.modRmx i (fun m => m.modCopy (s.slice i).fol.settled.roleS (fun c =>
    { c with rows := NMap.mapKey {} (fun n r => if n / 2048 = b then { fenced := r.fenced } else r) c.rows })))
def rmxReadCfg (i : Fin 16) (copy b : Nat) (s : State) : CmdStatus × State :=
  let x := s.slice i
  let c := x.rmx.copy (x.fol.settled.role copy)
  (.ok, (s.setReg i Reg.RMX_VAL (c.bankReg b)).setReg i (Reg.RMX_VAL + 8) (c.sigReg b))

def putRmx (i : Fin 16) (c : CmdReg) (s : State) : State := s.modRmx i (fun m => { m with cmd := c })
def refuseRmx (i : Fin 16) (s : State) : State := s.count i Reg.RMX_COUNT2 31 16
/-- RMX_CMD written by a requester (R237, R239). -/
def rmxCommand (i : Fin 16) (r : Requester) (w : Word) (err : Nat) (s : State) : State :=
  runCommand (s.sliceWriter i r) (fun s => (s.slice i).rmx.cmd) (putRmx i) (refuseRmx i) (fun s =>
    let op := fld w 3 0
    let n := fld w 30 16
    let copy := fld w 50 49
    let bad := decide (op = 0 ∨ 5 < op) || (decide (op = 1 ∨ op = 5) && decide (copy = 3)) ||
      (decide (op = 4 ∨ op = 5) && decide (fld w 30 20 ≠ 0)) || (decide (op = 2) && badRow i s)
    judge [(bad, .badArg), (decide (op = 2 ∨ op = 3 ∨ op = 4) && !s.inStaging, .stateRefused)] s (fun s =>
      match op with
      | 1 => rmxReadRow i copy n err s
      | 2 => rmxWriteRow i n s
      | 3 => rmxCopyAll i s
      | 4 => rmxClear i (fld w 19 16) s
      | _ => rmxReadCfg i copy (fld w 19 16) s)) s
/-- RMX_CFG_WRITE (R239): a write of RMX_BANK (`sig` false) or RMX_SIGSEL of staging, outside STAGING discarded and counted. -/
def rmxCfgWrite (i : Fin 16) (r : Requester) (sig : Bool) (b : Nat) (h : Half) (w : Word) (s : State) : State :=
  if s.sliceWriter i r then
    if s.inStaging then
      s.modRmx i (fun m => m.modCopy (s.slice i).fol.settled.roleS (fun c =>
        if sig then { c with sig := NMap.set 0xFFFFFFFFFFFFFFFF c.sig b (mergeWrite (c.sigReg b) w h 0xFFFFFFFFFFFFFFFF) }
        else { c with bank := NMap.set 0 c.bank b (mergeWrite (c.bankReg b) w h 0x2F3) }))
    else refuseRmx i s
  else s

/-- RMX_SCRUB_PASS (R241): the errors found, as (copy, row, double-bit), and whether the pass overran its 10 ms. -/
def rmxScrub (i : Fin 16) (errs : List (Nat × Nat × Bool)) (overrun : Bool) (s : State) : State :=
  if (s.slice i).seqRuns then
    let s1 := errs.foldl (fun a e => rmxEcc i (e.1 % 3) (e.2.1 % 32768) e.2.2 a) s
    if overrun then raiseEvent i.val 0x401 0 false s1 else s1
  else s

end Sys2Proof.Machine
end

