-- ==== Sys2Proof/Machine/Folio.lean ====
section
/-!
DEFINITION. Folio: staging, commit and rollback at a stated time, the switch of each slice, the coherence monitor
("Folio: Versioned Configuration, Commit and Rollback").
-/
namespace Sys2Proof.Machine
open Sys2Proof

-- Commands (R339, R341, R342, R346, R347) --------------------------------------------------------------------------

def putFol (c : CmdReg) (s : State) : State := { s with fol := { s.fol with cmd := c } }
def refuseFol (s : State) : State := s.gcount Reg.FOL_COUNT 15 0
/-- T as FOL_TIME0 and FOL_TIME1 hold it; BOUND is ignored. -/
def State.folStamp (s : State) : Stamp := stampOfPair (s.greg Reg.FOL_TIME0) (s.greg Reg.FOL_TIME1)
/-- T lies less than 100 µs or more than 10 s after now by central time, or is malformed (R40, R342). -/
def State.badFolTime (s : State) : Bool :=
  let t := s.folStamp
  t.malformed || decide (t.t16 < s.centralT + 1600000) || decide (s.centralT + 160000000000 < t.t16)
/-- A slice has a seed change enabled for a tier that is migrating (R342). -/
def State.seedsBusy (s : State) : Bool :=
  s.slices.toList.any (fun x => (bitAt (x.reg Reg.FOL_SEED_CTL) 0 && x.tbl.near.mig) || (bitAt (x.reg Reg.FOL_SEED_CTL) 1 && x.tbl.far.mig))
/-- Every slice's part of Folio changed. -/
def State.mapFol (s : State) (f : SliceFolio → SliceFolio) : State :=
  { s with slices := s.slices.map (fun x => { x with fol := f x.fol }) }
/-- A fragment entry that step 1 of R341 leaves: not DECIDED in another epoch. -/
def FragEntry.runsIn (active : Nat) (g : FragEntry) : Bool :=
  match g.state with
  | .decided _ _ _ epoch => decide (epoch = active)
  | .pending => true
  | .noDecision => true
/-- Step 1 of R341 on one slice. -/
def Slice.dropFragments (active : Nat) (x : Slice) : Slice :=
  { x with frg := { x.frg with entries := NMap.mapVal none (fun e => e.filter (fun g => g.runsIn active)) x.frg.entries } }
/-- STAGE_OPEN (R338, R341): the staged epoch; PREV_VALID falls at once, and step 1 removes fragment decisions of other epochs. -/
def folOpen (copy : Bool) (s : State) : State :=
  let f := s.fol
  let e := (f.staged + 1) % 65536
  { s with
    slices := s.slices.map (Slice.dropFragments f.active),
    fol := { f with state := .opening, prevValid := false, copy := copy, stagedValid := true,
                    staged := if e = f.active then (e + 1) % 65536 else e } }
/-- A switch becomes pending at T. -/
def folPend (rollback : Bool) (s : State) : State :=
  ({ s with fol := { s.fol with state := .pending, rollback := rollback, time := s.folStamp.t16, armFailed := false } } : State).mapFol
    (fun f => { f with armed := false, switched := false, armedEp := if rollback then s.fol.previous else s.fol.staged })
/-- A pending switch ends without a switch; gate switches tied to it are cancelled (R282, Table 13.2). -/
def folCancel (s : State) : State :=
  let s1 := ({ s with fol := { s.fol with state := if s.fol.rollback then .idle else .staging } } : State).mapFol
    (fun f => { f with armed := false })
  if s.fol.rollback then s1 else (List.range 16).foldl (fun a k => gclFolio (sl k) s.fol.staged false a) s1
/-- ABORT is accepted (R347): in STAGING, and in PENDING more than 20 µs before T. -/
def State.mayAbort (s : State) : Bool :=
  decide (s.fol.state = .staging) || (decide (s.fol.state = .pending) && decide (s.centralT + 320000 < s.fol.time))
def folAbort (s : State) : State :=
  if s.fol.state = .staging then { s with fol := { s.fol with state := .idle, stagedValid := false } } else folCancel s
/-- FOL_CMD written by a requester. -/
def folCommand (r : Requester) (w : Word) (s : State) : State :=
  runCommand (s.globalWriter r) (fun s => s.fol.cmd) putFol refuseFol (fun s =>
    match fld w 3 0 with
    | 1 => judge [(decide (s.fol.state ≠ .idle), .stateRefused)] s (fun s => (.ok, folOpen (bitAt w 8) s))
    | 2 => judge [(s.badFolTime, .badArg), (decide (s.fol.state ≠ .staging) || s.seedsBusy, .stateRefused)] s
        (fun s => (.ok, folPend false s))
    | 3 => judge [(s.badFolTime, .badArg), (decide (s.fol.state ≠ .idle) || !s.fol.prevValid, .stateRefused)] s
        (fun s => (.ok, folPend true s))
    | 4 => judge [(!s.mayAbort, .stateRefused)] s (fun s => (.ok, folAbort s))
    | _ => (.badArg, s)) s

-- Opening (R341) ---------------------------------------------------------------------------------------------------

/-- Keys of one bank of an array whose banks span `size` keys, copied over those of another. -/
def copySpan {β : Type} (size : Nat) (m : NMap β) (src dst : Nat) : NMap β :=
  m.filter (fun e => decide (e.1 < dst * size)) ++
  (m.filter (fun e => decide (e.1 / size = src))).map (fun e => (e.1 - src * size + dst * size, e.2)) ++
  m.filter (fun e => decide ((dst + 1) * size ≤ e.1))
/-- The half of PGM_TRAP of one bank copied over the other's (R160). -/
def copyTrapHalf (w : Word) (src : Nat) : Word :=
  if src = 0 then setFld w 63 32 (fld w 31 0) else setFld w 31 0 (fld w 63 32)
/-- Step 5 on one slice: every staging bank and copy made equal to the active one. -/
def Slice.copyToStaging (x : Slice) : Slice :=
  let f := x.fol.settled
  ({ x with program := copySpan 32768 x.program f.bank (1 - f.bank),
            tbl := { x.tbl with records := copySpan 131072 x.tbl.records f.roleA f.roleS,
                                badRecs := copySpan 131072 x.tbl.badRecs f.roleA f.roleS },
            rmx := x.rmx.modCopy f.roleS (fun c => (x.rmx.copy f.roleA).onto c),
            eg := { x.eg with sch := x.eg.sch.copyAll f.roleA f.roleS } } : Slice).setReg
    Reg.PGM_TRAP (copyTrapHalf (x.reg Reg.PGM_TRAP) f.bank)
/-- Steps 4 and 5 on one slice. -/
def Folio.openSlice (f : Folio) (x : Slice) : Slice :=
  let x1 : Slice := { x with tbl := { x.tbl with newEpoch := f.staged, newValid := true } }
  if f.copy then x1.copyToStaging else x1
/-- Step 3 on one slice: the sequencer retires the entries of both tiers; those of Far wait for a channel that is not READY (R362). -/
def retireSlice (f : Folio) (s : State) (i : Fin 16) : State :=
  let gone := if f.active = (s.slice i).tbl.newEpoch then 1 else 2
  let s1 := retireTier i false gone s
  if (s1.slice i).farReady then retireTier i true gone s1 else s1.modTbl i (fun t => { t with farDue := t.farDue ++ [gone] })
/-- STAGING_READY (R341): no thread of the previous epoch runs, every sequencer has done the steps, and Folio enters STAGING; while a
sequencer does not run they are not done (R135). -/
def stagingReady (s : State) : State :=
  if s.fol.state = .opening ∧ s.slices.toList.all (fun x => x.seqRuns && x.threads.all (fun t => decide (t.2.epoch = s.fol.active))) then
    let s1 := (List.finRange 16).foldl (retireSlice s.fol) s
    { s1 with slices := s1.slices.map s.fol.openSlice, fol := { s.fol with state := .staging } }
  else s

-- Arming and the switch (R342 to R345, R348) -----------------------------------------------------------------------

/-- SLICE_ARMED (R342): a slice whose sequencer runs arms, in RETENTION through its always-on island. -/
def sliceArmed (i : Fin 16) (s : State) : State :=
  let x := s.slice i
  if s.fol.state = .pending ∧ x.seqRuns then
    s.modSlice i (fun x => { x with fol := { x.fol with armed := true } })
  else s
/-- ARM_DEADLINE (Table 13.2): 20 µs before T a slice that is not ARMED ends the pending switch. -/
def armDeadline (s : State) : State :=
  let mask := sumNat ((List.range 16).map (fun k => if (s.slice (sl k)).fol.armed then 0 else 2 ^ k))
  if s.fol.state = .pending ∧ s.fol.time ≤ s.centralT + 320000 ∧ mask ≠ 0 then
    let s1 := folCancel ({ s with fol := { s.fol with armFailed := true, armFail := mask } } : State)
    raiseEvent 16 0xB03 mask false (s1.gcount Reg.FOL_COUNT 31 16)
  else s
/-- Staged seeds loaded as the current seeds of the enabled tiers, which start to migrate (R348). -/
def Slice.loadSeeds (x : Slice) : Slice :=
  let c := x.reg Reg.FOL_SEED_CTL
  let x1 := if bitAt c 0 then x.modTier false (fun t => t.migrate (x.reg Reg.FOL_SEED_NEAR0) (x.reg Reg.FOL_SEED_NEAR1)) else x
  let x2 := if bitAt c 1 then x1.modTier true (fun t => t.migrate (x.reg Reg.FOL_SEED_FAR0) (x.reg Reg.FOL_SEED_FAR1)) else x1
  x2.setReg Reg.FOL_SEED_CTL 0
/-- One slice makes a switch (R344): roles and epoch, INIT of shapers and meters, gate lists, seeds, micro-trap 10. -/
def applySwitch (i : Fin 16) (epoch : Option Nat) (s : State) : State :=
  let old := (s.slice i).fol.roleA
  let s1 := s.modSlice i (fun x => ({ x with fol := x.fol.rotate epoch } : Slice).noteTrap 10)
  let s2 := tokenInit i old (s1.slice i).fol.roleA s1
  match epoch with
  | some e => (gclFolio i e true s2).modSlice i Slice.loadSeeds
  | none => gclRollback i s2
/-- The switches that a slice recorded in RETENTION, applied in order (R18, R344). -/
def applyRecorded (i : Fin 16) (s : State) : State :=
  ((s.slice i).fol.recorded.foldl (fun a e => applySwitch i e a) s).modSlice i (fun x => { x with fol := { x.fol with recorded := [] } })
/-- FOLIO_SWITCH (R344): slice time has reached T.  The first slice to switch takes the commit unit to DRAINING.  A slice in
RETENTION, or on its way out of it, records the switch behind those it holds (R18). -/
def folioSwitch (i : Fin 16) (s : State) : State :=
  let f := s.fol
  let x := s.slice i
  if (f.state = .pending ∨ f.state = .draining) ∧ x.fol.armed ∧ !x.fol.switched ∧ f.time ≤ s.sliceT i ∧
     s.slices.toList.all (fun y => y.fol.armed || y.fol.switched) then
    let s1 : State := if f.state = .pending then
        { s with fol := { f with state := .draining, active := if f.rollback then f.previous else f.staged, previous := f.active,
                                 stagedValid := f.rollback && f.stagedValid } }
      else s
    let e := if f.rollback then none else some f.staged
    let s2 := if x.pwr = .retention ∨ x.pwr = .leaving then
        s1.modSlice i (fun x => { x with fol := { x.fol with recorded := x.fol.recorded ++ [e] } })
      else applySwitch i e s1
    s2.modSlice i (fun x => { x with fol := { x.fol with armed := false, switched := true, drained := false } })
  else s
/-- No running thread, queued packet or waiting fragment of the epoch that was active before the switch (R345). -/
def Slice.drainedOf (x : Slice) (epoch : Nat) : Bool :=
  x.threads.all (fun t => decide (t.2.epoch ≠ epoch)) &&
  (x.clusters.flatMap (fun c => c.2.queue) ++ x.frg.waiting.map (·.1)).all (fun n => match NMap.look x.packets n with
    | some p => decide (p.epoch ≠ epoch)
    | none => true)
/-- SLICE_DRAINED (R345); the last slice ends DRAINING. -/
def sliceDrained (i : Fin 16) (s : State) : State :=
  let x := s.slice i
  if s.fol.state = .draining ∧ x.fol.switched ∧ !x.fol.drained ∧ s.fol.time + 16000 ≤ s.sliceT i ∧
     (x.fol.recorded ≠ [] ∨ x.drainedOf x.fol.previous) then
    let s1 := s.modSlice i (fun x => { x with fol := { x.fol with drained := true } })
    if s1.slices.toList.all (fun y => y.fol.switched && y.fol.drained) then
      let s2 := if s.fol.rollback then s1.gcount Reg.FOL_COUNT 47 32 else s1.gcount Reg.FOL_COUNT 63 48
      { s2 with fol := { s2.fol with state := .idle, prevValid := true } }
    else s1
  else s

-- Coherence monitor (R349) -----------------------------------------------------------------------------------------

/-- The slices for which `p` holds, one bit each. -/
def State.sliceMask (s : State) (p : Slice → Bool) : Nat :=
  sumNat ((List.range 16).map (fun k => if p (s.slice (sl k)) then 2 ^ k else 0))
/-- A slice's time state is in order: CHECK_VALID = 1 and ALARM = 0. -/
def Slice.timeGood (x : Slice) : Bool := x.tbu.checkValid && !x.tbu.alarm
/-- The fault unit has fenced the slice, or a block of it. -/
def Slice.anyFence (x : Slice) : Bool := x.anyActive (fun _ f => decide (f.reaction = 1 ∨ f.reaction = 2))
/-- COHERENCE_CHECK (Table 13.3), at a marker. -/
def coherenceCheck (s : State) : State :=
  if s.atMarker then
    let late := decide (s.fol.state ≠ .draining) || decide (s.fol.time + 32000 < s.centralT)
    let ep := if late then s.sliceMask (fun x => decide (x.fol.active ≠ s.fol.active) && decide (x.fol.recorded = [])) else 0
    let good := s.slices.toList.any (fun x => decide (x.pwr = .active) && x.timeGood)
    let tm := if good then s.sliceMask (fun x => !x.timeGood) else 0
    let fn := if s.slices.toList.all Slice.anyFence then 0 else s.sliceMask Slice.anyFence
    let s1 : State := { s with fol := { s.fol with monEpoch := ep, monTime := tm, monFence := fn } }
    setCond 16 0xB02 (decide (fn ≠ 0)) fn (setCond 16 0xB01 (decide (tm ≠ 0)) tm (setCond 16 0xB00 (decide (ep ≠ 0)) ep s1))
  else s

-- Registers (R352, R353) -------------------------------------------------------------------------------------------

/-- FOL_TIME_WRITE (R352): `one` selects FOL_TIME1. -/
def folTimeWrite (r : Requester) (one : Bool) (h : Half) (w : Word) (s : State) : State :=
  if s.globalWriter r then
    if s.fol.state = .pending then refuseFol s
    else
      let o := if one then Reg.FOL_TIME1 else Reg.FOL_TIME0
      s.setGreg o (mergeWrite (s.greg o) w h (if one then 0xFFFFFFFF else 0xFFFFFFFFFFFFFFFF))
  else s
/-- FOL_SLICE_REG_WRITE (R353): register `k` of FOL_SEED_CTL, NEAR0, NEAR1, FAR0, FAR1. -/
def folSliceWrite (i : Fin 16) (r : Requester) (k : Nat) (h : Half) (w : Word) (s : State) : State :=
  let o := Reg.FOL_SEED_CTL + 8 * k
  if s.sliceWriter i r && s.inStaging then s.setReg i o (mergeWrite (s.reg i o) w h (if k = 0 then 3 else 0xFFFFFFFFFFFFFFFF))
  else refuseFol s
def FolState.code : FolState → Nat
  | .idle => 0 | .opening => 1 | .staging => 2 | .pending => 3 | .draining => 4
/-- FOL_STATUS, FOL_EPOCH and FOL_MON_STATUS (Table 13.6). -/
def Folio.status (f : Folio) : Word :=
  pack ([(63, 48, f.armFail), (11, 11, b2n f.armFailed),
    (10, 10, b2n (f.rollback && (decide (f.state = .pending) || decide (f.state = .draining)))),
    (9, 9, b2n f.prevValid), (8, 6, f.state.code)] ++ f.cmd.fields)
def Folio.epochWord (f : Folio) : Word :=
  pack [(48, 48, b2n f.stagedValid), (47, 32, f.staged), (31, 16, f.previous), (15, 0, f.active)]
def Folio.monWord (f : Folio) : Word := pack [(63, 48, f.monEpoch), (47, 32, f.monTime), (31, 16, f.monFence)]
/-- FOL_SLICE_STATUS (Table 13.8). -/
def SliceFolio.status (f : SliceFolio) : Word :=
  pack [(63, 48, f.active), (47, 32, f.previous), (31, 16, f.armedEp), (4, 4, f.bank), (3, 3, b2n (decide (f.recorded ≠ []))),
    (2, 2, b2n f.drained), (1, 1, b2n f.armed)]

end Sys2Proof.Machine
end

