-- ==== Sys2Proof/Machine/Quill.lean ====
section
/-!
DEFINITION. Threads: registers, commit and end, exceptions, samples, asynchronous operations and the issue of one instruction
("Ihluc Instruction Set: Registers and Core Instructions", R109 to R131, R136 to R178, R458).
-/
namespace Sys2Proof.Machine
open Sys2Proof

-- Registers (R136 to R138) -----------------------------------------------------------------------------------------

def gReg (n : Nat) : Ref := { m := false, n := n }
def mReg (n : Nat) : Ref := { m := true, n := n }

/-- m10.EVIDENTIAL. -/
def Thread.evidential (th : Thread) : Bool := bitAt (NMap.get 0 th.m 10) 8
/-- m10 (Table 05.2): EDITS and COPIES follow the lists. -/
def Thread.disposition (th : Thread) : Word :=
  pack [(21, 16, th.edits.length), (8, 8, b2n th.evidential), (5, 0, min 63 th.copies.length)]
/-- A register as an instruction reads it: g0 reads 0 (R137). -/
def Thread.get (th : Thread) (r : Ref) : Word :=
  if r.m then (if r.n = 10 then th.disposition else NMap.get 0 th.m r.n)
  else if r.n = 0 then 0 else NMap.get 0 th.g r.n
/-- What a metadata register stores of a written value: reserved bits 0, COLOUR 0b11 as 0b10 (R138). -/
def metaStore (n : Nat) (w : Word) : Word :=
  if n = 3 then w &&& 0x800000000001FFFF
  else if n = 9 then (if fld w 1 0 = 3 then (w &&& 0x1C) ||| 2 else w &&& 0x1F)
  else w
/-- The metadata registers marked RW. -/
def metaRw (n : Nat) : Bool := [3, 9, 13, 14, 15].contains n
/-- A register written: a write to g0 is discarded (R137). -/
def Thread.put (th : Thread) (r : Ref) (w : Word) : Thread :=
  if r.m then { th with m := NMap.set 0 th.m r.n (metaStore r.n w) }
  else if r.n = 0 then th else { th with g := NMap.set 0 th.g r.n w }
/-- A metadata register set by the device itself. -/
def Thread.putMeta (th : Thread) (n : Nat) (w : Word) : Thread := { th with m := NMap.set 0 th.m n w }
def Thread.inHandler (th : Thread) : Bool := bitAt (NMap.get 0 th.m 8) 3
def Thread.tag (th : Thread) (t : Nat) : Tag := NMap.get .free th.tags t
def Thread.setTag (th : Thread) (t : Nat) (x : Tag) : Thread := { th with tags := NMap.set .free th.tags t x }
/-- The operation under a tag has taken effect on its unit, and waits to complete. -/
def Thread.performed (th : Thread) (tag : Nat) : Bool := th.results.any (fun r => decide (r.1 = tag))
def Thread.pendingIn (th : Thread) (mask : Nat) : Bool :=
  (List.range 8).any (fun t => decide (mask / 2 ^ t % 2 = 1) && decide (th.tag t = .pending))

/-- Byte `k` of the header window (R94). -/
def State.header (s : State) (p : Packet) (k : Nat) : Byte := if k < 256 then byteAt (s.frame p.frame).bytes k else 0

-- Samples (R458) ---------------------------------------------------------------------------------------------------

/-- Tag numbers of a sample that waits for something other than a tag: a WAIT, or the end of its thread. -/
def sampleWait : Nat := 8
def sampleEnd : Nat := 9
/-- A sample record (Table 18.3): FLAGS bit 0 ASYNC, 1 TRAPPED, 4 ENDED; REDISPATCH and STOLEN come from m8. -/
def sampleRecord (t : Nat) (th : Thread) (ctr issued wait op pc done flags : Nat) : Sample :=
  let m8 := NMap.get 0 th.m 8
  ofBytesLE (bytesLE 12 ((NMap.get 0 th.m 1).toNat + (NMap.get 0 th.m 2).toNat * 2 ^ 64) ++
    bytesLE 4 (ctr * 2 ^ 26 + t / 64 * 2 ^ 22 + t % 64 * 2 ^ 16 + th.bank * 2 ^ 15 + pc) ++ bytesLE 2 (satN 16 (done - issued)) ++
    bytesLE 2 (satN 16 wait) ++ [byte op, byte (0x80 + flags + 4 * fld m8 0 0 + 8 * fld m8 2 2)] ++
    bytesLE 2 (fld (NMap.get 0 th.m 0) 9 0) ++ bytesLE 4 (NMap.get 0 th.m 6).toNat ++ bytesLE 4 done)
/-- The samples of a thread that satisfy `p` complete now. -/
def completeSamples (i : Fin 16) (t : Nat) (th : Thread) (flags : Nat) (p : Nat → Bool) (s : State) : State :=
  (th.samples.filter (fun x => p x.1)).foldl (fun a x =>
    pmcSample i (sampleRecord t th x.2.1 x.2.2.1 x.2.2.2.1 x.2.2.2.2.1 x.2.2.2.2.2 s.cycle
      (flags + b2n (decide (x.1 < 8)))) a) s

-- The end of a thread (R120, R155, R167, R195) ---------------------------------------------------------------------

/-- The sampled instructions of thread `t` whose results are not available complete now (`all`), or those whose result is. -/
def completeSync (i : Fin 16) (t : Nat) (th : Thread) (flags : Nat) (all : Bool) (s : State) : State :=
  let go := fun (x : SyncSample) => decide (x.thread = t) && (all || decide (x.due ≤ s.cycle))
  let l := (s.slice i).pmc.sync
  (l.filter go).foldl (fun a x => pmcSample i (sampleRecord t th x.ctr x.issued x.wait x.op x.pc s.cycle flags) a)
    (s.modSlice i (fun y => { y with pmc := { y.pmc with sync := l.filter (fun x => !go x) } }))
/-- The results that are available in this cycle complete the sampled instructions of every thread (R458). -/
def syncDone (i : Fin 16) (s : State) : State :=
  ((s.slice i).pmc.sync.map (·.thread)).eraseDups.foldl (fun a t => match a.thread i t with
    | some th => completeSync i t th 0 false a
    | none => a) s
/-- A thread stops: its samples complete with ENDED, its pending operations stay under way for their units alone; those that have
taken effect are over. -/
def stopThread (i : Fin 16) (t : Nat) (s : State) : State :=
  match s.thread i t with
  | none => s
  | some th =>
    let lane := ((s.packet i th.pkt).map (·.lane)).getD 0
    let seq := ((s.packet i th.pkt).map (·.seq)).getD 0
    let s1 := completeSync i t th 0x10 true (completeSamples i t th 0x10 (fun _ => true) s)
    let s2 := s1.modSlice i (fun x => { x with orphans := x.orphans ++ (th.ops.filter (fun o => !th.performed o.1)).map (fun o =>
      { thread := t, tag := o.1, epoch := th.epoch, lane := lane, seq := seq, op := o.2 }) })
    (s2.modCluster i (t / 64) (fun c => { c with misses := c.misses.filter (fun m => decide (m.2 ≠ t)) })).delThread i t
/-- The thread ends and its packet is dropped: copies and record are discarded. -/
def endDrop (i : Fin 16) (t code : Nat) (s : State) : State :=
  match s.thread i t with
  | none => s
  | some th => dropPacket i th.pkt code (stopThread i t s)
def Copy.isMerge (c : Copy) : Bool :=
  match c.target with
  | .merge _ => true
  | _ => false
/-- The target names something configured: a queue that is VALID, a port with MERGE_EN (R192, R268, R287); a group or a list is
judged by its members. -/
def State.configured (s : State) (t : Target) : Bool :=
  match t with
  | .queue q => s.queueValid (sl (q / 4096)) (q % 4096)
  | .replay q _ => s.queueValid (sl (q / 4096)) (q % 4096)
  | .merge p => bitAt (s.ligCfg (sl (p / 64)) (p % 64)) 63
  | _ => true
/-- A copy as its commit finds it: rank, release time and slices, none when it is dropped here; and the reasons of the drops. -/
def finishCopy (s : State) (i : Fin 16) (p : Packet) (c : Copy) : Option Copy × List Nat :=
  if c.dead ≠ 0 then (none, [c.dead])
  else if c.isPunt then (some c, [])
  else match s.memberSlices i c.target with
    | none => (none, [0x8A])
    | some all =>
      let barred := fun (e : Nat) => NMap.get 0 c.barred e
      let l := all.filter (fun e => decide (barred e = 0))
      let gone := (all.map barred).filter (fun k => decide (k ≠ 0))
      if all.isEmpty || !s.configured c.target then (none, [0x8A])
      else if l.isEmpty then (none, gone)
      else (some (match c.target with
        | .eqx g =>
          let w := (s.eqxGroup i g).w0
          { c with slices := l, release := s.sliceT i + 16 * fld w 15 0, tol := fld w 29 16, pfc := fld w 50 48 }
        | .merge _ => { c with slices := l, rank := s.rankOf i p.capture (64 * i.val + p.lane) }
        | _ => { c with slices := l }), gone)
/-- THREAD_COMMIT (R120, R122, R155, R187, R318): the packet's copies and its record are committed together.  Merge copies are handed
on at once; with nothing else to hand on the packet gives up its restorer entry (R124). -/
def commitThread (i : Fin 16) (t : Nat) (s : State) : State :=
  match s.thread i t with
  | none => s
  | some th =>
    match s.packet i th.pkt with
    | none => stopThread i t s
    | some p =>
      let n := th.pkt
      if p.full then dropFull i n (stopThread i t s)
      else if th.copies.isEmpty then endDrop i t 0x80 s
      else
        let s1 := endFragment i n (stopThread i t s)
        let fin := th.copies.map (finishCopy s1 i p)
        let live := fin.filterMap (·.1)
        let f := s1.frame p.frame
        let r : WaitRec :=
          { pkt := n, frame := p.frame, capture := p.capture, port := 64 * i.val + p.lane,
            index := th.ledg.getD (fld (NMap.get 0 th.m 3) 16 0), fragment := p.parse.has flgFragment,
            punted := th.copies.any Copy.isPunt, missing := (th.copies.filter Copy.isMerge).length,
            fcs := if f.done then some (!f.bad) else none, commitAt := s.uptime }
        let v := if th.evidential then recordCommit i r s1 else (false, s1)
        if v.1 then dropPacket i n 0x8C v.2
        else
          let s2 := (fin.flatMap (·.2)).foldl (fun a c => dropAtIngress i c a) v.2
          let rest := live.filter (fun c => !c.isMerge)
          let p1 := { p with committed := some rest, evidential := th.evidential }
          let s3 := (s2.setPacket i n p1).modLane i p.lane (fun l => { l with ended := p.seq :: l.ended })
          let now := if (s3.frame p.frame).bad && !rest.isEmpty then [] else live.filter Copy.isMerge
          let s4 := handCopies i n p1 now s3
          if rest.isEmpty then retirePacket i n (if now.isEmpty then s4 else s4.modPacket i n (fun y => { y with entry := false })) else s4
/-- What holds a thread is over once no tag that it waits for is PENDING (R155, R165, R195). -/
def release (i : Fin 16) (t : Nat) (s : State) : State :=
  match s.thread i t with
  | none => s
  | some th =>
    match th.hold with
    | .wait mask =>
      if th.pendingIn mask then s
      else (completeSamples i t th 0 (· = sampleWait) s).setThread i t
        { th with hold := .none, nextAt := s.cycle + 1, samples := th.samples.filter (fun x => decide (x.1 ≠ sampleWait)) }
    | .ending => if th.pendingIn 0xFF then s else commitThread i t s
    | .dropping c => if th.pendingIn 0xFF then s else endDrop i t c s
    | _ => s

-- Run limit, caches and re-dispatch (R115, R126, R129) -------------------------------------------------------------

/-- CCLK cycles since the thread's first instruction. -/
def Thread.ran (th : Thread) (cycle : Nat) : Nat := cycle - th.firstAt.getD cycle
/-- RUN_LIMIT_EXPIRY (R115); an issue of this cycle is wasted (R457). -/
def runLimitExpiry (i : Fin 16) (t : Nat) (s : State) : State :=
  match s.thread i t with
  | none => s
  | some th => if th.limit ≤ th.ran s.cycle then endDrop i t 0x82 ((wasteSlot i t s).count i Reg.DSP_COUNT1 31 16) else s

/-- The cache line of an instruction, and its set. -/
def icacheLine (bank pc : Nat) : Nat := bank * 4096 + pc / 8
def icacheSet (line : Nat) : Nat := line % 256
def Cluster.cached (c : Cluster) (line : Nat) : Bool := (NMap.get [] c.icache (icacheSet line)).contains line
/-- The line becomes the most recently used of its set; the least recently used of five leaves (R126). -/
def Cluster.touch (c : Cluster) (line : Nat) : Cluster :=
  let way := ((line :: (NMap.get [] c.icache (icacheSet line)).erase line)).take 4
  { c with icache := NMap.set [] c.icache (icacheSet line) way }
/-- ICACHE_FILL: the line of the cluster's oldest miss arrives, for every thread that waits for it. -/
def icacheFill (i : Fin 16) (c : Nat) (s : State) : State :=
  match ((s.slice i).cluster c).misses with
  | [] => s
  | (line, _) :: _ =>
    let ts := (((s.slice i).cluster c).misses.filter (fun m => decide (m.1 = line))).map (·.2)
    let s1 := s.modCluster i c (fun x => { (x.touch line) with misses := x.misses.filter (fun m => decide (m.1 ≠ line)) })
    ts.foldl (fun a t => match a.thread i t with
      | some th => a.setThread i t { th with hold := .none }
      | none => a) s1

/-- A fenced cluster's threads stop, and their packets return to the head of their home queues in sequence order (R129). -/
def redispatch (i : Fin 16) (c : Nat) (s : State) : State :=
  let ts := (s.slice i).threads.filter (fun e => decide (e.1 / 64 = c))
  let s1 := ts.foldl (fun a e => stopThread i e.1 (wasteSlot i e.1 a)) s
  let ps := ts.filterMap (fun e => (s.packet i e.2.pkt).map (fun p => (e.2.pkt, p)))
  let ahead := fun (p : Packet) => (p.seq + 2 ^ 32 - (s.lane i p.lane).turn) % 2 ^ 32
  let later := fun (a b : Nat × Packet) =>
    if a.2.lane = b.2.lane then decide (ahead b.2 ≤ ahead a.2) else decide (b.2.lane ≤ a.2.lane)
  (ps.mergeSort later).foldl (fun a e =>
    ((a.setPacket i e.1 { e.2 with redisp := true, stolen := false }).modCluster i (e.2.lane / 4) (fun x =>
      a.headNow i { x with queue := e.1 :: x.queue })).count i Reg.DSP_COUNT1 63 32) s1

-- Asynchronous operations (R163 to R178) ---------------------------------------------------------------------------

/-- The destinations of an operation (R164); a discarded write to g0 is none. -/
def AsyncOp.dests (o : AsyncOp) : List Ref :=
  (match o with
   | .lkpEm _ _ ldsr _ d => gReg d :: (if ldsr then [mReg 3] else [])
   | .lkpRm _ _ _ d => [gReg d, gReg (d + 1)]
   | .lkpSr _ d => [gReg d, gReg (d + 1), gReg (d + 2), gReg (d + 3)]
   | .meter _ _ setc _ d => gReg d :: (if setc then [mReg 9] else [])
   | .seqAdd _ _ _ d => [gReg d]
   | .sha _ d => [gReg d, gReg (d + 1), gReg (d + 2), gReg (d + 3)]
   | .rply _ _ _ _ _ _ d => [gReg d]).filter (fun r => r.m || decide (r.n ≠ 0))
/-- The unit of an operation (Table 06.2), by which R168 ends it; an EM lookup's is the first tier that its TIER would search. -/
def AsyncOp.unit (o : AsyncOp) : Nat :=
  match o with
  | .lkpEm tier .. => if tier = 2 then 2 else 1
  | .lkpRm .. => 4 | .lkpSr .. => 3 | .meter .. => 5 | .seqAdd .. => 6 | .sha .. => 7 | .rply .. => 9
/-- The units on which an operation takes effect, by which R166 orders a thread's own: an EM lookup's are the tiers of its TIER. -/
def AsyncOp.units (o : AsyncOp) : List Nat :=
  match o with
  | .lkpEm tier .. => if tier = 0 then [1, 2] else [o.unit]
  | _ => [o.unit]
/-- Two operations take effect on a unit in common. -/
def AsyncOp.shares (o : AsyncOp) (us : List Nat) : Bool := o.units.any (fun u => us.contains u)
/-- The unit of an operation other than an EM lookup is fenced while it is PENDING (R168). -/
def Slice.opFenced (x : Slice) (o : AsyncOp) : Bool :=
  match o with
  | .lkpEm .. => false
  | .lkpRm .. => x.unitFenced .rules
  | .lkpSr .. => x.unitFenced .session
  | .meter .. => x.unitFenced .meters
  | .seqAdd .. => x.unitFenced .seqCtrs
  | .sha .. => x.digestFenced
  | .rply .. => x.unitFenced .ddr5

/-- Every destination 0 under a status. -/
def AsyncOp.zeros (o : AsyncOp) (st : CmdStatus) : OpResult := { st := st, vals := o.dests.map (fun r => (r, 0)) }

/-- An EM hit (R170, Table 07.2). -/
def emHit (i : Fin 16) (far ldsr : Bool) (d n : Nat) (e : Entry) (s : State) : OpResult × State :=
  let m3 := if ldsr && bitAt e.result 17 then [(mReg 3, pack [(63, 63, 1), (16, 0, fld e.result 16 0)])] else []
  ({ st := .ok, vals := (gReg d, e.result) :: m3 }, s.modTier i far (fun t => t.put n (some { e with hit := true })))
/-- An EM miss under a status: d is 0 and m3 stays (R170, R171). -/
def emMiss (d : Nat) (st : CmdStatus) : OpResult := { st := st, vals := [(gReg d, 0)] }
/-- The Far step of an EM search; a slot with a double-bit error reads as absent (R224).  An error that a miss meets lies in a slot that
it read. -/
def emFar (i : Fin 16) (epoch err : Nat) (wide ldsr : Bool) (key d : Nat) (s : State) : OpResult × State :=
  let x := s.slice i
  let s1 := searchReads i 0 true wide key s
  match x.found true wide key (fun e => x.tbl.visible epoch e.vis) with
  | some (n, e) =>
    let s2 := slotEcc i true err n s1
    if err = 2 then (emMiss d .notFound, s2) else emHit i true ldsr d n e s2
  | none => (emMiss d .notFound, searchEcc i true wide key err s1)
/-- An EM search (R170, R171, R362); `o` is the operation itself, `served` says that the channel serves it. -/
def emSearch (i : Fin 16) (o : AsyncOp) (epoch err tier : Nat) (served wide ldsr : Bool) (key d : Nat) (s : State) : OpResult × State :=
  let x := s.slice i
  let near := decide (tier ≠ 2) && !x.nearFenced
  let s1 := if near then searchReads i 0 false wide key s else s
  let hit := if near then x.found false wide key (fun e => x.tbl.visible epoch e.vis) else none
  let s2 := match hit with
    | some (n, _) => slotEcc i false err n s1
    | none => s1
  let later := if hit.isSome then 0 else err
  match (if hit.isSome && decide (err = 2) then none else hit) with
  | some (n, e) => emHit i false ldsr d n e s2
  | none =>
    if tier = 1 then (if near then emMiss d .notFound else o.zeros .fenced, s2)
    else if x.farFenced then (if near then emMiss d .fenced else o.zeros .fenced, s2)
    else if !served then (o.zeros .timeout, s2.count i Reg.DRM_COUNT1 63 32)
    else emFar i epoch later wide ldsr key d s2
/-- An operation takes effect on its unit and gives its result (R163 to R178, R194).  `err` is the ECC error that its slot,
record or archive read met, 1 corrected, 2 not correctable, or that a rule matcher row holds undetected; `queued`, it was in the channel's queue when a drain began. -/
def performOp (i : Fin 16) (epoch err : Nat) (queued : Bool) (o : AsyncOp) (s : State) : OpResult × State :=
  let x := s.slice i
  let served := x.farReady || (queued && decide (x.dram.state = .ready))
  if x.opFenced o then (o.zeros .fenced, s)
  else match o with
  | .lkpEm tier wide ldsr key d => emSearch i o epoch err tier served wide ldsr key d s
  | .lkpRm bank rmw key d =>
    let e := s.recordBank x.fol epoch
    let v := (x.rmx.copy e).asRead err s
    let r := rmxSearch i v.1 bank rmw key v.2
    ({ st := r.1.status, vals := [(gReg d, r.1.d0), (gReg (d + 1), r.1.d1)] }, r.2)
  | .lkpSr idx d =>
    let b := s.recordBank x.fol epoch
    let s1 := tblAccess i 0 idx (if err = 0 then s else recordEcc i b idx (decide (err = 2)) s)
    let r := x.tbl.record b idx
    ({ st := .ok, vals := (List.range 4).map (fun k => (gReg (d + k), recordWord r k)) }, s1)
  | .meter idx len setc colour d =>
    let v := match idx with
      | some n => meterOp i (s.recordBank x.fol epoch) n len colour s
      | none => (none, s)
    let c := v.1.getD 2
    ({ st := if v.1.isSome then .ok else .notFound,
       vals := (gReg d, word c) :: (if setc then [(mReg 9, word c)] else []) }, countColour i c v.2)
  | .seqAdd idx inc _ d =>
    match idx with
    | none => ({ st := .notFound, vals := [(gReg d, 0)] }, s)
    | some n =>
      let old := NMap.get 0 x.seqCtr n
      ({ st := .ok, vals := [(gReg d, old)] }, s.modSlice i (fun y => { y with seqCtr := NMap.set 0 y.seqCtr n (old + inc) }))
  | .sha bytes d =>
    let g := sha256 bytes
    ({ st := .ok, vals := (List.range 4).map (fun k => (gReg (d + k), word (ofBytesBE (slice g (8 * k) 8)))) }, s)
  | .rply _ group num _ _ _ d =>
    if !served then (o.zeros .timeout, (s.count i Reg.DRM_COUNT1 63 32).count i Reg.RPL_COUNT1 31 0)
    else match s.archFind i group num with
      | none => (o.zeros .notFound, dramEcc i (s.slotAddr i group num) err (s.count i Reg.RPL_COUNT1 31 0))
      | some a =>
        let at_ := s.slotAddr i group num
        let s1 := dramEcc i at_ err (dramRead i 3 at_ (ceilDiv (a.bytes.length + 16) 64) s)
        if err = 2 then (o.zeros .notFound, s1.count i Reg.RPL_COUNT1 31 0)
        else ({ st := .ok, vals := [(gReg d, word a.bytes.length)], copy := some a.bytes }, s1.count i Reg.RPL_COUNT1 63 32)
/-- The values of a METER's m9 keep CLASS: only COLOUR is written (R173), unless the operation answered zeros. -/
def Thread.putResult (th : Thread) (o : AsyncOp) (r : OpResult) : Thread :=
  r.vals.foldl (fun a v =>
    match o with
    | .meter .. => if v.1 = mReg 9 ∧ r.st ≠ .fenced then a.put v.1 ((a.get v.1 &&& 0x1C) ||| v.2) else a.put v.1 v.2
    | _ => a.put v.1 v.2) th
/-- An ORD fetch-add may take effect (R176). -/
def State.opReady (s : State) (i : Fin 16) (lane seq : Nat) (o : AsyncOp) : Bool :=
  match o with
  | .seqAdd _ _ ord _ => !ord || (s.lane i lane).allEnded seq
  | _ => true
/-- Nothing that shares a unit stands before the tag's operation in a thread's list (R166). -/
def firstOfUnit (ops : List (Nat × AsyncOp)) (tag : Nat) (o : AsyncOp) : Bool :=
  (ops.find? (fun x => x.2.shares o.units)).all (fun x => decide (x.1 = tag))
/-- The operations of a list, oldest first, that take effect on the units `us` or on those of a later one of them (R166). -/
def inFront : List (Nat × AsyncOp) → List Nat → List (Nat × AsyncOp) × List Nat
  | [], us => ([], us)
  | x :: l, us =>
    let r := inFront l us
    if x.2.shares r.2 then (x :: r.1, x.2.units ++ r.2) else r
/-- The thread's operations that must have taken effect before the tag's own does, and have not (R166). -/
def Thread.before (th : Thread) (tag : Nat) (o : AsyncOp) : List (Nat × AsyncOp) :=
  (inFront ((th.ops.takeWhile (fun x => decide (x.1 ≠ tag))).filter (fun x => !th.performed x.1)) o.units).1
/-- The archived frame that a completed RPLY adds as a copy toward its queue (R191, R194). -/
def replayCopy (o : AsyncOp) (bytes : List Byte) : List Copy :=
  match o with
  | .rply q _ _ cls colour info _ =>
    [{ target := .replay q bytes, xcls := if cls = 7 then 6 else cls, cls := cls, colour := colour, edits := [], cut := false,
       info := info, dead := 0 }]
  | _ => []
/-- The drop reason of a replay copy at its addition (R15, R23). -/
def replayDead (s : State) (i : Fin 16) (c : Copy) : Copy :=
  match c.target with
  | .replay q _ => { c with dead := crossDrop s i (sl (q / 4096)) }
  | _ => c
/-- The operations that each completion row completes. -/
def AsyncOp.isLkp : AsyncOp → Bool
  | .lkpEm .. => true
  | .lkpRm .. => true
  | .lkpSr .. => true
  | _ => false
def AsyncOp.isMeter : AsyncOp → Bool
  | .meter .. => true
  | _ => false
def AsyncOp.isSeq : AsyncOp → Bool
  | .seqAdd .. => true
  | _ => false
def AsyncOp.isSha : AsyncOp → Bool
  | .sha .. => true
  | _ => false
def AsyncOp.isRply : AsyncOp → Bool
  | .rply .. => true
  | _ => false
/-- An operation of an ended thread can take effect now: it is the first of its unit among those of its packet. -/
def Orphan.may (o : Orphan) (s : State) (i : Fin 16) : Bool :=
  let own := (s.slice i).orphans.filter (fun x => decide (x.thread = o.thread ∧ x.lane = o.lane ∧ x.seq = o.seq))
  firstOfUnit (own.map (fun x => (x.tag, x.op))) o.tag o.op && s.opReady i o.lane o.seq o.op
/-- An operation of a running thread completes with its result (R163): its destinations, its tag, and the copy it adds. -/
def finishOp (i : Fin 16) (t tag : Nat) (o : AsyncOp) (r : OpResult) (s : State) : State :=
  match s.thread i t with
  | none => s
  | some th =>
    let copies := ((r.copy.map (replayCopy o)).getD []).map (replayDead s i)
    let th1 := (th.putResult o r).setTag tag (.done r.st)
    let th2 := { th1 with ops := th.ops.filter (fun x => decide (x.1 ≠ tag)), copies := th.copies ++ copies,
                          results := th.results.filter (fun x => decide (x.1 ≠ tag)), samples := th.samples.filter (fun x => decide (x.1 ≠ tag)) }
    release i t ((completeSamples i t th 0 (· = tag) s).setThread i t th2)
/-- An operation that was queued in the channel when a speed change began (R360). -/
def State.queuedOp (s : State) (i : Fin 16) (t tag : Nat) : Bool := (s.slice i).dram.queued.contains (t, tag)
/-- An operation is complete: the channel no longer has it to serve. -/
def Slice.served (x : Slice) (t tag : Nat) : Slice := { x with dram := { x.dram with queued := x.dram.queued.erase (t, tag) } }
/-- Operations of a thread take effect on their units in order, and wait to complete (R166).  One that takes effect so meets no ECC
error (log 123). -/
def takeEffects (i : Fin 16) (t : Nat) (epoch : Nat) (l : List (Nat × AsyncOp)) (s : State) : State :=
  l.foldl (fun a x =>
    let r := performOp i epoch 0 (a.queuedOp i t x.1) x.2 a
    match r.2.thread i t with
    | some th => r.2.setThread i t { th with results := th.results ++ [(x.1, r.1)] }
    | none => r.2) s
/-- The completion of the operation under `tag` of a kind (R163): an operation whose thread has ended and that can take effect
first, else the thread's.  It may complete before earlier ones of its thread; those that share a unit with it take effect first
(R166). -/
def completeOp (i : Fin 16) (t tag err : Nat) (kind : AsyncOp → Bool) (s : State) : State :=
  match (s.slice i).orphans.find? (fun o => decide (o.thread = t ∧ o.tag = tag) && kind o.op && o.may s i) with
  | some o => (performOp i o.epoch err (s.queuedOp i t tag) o.op s).2.modSlice i (fun x =>
      ({ x with orphans := x.orphans.erase o } : Slice).served t tag)
  | none =>
    match s.thread i t with
    | none => s
    | some th =>
      match th.ops.find? (fun x => decide (x.1 = tag)), s.packet i th.pkt with
      | some (_, o), some p =>
        match (if kind o then th.results.find? (fun x => decide (x.1 = tag)) else none) with
        | some r => finishOp i t tag o r.2 (s.modSlice i (fun x => x.served t tag))
        | none =>
          if kind o && ((th.before tag o).all (fun x => s.opReady i p.lane p.seq x.2)) && s.opReady i p.lane p.seq o then
            let s1 := takeEffects i t th.epoch (th.before tag o) s
            let r := performOp i th.epoch err (s1.queuedOp i t tag) o s1
            finishOp i t tag o r.1 (r.2.modSlice i (fun x => x.served t tag))
          else s
      | _, _ => s
/-- The units `us` (Table 06.2) are fenced: their pending operations complete with FENCED and zeros (R168), and those whose thread
has ended leave without an effect. -/
def fenceOps (i : Fin 16) (us : List Nat) (s : State) : State :=
  let s1 := s.modSlice i (fun x => { x with orphans := x.orphans.filter (fun o => !us.contains o.op.unit) })
  (s1.slice i).threads.foldl (fun a e =>
    (e.2.ops.filter (fun o => us.contains o.2.unit)).foldl (fun b o => finishOp i e.1 o.1 o.2 (o.2.zeros .fenced) b) a) s1

-- Exceptions (R156 to R159) ----------------------------------------------------------------------------------------

/-- The counter of an exception cause (Table 05.17). -/
def countCause (i : Fin 16) (c : Nat) (s : State) : State :=
  if c ≤ 3 then s.count i Reg.PGM_COUNT0 (63 - 16 * c) (48 - 16 * c) else s.count i Reg.PGM_COUNT1 (127 - 16 * c) (112 - 16 * c)
/-- The handler of a program bank, when PGM_TRAP enables it. -/
def State.handler (s : State) (i : Fin 16) (bank : Nat) : Option Nat :=
  let w := s.reg i Reg.PGM_TRAP
  if bank = 0 then (if bitAt w 16 then some (fld w 14 0) else none) else if bitAt w 48 then some (fld w 46 32) else none
/-- THREAD_EXCEPTION: the thread takes cause `c` with argument `arg` (R157), or ends (R158). -/
def raiseCause (i : Fin 16) (t : Nat) (th : Thread) (c : Nat) (arg : Word) (s : State) : State :=
  if th.inHandler then endDrop i t 0xE6 ((countCause i 6 s).setThread i t th)
  else
    let th1 := ((th.putMeta 11 (pack [(18, 16, c), (14, 0, th.pc)])).putMeta 12 arg).putMeta 8 (NMap.get 0 th.m 8 ||| 8)
    match s.handler i th.bank with
    | some pc => (countCause i c s).setThread i t { th1 with pc := pc }
    | none => endDrop i t (0xE0 + c) ((countCause i c s).setThread i t th1)

-- Issue (R109, R126, R139 to R141) ---------------------------------------------------------------------------------

/-- What an instruction asks for, as it is judged at issue. -/
structure Plan where
  /-- It breaks a condition of R140. -/
  bad    : Bool
  /-- It writes an RO metadata register (R138). -/
  ro     : Bool := false
  /-- m12 of the other reasons for cause 0 that apply (R141, R153, JR). -/
  zero   : List Nat := []
  /-- m12 of causes 1, 3 and 5 when they apply. -/
  window : Option Nat := none
  spad   : Option Word := none
  soft   : Option Nat := none
  /-- Units that the fault unit has fenced and without which it cannot run (R168). -/
  fenced : List Nat := []
  reads  : List Ref := []
  writes : List Ref := []
  /-- The tag that an asynchronous instruction names. -/
  tag    : Option Nat := none
  /-- The target of a branch that is taken. -/
  target : Option Nat := none
  /-- It ends the thread: the PC does not advance. -/
  ends   : Bool := false
  /-- Latency, and class of the CLASS filter (R142, R454). -/
  lat    : Nat := 1
  cls    : Nat
  /-- The scratchpad address that it accesses (R127). -/
  access : Option Nat := none
  /-- Its effect on a thread whose PC has moved on. -/
  act    : Thread → State → Thread × State

/-- One of several values that the spec leaves open, a free choice among them. -/
def pick (l : List Nat) (s : State) : Nat × State :=
  if l.length ≤ 1 then (l.headD 0, s) else ((l[(s.draw).1 % l.length]?).getD 0, (s.draw).2)
/-- The tags whose pending operations write one of the registers (R164). -/
def Thread.tagsOf (th : Thread) (rs : List Ref) : List Nat :=
  (th.ops.filter (fun o => o.2.dests.any (fun d => rs.contains d))).map (·.1)
/-- The lowest exception cause that an instruction meets, with m12 (R156).  Of a sum that R145 does not wrap m12 holds the low 64 bits
(the model's choice, log 122). -/
def Plan.cause (p : Plan) (w : Word) (th : Thread) (s : State) : Option (Nat × Word) × State :=
  let past := if p.target.isNone && !p.ends && decide (th.pc = 0x7FFF) then [0x8000] else []
  let zs := p.zero ++ past
  if p.bad then (some (0, word (fld w 63 32)), s)
  else if !zs.isEmpty then (let v := pick zs s; (some (0, word v.1), v.2))
  else if p.ro then (some (0, word (fld w 63 32)), s)
  else match p.window with
    | some l => (some (1, word l), s)
    | none =>
      let first := match p.tag with
        | some t => if th.tag t = .pending then [t] else []
        | none => []
      let tags := if first.isEmpty then th.tagsOf (p.reads ++ p.writes) else first
      if !tags.isEmpty then (let v := pick tags.eraseDups s; (some (2, word v.1), v.2))
      else match p.spad with
        | some a => (some (3, a), s)
        | none =>
          if !p.fenced.isEmpty then (let v := pick p.fenced s; (some (4, word v.1), v.2))
          else (p.soft.map (fun c => (5, word c)), s)

/-- Kinds and codes that no instruction has: the words that raise cause 0 whatever row a command names (Tables 05.4, 06.1). -/
def unspelled (w : Word) : Bool :=
  let op := fld w 63 56
  !((decide (op ≤ 0x13)) || (decide (0x20 ≤ op) && decide (op ≤ 0x22)) || (decide (0x28 ≤ op) && decide (op ≤ 0x32)) ||
    decide (op = 0x38) || decide (op = 0x39) || decide (op = 0x3C) || decide (op = 0x3D) || (decide (0x40 ≤ op) && decide (op ≤ 0x4E))) ||
  (decide (op = 0x40) && decide (fld w 37 36 = 3)) || (decide (op = 0x43) && decide (3 < fld w 40 38)) ||
  (decide (op = 0x44) && decide (5 < fld w 40 37)) || (decide (op = 0x4A) && decide (4 < fld w 38 36))
/-- The class of the CLASS filter for an opcode whose KIND or code is not spelled (R454). -/
def opClass (op : Nat) : Nat :=
  if op = 0x40 then 6 else if op = 0x43 then 9 else if op = 0x44 then 10 else if op = 0x4A then 14 else 0
/-- The cycles for which an access of a Quill waits for its scratchpad bank (R127): the bank serves one access of one Quill in a cycle,
those that wait before later ones.  Accesses of one cycle take their order from the commands (log 125). -/
def Cluster.spadStall (c : Cluster) (q a cycle : Nat) : Nat :=
  let b := NMap.get (0, 0) c.banks (a / 8 % 8)
  if b.2 = q then 0 else b.1 - cycle
/-- The bank serves the access, in the cycle in which its turn comes. -/
def Cluster.spadTake (c : Cluster) (t a cycle : Nat) : Cluster :=
  let q := t % 64 / 2
  let n := cycle + c.spadStall q a cycle
  let free := max (n + 1) (NMap.get (0, 0) c.banks (a / 8 % 8)).1
  { c with banks := NMap.set (0, 0) c.banks (a / 8 % 8) (free, q), stalled := NMap.set 0 c.stalled t n }
/-- The stalled cycles of an instruction's scratchpad access, 0 where it makes none. -/
def State.spadStall (s : State) (i : Fin 16) (t : Nat) (a : Option Nat) : Nat :=
  match a with
  | some a => ((s.slice i).cluster (t / 64)).spadStall (t % 64 / 2) a s.cycle
  | none => 0
/-- An instruction's scratchpad access is arbitrated, and its stalled cycles count in SPAD_STALL (R127). -/
def spadArbitrate (i : Fin 16) (t : Nat) (a : Option Nat) (s : State) : State :=
  match a with
  | none => s
  | some x =>
    let k := s.spadStall i t a
    s.modSlice i (fun y => (y.modCluster (t / 64) (fun c => c.spadTake t x s.cycle)).count (Reg.ENG_COUNT1 + 0x1000 * (t / 64)) 31 0 k)
/-- An instruction of a thread issues: judged, counted by slot class and as an event, sampled, and either excepted or done. -/
def runPlan (i : Fin 16) (t : Nat) (w : Word) (th : Thread) (p : Plan) (s : State) : State :=
  let v := p.cause w th s
  let attr : PmcAttr := { cluster := t / 64, cls := p.cls, range := th.pc }
  let wait := s.cycle - th.nextAt
  let th1 := { th with firstAt := some (th.firstAt.getD s.cycle), nextAt := s.cycle + 1 }
  let op := fld w 63 56
  match v.1 with
  | some (c, arg) =>
    let e := pmcEventS i 0x11 1 attr ((v.2.countWasted i (t / 64)).useSlot i t p.cls th.pc false)
    let s1 := e.2.foldl (fun a k => pmcSample i (sampleRecord t th1 k s.cycle wait op th.pc s.cycle 2) a) e.1
    if th.limit ≤ th.ran s.cycle then s1.setThread i t th1 else raiseCause i t th1 c arg s1
  | none =>
    let k := v.2.spadStall i t p.access
    let e := pmcEventS i 0x10 1 attr ((spadArbitrate i t p.access (v.2.countRetired i (t / 64))).useSlot i t p.cls th.pc true)
    let r := p.act { th1 with pc := p.target.getD (th.pc + 1) } e.1
    let key := match p.tag, r.1.hold with
      | some g, _ => some g
      | none, .wait _ => some sampleWait
      | none, .ending => some sampleEnd
      | none, .dropping _ => some sampleEnd
      | none, _ => none
    match key with
    | some g =>
      let th2 := { r.1 with samples := r.1.samples ++ e.2.map (fun k => (g, k, s.cycle, wait, op, th.pc)) }
      release i t (r.2.setThread i t th2)
    | none =>
      let sync := e.2.map (fun n => { thread := t, due := s.cycle + p.lat + k, ctr := n, issued := s.cycle, wait := wait, op := op, pc := th.pc : SyncSample })
      (r.2.setThread i t r.1).modSlice i (fun y => { y with pmc := { y.pmc with sync := y.pmc.sync ++ sync } })
/-- The program store of a slice. -/
def Slice.instr (x : Slice) (bank pc : Nat) : Word := NMap.get 0 x.program (32768 * bank + pc)
/-- The next instruction of a thread issues as `w` and acts as `plan` says.  Nothing happens while the thread is held, or when
the instruction at its PC is another one; a missing cache line holds it (R126). -/
def issue (i : Fin 16) (t : Nat) (w : Word) (plan : Thread → Packet → State → Plan) (s : State) : State :=
  match s.thread i t with
  | none => s
  | some th =>
    match s.packet i th.pkt, th.hold with
    | some p, .none =>
      let line := icacheLine th.bank th.pc
      if ((s.slice i).cluster (t / 64)).cached line then
        let s1 := s.modCluster i (t / 64) (fun c => c.touch line)
        let pw := (s.slice i).instr th.bank th.pc
        if pw = w then runPlan i t w th (plan th p s1) s1
        else if unspelled pw then runPlan i t pw th { bad := true, cls := opClass (fld pw 63 56), act := fun a b => (a, b) } s1
        else s
      else
        ((s.setThread i t { th with hold := .icache }).modCluster i (t / 64) (fun c =>
          { c with misses := c.misses ++ [(line, t)] })).count i (Reg.ENG_COUNT1 + 0x1000 * (t / 64)) 63 32
    | _, _ => s

end Sys2Proof.Machine
end

