-- ==== Sys2Proof/Machine/Ihluc.lean ====
section
/-!
DEFINITION. The core instructions of Ihluc: formats, legality, operands, results and flags ("Ihluc Instruction Set: Registers
and Core Instructions", R139 to R156).
-/
namespace Sys2Proof.Machine
open Sys2Proof

/-- The instruction word of a row: its opcode above the low 56 bits that the command gives (Table 05.3). -/
def insWord (op : Nat) (f : BitVec 56) : Word := word (op * 2 ^ 56 + f.toNat)
/-- The same with the field that the row fixes, such as a KIND. -/
def kindWord (op hi lo kind : Nat) (f : BitVec 56) : Word := setFld (insWord op f) hi lo kind

/-- Fields D, A and B. -/
def fD (w : Word) : Nat := fld w 55 51
def fA (w : Word) : Nat := fld w 50 46
def fB (w : Word) : Nat := fld w 45 41
/-- A register field with its file bit. -/
def refOf (m : Bool) (n : Nat) : Ref := { m := m, n := n }
/-- A file bit of 1 needs bit 4 of its field to be 0. -/
def badRef (r : Ref) : Bool := r.m && decide (16 ≤ r.n)
/-- A destination marked RO: the write raises cause 0 (R138), which is no condition of R140. -/
def roDest (r : Ref) : Bool := r.m && decide (r.n < 16) && !metaRw r.n
/-- A value of `n` bits extended to 64. -/
def sext (n v : Nat) : Word := word (twos 64 (sxNat n v))
def extend (sx : Bool) (n v : Nat) : Word := if sx then sext n v else word v

-- ALU (R143, R144, Table 05.6) -------------------------------------------------------------------------------------

/-- Result, C and V of an ALU operation. -/
abbrev AluOut := Word × Bool × Bool
def signedOf (w : Word) : Int := sxNat 64 w.toNat
/-- V: the exact signed result does not fit 64 bits. -/
def overflows (x : Int) : Bool := decide (x < -(2 ^ 63 : Int)) || decide ((2 ^ 63 : Int) ≤ x)
def aluAdd (a b : Word) : AluOut := (a + b, decide (2 ^ 64 ≤ a.toNat + b.toNat), overflows (signedOf a + signedOf b))
def aluSub (a b : Word) : AluOut := (a - b, decide (a.toNat < b.toNat), overflows (signedOf a - signedOf b))
/-- An operation whose C and V are 0. -/
def plain (f : Word → Word → Word) (a b : Word) : AluOut := (f a b, false, false)
def aluMul (a b : Word) : AluOut := (a * b, decide (2 ^ 64 ≤ a.toNat * b.toNat), false)
def aluRol (a b : Word) : Word := a.rotateLeft (b.toNat % 64)
/-- The low `n` bytes in reverse order. -/
def aluBswap (a : Word) (n : Nat) : Word := word (ofBytesBE (bytesLE n a.toNat))
def aluClz (a : Word) : Word := word (64 - (List.range 65).findIdx (fun n => decide (a.toNat < 2 ^ n)))

/-- How an ALU row uses its fields. -/
structure AluRow where
  hasA : Bool := true
  hasB : Bool := true
  /-- IMM32 has a use of its own and I must be 1; which values it may hold. -/
  imm  : Option (Nat → Bool) := none
  /-- CMP and TST: no destination, flags always set. -/
  test : Bool := false
  lat  : Nat := 1
  f    : Word → Word → AluOut

/-- Flags set from a result (R144). -/
def Thread.setFlags (th : Thread) (o : AluOut) : Thread :=
  { th with z := decide (o.1 = 0), n := bitAt o.1 63, c := o.2.1, v := o.2.2 }
/-- The plan of an ALU instruction (R140, R143). -/
def aluPlan (r : AluRow) (w : Word) (th : Thread) : Plan :=
  let d := refOf (bitAt w 40) (fD w)
  let a := refOf (bitAt w 39) (fA w)
  let b := refOf (bitAt w 38) (fB w)
  let i := bitAt w 36
  let imm := fld w 31 0
  let bv := if r.imm.isSome then word imm else if i then sext 32 imm else th.get b
  let bad :=
    decide (fld w 35 32 ≠ 0) || (!i && decide (imm ≠ 0)) || (i && (decide (b.n ≠ 0) || b.m)) ||
    (!r.hasA && (decide (a.n ≠ 0) || a.m)) ||
    (!r.hasB && (decide (b.n ≠ 0) || b.m || (match r.imm with
      | some ok => !i || !ok imm
      | none => i))) ||
    badRef a || badRef b || (if r.test then decide (d.n ≠ 0) || d.m || bitAt w 37 else badRef d)
  { bad := bad, ro := !r.test && roDest d, cls := 0, lat := r.lat,
    reads := (if r.hasA then [a] else []) ++ (if r.hasB && !i then [b] else []),
    writes := if r.test then [] else [d],
    act := fun t s =>
      let o := r.f (th.get a) bv
      let t1 := if r.test then t else t.put d o.1
      (if r.test || bitAt w 37 then t1.setFlags o else t1, s) }
/-- NOP is legal only as the all-zero word: none of its fields is used (R140, Table 05.6). -/
def nopPlan (w : Word) : Plan := { bad := decide (w ≠ 0), cls := 0, act := fun t s => (t, s) }

def rowAdd : AluRow := { f := aluAdd }
def rowSub : AluRow := { f := aluSub }
def rowAnd : AluRow := { f := plain (· &&& ·) }
def rowOr : AluRow := { f := plain (· ||| ·) }
def rowXor : AluRow := { f := plain (· ^^^ ·) }
def rowAndn : AluRow := { f := plain (fun a b => a &&& ~~~ b) }
def rowShl : AluRow := { f := plain (fun a b => a <<< (b.toNat % 64)) }
def rowShr : AluRow := { f := plain (fun a b => a >>> (b.toNat % 64)) }
def rowSar : AluRow := { f := plain (fun a b => a.sshiftRight (b.toNat % 64)) }
def rowRol : AluRow := { f := plain aluRol }
def rowMul : AluRow := { f := aluMul, lat := 3 }
def rowMinu : AluRow := { f := plain (fun a b => if a.toNat ≤ b.toNat then a else b) }
def rowMaxu : AluRow := { f := plain (fun a b => if a.toNat ≤ b.toNat then b else a) }
def rowBswap : AluRow :=
  { hasB := false, imm := some (fun n => [2, 4, 8].contains n), f := plain (fun a b => aluBswap a b.toNat) }
def rowClz : AluRow := { hasB := false, f := plain (fun a _ => aluClz a) }
def rowMov : AluRow := { hasA := false, f := plain (fun _ b => b) }
def rowMovhi : AluRow :=
  { hasB := false, imm := some (fun _ => true), f := plain (fun a b => (b <<< 32) ||| (a &&& 0xFFFFFFFF)) }
def rowCmp : AluRow := { test := true, f := aluSub }
def rowTst : AluRow := { test := true, f := plain (· &&& ·) }

-- Bitfields (R145 to R148) -----------------------------------------------------------------------------------------

/-- The field of `n` bits that starts at bit `bit` of byte `base`, in network order: the first bit is the most significant. -/
def netField (byteOf : Nat → Byte) (base bit n : Nat) : Nat :=
  (List.range n).foldl (fun v j =>
    let k := bit + j
    2 * v + (byteOf (base + k / 8)).toNat / 2 ^ (7 - k % 8) % 2) 0
/-- The same in numeric order: the first bit is the least significant. -/
def numField (byteOf : Nat → Byte) (base bit n : Nat) : Nat :=
  sumNat ((List.range n).map (fun j =>
    let k := bit + j
    (byteOf (base + k / 8)).toNat / 2 ^ (k % 8) % 2 * 2 ^ j))
/-- EXT (format X). -/
def extPlan (w : Word) (th : Thread) (p : Packet) (s : State) : Plan :=
  let src := fld w 40 39
  let d := refOf (bitAt w 38) (fD w)
  let a := refOf (bitAt w 37) (fA w)
  let base := (th.get a).toNat + fld w 29 21
  let bit := fld w 20 18
  let n := fld w 17 12 + 1
  let last := base + (bit + n - 1) / 8
  let lim := if src = 0 then 255 else 31
  { bad := decide (1 < src) || decide (fld w 35 30 ≠ 0) || decide (fld w 11 0 ≠ 0) || decide (fB w ≠ 0) || badRef a || badRef d, ro := roDest d,
    window := if decide (lim < last) && !bitAt th.tctl 0 then some last else none,
    reads := [a], writes := [d], cls := 1,
    act := fun t s' =>
      let v := if src = 0 then netField (s.header p) base bit n else numField (byteAt p.parse.bytes) base bit n
      (t.put d (extend (bitAt w 36) n v), s') }
/-- EXTR and INS (format F). -/
def extrPlan (w : Word) (th : Thread) : Plan :=
  let d := refOf (bitAt w 40) (fD w)
  let a := refOf (bitAt w 39) (fA w)
  let n := fld w 17 12 + 1
  let pos := fld w 11 6
  { bad := decide (fld w 37 18 ≠ 0) || decide (fld w 5 0 ≠ 0) || decide (64 < pos + n) || decide (fB w ≠ 0) || badRef a || badRef d, ro := roDest d,
    reads := [a], writes := [d], cls := 1,
    act := fun t s => (t.put d (extend (bitAt w 38) n (fld (th.get a) (pos + n - 1) pos)), s) }
def insPlan (w : Word) (th : Thread) : Plan :=
  let d := refOf (bitAt w 40) (fD w)
  let a := refOf (bitAt w 39) (fA w)
  let n := fld w 17 12 + 1
  let pos := fld w 11 6
  { bad := decide (fld w 38 18 ≠ 0) || decide (fld w 5 0 ≠ 0) || decide (64 < pos + n) || decide (fB w ≠ 0) || badRef a || badRef d, ro := roDest d,
    reads := [a, d], writes := [d], cls := 1,
    act := fun t s => (t.put d (setFld (th.get d) (pos + n - 1) pos (th.get a).toNat), s) }

-- Branches (R149, R150) --------------------------------------------------------------------------------------------

/-- A condition of Table 05.9 over flags Z, N, C, V. -/
def condition (k : Nat) (z n c v : Bool) : Bool :=
  match k with
  | 0 => z | 1 => !z | 2 => c | 3 => !c | 4 => n != v | 5 => n == v | 6 => !c && !z | 7 => c || z | 8 => !z && n == v
  | _ => z || n != v
/-- The outcome of a condition after CMP a, b. -/
def compare (k : Nat) (a b : Word) : Bool :=
  let o := aluSub a b
  condition k (decide (o.1 = 0)) (bitAt o.1 63) o.2.1 o.2.2
def target (w : Word) : Nat := fld w 14 0
/-- A branch that reads `reads` and is taken or not. -/
def branchPlan (bad taken : Bool) (reads : List Ref) (w : Word) : Plan :=
  { bad := bad, reads := reads, cls := 2, target := if taken then some (target w) else none, act := fun t s => (t, s) }
def brPlan (w : Word) : Plan := branchPlan (decide (fld w 55 15 ≠ 0)) true [] w
def callPlan (w : Word) (th : Thread) : Plan :=
  { bad := decide (fld w 50 15 ≠ 0) || decide (fD w = 0), writes := [gReg (fD w)], cls := 2, target := some (target w),
    act := fun t s => (t.put (gReg (fD w)) (word (th.pc + 1)), s) }
def jrPlan (w : Word) (th : Thread) : Plan :=
  let a := refOf (bitAt w 39) (fA w)
  let v := th.get a
  { bad := decide (fD w ≠ 0) || decide (fB w ≠ 0) || bitAt w 40 || decide (fld w 38 0 ≠ 0) || badRef a, reads := [a], cls := 2,
    zero := if 0x8000 ≤ v.toNat then [fld v 15 0] else [], target := some (fld v 14 0), act := fun t s => (t, s) }
def bcPlan (w : Word) (th : Thread) : Plan :=
  branchPlan (decide (9 < fD w) || decide (fld w 50 15 ≠ 0)) (condition (fD w) th.z th.n th.c th.v) [] w
def cbPlan (w : Word) (th : Thread) : Plan :=
  let a := refOf (bitAt w 39) (fA w)
  let b := refOf (bitAt w 38) (fB w)
  branchPlan (decide (9 < fD w) || bitAt w 40 || decide (fld w 37 15 ≠ 0) || badRef a || badRef b)
    (compare (fD w) (th.get a) (th.get b)) [a, b] w
def cbiPlan (w : Word) (th : Thread) : Plan :=
  let a := refOf (bitAt w 39) (fA w)
  branchPlan (decide (9 < fD w) || bitAt w 40 || decide (fld w 38 32 ≠ 0) || decide (fB w ≠ 0) || badRef a)
    (compare (fD w) (th.get a) (sext 17 (fld w 31 15))) [a] w
def bbitPlan (w : Word) (th : Thread) : Plan :=
  let a := refOf (bitAt w 39) (fA w)
  branchPlan (decide (1 < fD w) || bitAt w 40 || decide (fld w 38 21 ≠ 0) || decide (fB w ≠ 0) || badRef a)
    (decide (b2n (bitAt (th.get a) (fld w 20 15)) = fD w)) [a] w
/-- The test of BT on a tag. -/
def tagTest (k : Nat) (t : Tag) : Bool :=
  match k, t with
  | 0, .free => true
  | 1, .pending => true
  | 2, .done _ => true
  | 3, .done st => decide (st.code = 0)
  | 4, .done st => decide (st.code ≠ 0)
  | _, _ => false
def btPlan (w : Word) (th : Thread) : Plan :=
  branchPlan (decide (4 < fD w) || decide (7 < fA w) || decide (fB w ≠ 0) || decide (fld w 40 15 ≠ 0)) (tagTest (fD w) (th.tag (fA w))) [] w

-- Scratchpad (R151, R152) ------------------------------------------------------------------------------------------

/-- `n` bytes of a cluster's scratchpad as a number. -/
def Cluster.spadRead (c : Cluster) (a n : Nat) : Nat := ofBytesLE ((List.range n).map (fun k => NMap.get 0 c.spad (a + k)))
def Cluster.spadWrite (c : Cluster) (a n v : Nat) : Cluster :=
  { c with spad := (List.range n).foldl (fun m k => NMap.set 0 m (a + k) (byte (v / 256 ^ k))) c.spad }
/-- The address of a format M instruction, and its fault (R151). -/
def spadAddr (w : Word) (th : Thread) : Word := th.get (refOf (bitAt w 39) (fA w)) + sext 16 (fld w 31 16)
def spadSize (w : Word) : Nat := 2 ^ fld w 37 36
def spadFault (w : Word) (th : Thread) : Option Word :=
  let a := spadAddr w th
  if 0xFFFF < a.toNat ∨ a.toNat % spadSize w ≠ 0 then some a else none
/-- Reserved bits of format M, and its base register. -/
def badM (w : Word) : Bool := decide (fld w 34 32 ≠ 0) || decide (fld w 15 0 ≠ 0) || badRef (refOf (bitAt w 39) (fA w))
def ldPlan (i : Fin 16) (t : Nat) (w : Word) (th : Thread) : Plan :=
  let d := refOf (bitAt w 40) (fD w)
  { bad := badM w || decide (fB w ≠ 0) || bitAt w 38 || badRef d, ro := roDest d, spad := spadFault w th, cls := 3, lat := 3,
    reads := [refOf (bitAt w 39) (fA w)], writes := [d], access := some (spadAddr w th).toNat,
    act := fun x s =>
      let v := ((s.slice i).cluster (t / 64)).spadRead (spadAddr w th).toNat (spadSize w)
      (x.put d (extend (bitAt w 35) (8 * spadSize w) v), s) }
def stPlan (i : Fin 16) (t : Nat) (w : Word) (th : Thread) : Plan :=
  let b := refOf (bitAt w 38) (fB w)
  { bad := badM w || decide (fD w ≠ 0) || bitAt w 40 || bitAt w 35 || badRef b, spad := spadFault w th, cls := 3,
    reads := [refOf (bitAt w 39) (fA w), b], access := some (spadAddr w th).toNat,
    act := fun x s =>
      (x, s.modCluster i (t / 64) (fun c => c.spadWrite (spadAddr w th).toNat (spadSize w) (th.get b).toNat)) }
def sfaPlan (i : Fin 16) (t : Nat) (w : Word) (th : Thread) : Plan :=
  let d := refOf (bitAt w 40) (fD w)
  let b := refOf (bitAt w 38) (fB w)
  { bad := badM w || decide (fld w 37 36 ≠ 3) || bitAt w 35 || badRef b || badRef d, ro := roDest d, spad := spadFault w th, cls := 3, lat := 4,
    reads := [refOf (bitAt w 39) (fA w), b], writes := [d], access := some (spadAddr w th).toNat,
    act := fun x s =>
      let a := (spadAddr w th).toNat
      let old := ((s.slice i).cluster (t / 64)).spadRead a 8
      (x.put d (word old), s.modCluster i (t / 64) (fun c => c.spadWrite a 8 (old + (th.get b).toNat))) }

-- CSRs, TRAP, END (R153 to R155) -----------------------------------------------------------------------------------

/-- A CSR of Table 05.14 as CSRR reads it, none for another number. -/
def csrValue (i : Fin 16) (t : Nat) (th : Thread) (n : Nat) (s : State) : Option Word :=
  if n = 0 then
    some (pack [(19, 16, i.val), (15, 12, fld (NMap.get 0 th.m 8) 11 8), (11, 8, t / 64), (5, 0, t % 64)])
  else if n = 1 then some (word s.cycle)
  else if n = 2 then some (word (th.ran s.cycle))
  else if n = 3 then some (s.sliceStamp i).lo
  else if n = 4 then some th.time1
  else if 0x10 ≤ n ∧ n ≤ 0x1F then some (s.reg i (Reg.PGM_CONST + 8 * (n - 0x10)))
  else if n = 0x30 then some th.tctl
  else none
def csrrPlan (i : Fin 16) (t : Nat) (w : Word) (th : Thread) (s : State) : Plan :=
  let d := refOf (bitAt w 40) (fD w)
  let n := fld w 11 0
  { bad := decide (fld w 50 41 ≠ 0) || decide (fld w 39 12 ≠ 0) || badRef d, ro := roDest d, zero := if (csrValue i t th n s).isSome then [] else [n],
    writes := [d], cls := 4, lat := if n = 3 then 4 else 2,
    act := fun x s' =>
      let x1 := x.put d ((csrValue i t th n s).getD 0)
      (if n = 3 then { x1 with time1 := (s.sliceStamp i).hi } else x1, s') }
def csrwPlan (w : Word) (th : Thread) : Plan :=
  let a := refOf (bitAt w 39) (fA w)
  let n := fld w 11 0
  { bad := decide (fD w ≠ 0) || decide (fB w ≠ 0) || bitAt w 40 || decide (fld w 38 12 ≠ 0) || badRef a,
    zero := if n = 0x30 then [] else [n], reads := [a], cls := 4, lat := 2,
    act := fun x s => ({ x with tctl := th.get a &&& 1 }, s) }
def trapPlan (w : Word) : Plan :=
  { bad := decide (fld w 55 8 ≠ 0), soft := some (fld w 7 0), cls := 5, act := fun t s => (t, s) }
def endPlan (w : Word) : Plan :=
  { bad := decide (fld w 55 0 ≠ 0), ends := true, cls := 5, act := fun t s => ({ t with hold := .ending }, s) }

end Sys2Proof.Machine
end

