-- ==== Sys2Proof/Machine/Sequencer.lean ====
section
/-!
DEFINITION. The slice sequencer, the program store and scratchpad windows and PGM_TRAP ("Quill Engines, Dispatch and Work
Stealing", R125, R128, R133 to R135; R160).  The codes of COND, UNIT_OP and the ALU field are not given by the spec: they are
free values (log 14); what the units do is the meaning of the rows of their own chapters.
-/
namespace Sys2Proof.Machine
open Sys2Proof

-- Micro-traps and microwords (R134) --------------------------------------------------------------------------------

def State.modSeq (s : State) (i : Fin 16) (f : Sequencer → Sequencer) : State := s.modSlice i (fun x => { x with seq := f x.seq })
/-- The microword that fills the store beyond the image: NEXT_CTL is 0xF (R133). -/
def fillMicroword : Nat := 0xF * 2 ^ 240
def Sequencer.word (q : Sequencer) : Nat := NMap.get fillMicroword q.store q.pc
/-- Micro-register `n`. -/
def Sequencer.reg (q : Sequencer) (n : Nat) : Word := NMap.get 0 q.regs (n % 16)
/-- Operand `k` (0 A, 1 B): its 64 bits, or the micro-register that its low four bits name. -/
def Sequencer.operand (q : Sequencer) (k : Nat) : Word :=
  let v := if k = 0 then bitsOf q.word 191 128 else bitsOf q.word 127 64
  if Config.microOperand (2 * bitsOf q.word 63 0 + k) then q.reg v else Sys2Proof.word v
/-- The sequencer halts (R134). -/
def seqHalt (i : Fin 16) (cause : Nat) (s : State) : State :=
  raiseEvent i.val 0x000 cause false ((s.modSeq i (fun q => { q with state := .halted })).count i Reg.SEQ_COUNT 31 16)
/-- A trap of cause `c` is entered: PC, depth and flags saved, word `c` next. -/
def seqEnter (i : Fin 16) (c : Nat) (s : State) : State :=
  (s.modSeq i (fun q => { q with pc := c, inTrap := true, lastCause := c, savedPc := q.pc, savedDepth := q.depth,
                                 savedFlags := q.flags, pending := q.pending &&& (65535 - 2 ^ c) })).modSlice i
    (fun x => x.count Reg.SEQ_COUNT 63 32 1)
/-- The pending trap of the highest priority is entered when no trap is being handled. -/
def seqTake (i : Fin 16) (s : State) : State :=
  let q := (s.slice i).seq
  if q.state = .running ∧ !q.inTrap ∧ q.pending ≠ 0 then seqEnter i (lowestOne 16 q.pending) s else s
/-- SEQ_TRAP (R134): cause `c` is raised; while IN_TRAP is 1 causes 0 to 3 halt and the others wait. -/
def seqTrap (i : Fin 16) (c : Nat) (s : State) : State :=
  let q := (s.slice i).seq
  if s.up ∧ q.state = .running then
    if q.inTrap ∧ c ≤ 3 then seqHalt i c s
    else seqTake i (s.modSeq i (fun q => { q with pending := q.pending ||| 2 ^ c }))
  else s
/-- The data path of one microword: destination micro-register and flags. -/
def Sequencer.alu (q : Sequencer) : Sequencer :=
  let op := Sys2Proof.word (bitsOf q.word 63 0)
  let a := q.operand 0
  let b := q.operand 1
  { q with regs := NMap.set 0 q.regs (Config.microDest op % 16) (Config.microAlu op a b),
           flags := Config.microFlags op a b q.flags % 256 }
/-- The successor of a microword, or its trap cause (Table 04.11): `cond` is the value of its COND.  A return from trap while IN_TRAP
is 0 restores what the last trap saved (the model's choice, log 122). -/
def Sequencer.next (q : Sequencer) (cond : Bool) : Sequencer ⊕ Nat :=
  let dest := bitsOf q.word 255 244
  let seq := (q.pc + 1) % 4096
  match bitsOf q.word 243 240 with
  | 0 => .inl { q.alu with pc := seq }
  | 1 => .inl { q.alu with pc := dest }
  | 2 => .inl { q.alu with pc := if cond then dest else seq }
  | 3 => if q.depth < 8 then .inl { q.alu with pc := dest, stack := NMap.set 0 q.stack q.depth seq, depth := q.depth + 1 } else .inr 1
  | 4 => if q.depth = 0 then .inr 2
    else .inl { q.alu with pc := NMap.get 0 q.stack (q.depth - 1), depth := q.depth - 1 }
  | 5 => .inl (if cond then { q.alu with pc := dest } else q)
  | 6 => .inl { q.alu with pc := q.savedPc, depth := q.savedDepth, flags := q.savedFlags, inTrap := false }
  | _ => .inr 0
/-- SEQ_MICROWORD (R134): one microword, after the trap that waits; `ecc` is 1 for a corrected and 2 for an uncorrectable
error of the word fetched.  A trap that a microword itself raises saves its own address, so that a return runs it again (the model's
choice, log 122). -/
def seqMicroword (i : Fin 16) (ecc : Nat) (s : State) : State :=
  if s.up ∧ (s.slice i).seq.state = .running then
    let s1 := seqTake i s
    if ecc = 2 then seqTrap i 3 s1
    else
      let s2 := if ecc = 1 then s1.count i Reg.SEQ_COUNT 15 0 else s1
      let d := s2.draw
      let q := (d.2.slice i).seq
      match q.next (Config.microCond (bitsOf q.word 239 232) d.1) with
      | .inl q1 => d.2.modSeq i (fun _ => q1)
      | .inr c => seqTrap i c d.2
  else s

-- Microcode images (R133) ------------------------------------------------------------------------------------------

/-- Words of an image, and whether it may be loaded (Table 04.9, R133). -/
def imageWords (img : List Byte) : Nat := ofBytesLE (slice img 8 2)
def imageSigned (img : List Byte) : List Byte := img.take (64 + 32 * imageWords img)
def imageOk (key img : List Byte) : Bool :=
  let n := imageWords img
  decide (slice img 0 4 = [0x53, 0x51, 0x4D, 0x43]) && decide (17 ≤ n ∧ n ≤ 4096) && decide (img.length = 64 + 32 * n + 96) &&
  decide (slice img 10 2 = [0, 0]) && decide (slice img 12 4 = [0x4B, 0x6A, 0x00, 0x04]) && (slice img 16 48).all (· == 0) &&
  ecdsaVerify key (sha384 (imageSigned img)) (img.drop (64 + 32 * n))
def imageStore (img : List Byte) : NMap Nat :=
  (List.range (imageWords img)).foldl (fun m k => NMap.set fillMicroword m k (ofBytesLE (slice img (64 + 32 * k) 32))) []
def imageVersion (img : List Byte) : Word :=
  pack [(63, 32, ofBytesBE ((sha384 (imageSigned img)).take 4)), (31, 24, (byteAt img 4).toNat), (23, 16, (byteAt img 5).toNat),
    (15, 0, ofBytesLE (slice img 6 2))]
/-- The microcode key in the running boot image (Table 16.1). -/
def State.mcuKey (s : State) : List Byte := match s.scribe.fw with
  | some f => f.mcuKey
  | none => []
/-- An accepted image is written into a control store and the sequencer starts at word 16.  A load clears SEQ_TRAP, the traps that wait,
the micro-registers and the flags, of which the spec does not speak (the model's choice, log 122). -/
def seqLoad (i : Fin 16) (img : List Byte) (s : State) : State :=
  if imageOk s.mcuKey img then s.modSeq i (fun _ => { state := .running, store := imageStore img, pc := 16, version := imageVersion img })
  else s

-- Sequencer registers (Table 04.14) --------------------------------------------------------------------------------

def SeqState.code : SeqState → Nat
  | .empty => 0 | .running => 1 | .halted => 2
def Sequencer.status (q : Sequencer) : Word :=
  pack [(51, 40, q.pc), (35, 32, q.depth), (31, 16, q.pending), (3, 2, q.state.code), (1, 1, b2n q.inTrap)]
def Sequencer.trapWord (q : Sequencer) : Word :=
  pack [(47, 44, q.lastCause), (39, 28, q.savedPc), (27, 24, q.savedDepth), (23, 16, q.savedFlags)]

-- Windows (R125, R128, R160) ---------------------------------------------------------------------------------------

/-- A line leaves every instruction cache of the slice (R125). -/
def Slice.uncache (x : Slice) (line : Nat) : Slice :=
  { x with clusters := NMap.mapVal {} (fun c =>
      { c with icache := NMap.set [] c.icache (icacheSet line) ((NMap.get [] c.icache (icacheSet line)).erase line) }) x.clusters }
/-- PROGRAM_STORE_WRITE (R125). -/
def programWrite (i : Fin 16) (r : Requester) (bank n : Nat) (h : Half) (w : Word) (s : State) : State :=
  if s.sliceWriter i r && s.inStaging && decide (bank ≠ (s.slice i).fol.settled.bank) then
    s.modSlice i (fun x =>
      let v := mergeWrite (x.instr bank n) w h 0xFFFFFFFFFFFFFFFF
      ({ x with program := NMap.set 0 x.program (32768 * bank + n) v } : Slice).uncache (icacheLine bank n))
  else s.count i Reg.DSP_COUNT1 15 0
/-- SPAD_WINDOW_ACCESS (R128): a read, or a write of `data`, of word `n` of cluster `c`'s scratchpad. -/
def spadWindow (i : Fin 16) (r : Requester) (c n : Nat) (h : Half) (data : Option Word) (s : State) : State :=
  let old := word ((((s.slice i).cluster c).spadRead (8 * n) 8))
  let off := 0x300000 + 0x10000 * c + 8 * n
  match data with
  | none => s.reply r off (if s.sliceWriter i r then old else 0)
  | some w =>
    if s.sliceWriter i r then
      s.modCluster i c (fun y => y.spadWrite (8 * n) 8 (mergeWrite old w h 0xFFFFFFFFFFFFFFFF).toNat)
    else if s.globalWriter r then s.count i Reg.DSP_COUNT1 15 0
    else s
/-- PGM_TRAP_WRITE (R160): each half is judged by its bank.  A write of which both halves are discarded counts once in REFUSED (the
model's choice, log 122). -/
def pgmTrapWrite (i : Fin 16) (r : Requester) (h : Half) (w : Word) (s : State) : State :=
  if s.sliceWriter i r then
    let old := s.reg i Reg.PGM_TRAP
    let new := mergeWrite old w h 0x17FFF00017FFF
    let open_ (b : Nat) : Bool := s.inStaging && decide (b ≠ (s.slice i).fol.settled.bank)
    let refused := (!open_ 0 && decide (fld new 31 0 ≠ fld old 31 0)) || (!open_ 1 && decide (fld new 63 32 ≠ fld old 63 32))
    let v := pack [(31, 0, if open_ 0 then fld new 31 0 else fld old 31 0), (63, 32, if open_ 1 then fld new 63 32 else fld old 63 32)]
    let s1 := s.setReg i Reg.PGM_TRAP v
    if refused then s1.count i Reg.PGM_COUNT1 15 0 else s1
  else s

end Sys2Proof.Machine
end

