-- ==== Sys2Proof/Machine/Power.lean ====
section
/-!
DEFINITION. Slice power states: SLC_CMD, entering and leaving RETENTION ("Slices, Crossbar and a Packet's Life", R13 to R18).
-/
namespace Sys2Proof.Machine
open Sys2Proof

/-- Any port of the slice is enabled. -/
def Slice.anyPort (x : Slice) : Bool := x.lanes.any (fun l => l.2.enabled)
def putSlc (i : Fin 16) (c : CmdReg) (s : State) : State := s.modSlice i (fun x => { x with slcCmd := c })
/-- SLC_CMD written by a requester (R16 to R18); both commands run until their completion rows. -/
def slcCommand (i : Fin 16) (r : Requester) (w : Word) (s : State) : State :=
  runCommand (s.sliceWriter i r) (fun s => (s.slice i).slcCmd) (putSlc i) (refuseSlc i) (fun s =>
    let x := s.slice i
    match fld w 3 0 with
    | 1 => judge [(decide (x.pwr ≠ .active) || x.anyPort, .stateRefused)] s
        (fun s => (.busy, s.modSlice i (fun x => { x with pwr := .entering })))
    | 2 => judge [(decide (x.pwr ≠ .retention), .stateRefused)] s
        (fun s => (.busy, s.modSlice i (fun x => { x with pwr := .leaving })))
    | _ => (.badArg, s)) s

/-- The slice holds no packet and no copy (R17, first phase). -/
def Slice.holdsNone (x : Slice) : Bool :=
  x.packets.isEmpty && x.threads.isEmpty && x.eg.voq.isEmpty && x.eg.inbound.isEmpty &&
  x.eg.sch.queues.all (fun q => q.2.copies.isEmpty) &&
  x.eg.sch.ports.all (fun p => p.2.merge.isEmpty && p.2.eqx.isEmpty && p.2.tx.isNone && p.2.preempted.isNone)
/-- A cell of slice `x` waits or moves toward slice `e`. -/
def Slice.sendsTo (x : Slice) (e : Nat) : Bool :=
  x.eg.voq.any (fun v => decide (v.1 / 8 = e)) || x.packets.any (fun p => p.2.crossed.any (fun c => decide (c.1 = e)))
/-- RETENTION_ENTERED (R17): nothing is held or in flight; the waiting records are written and the open block closes (R323).
Once all are written and every close is complete DDR5 enters self-refresh (R361), and the command completes.  It never waits for a
channel that is not READY: records and closes that such a channel cannot take stay in their buffers (R362, log 121). -/
def retentionEntered (i : Fin 16) (s : State) : State :=
  let x := s.slice i
  if x.pwr = .entering ∧ x.holdsNone ∧ s.slices.toList.all (fun y => !y.sendsTo i.val) then
    let s1 := cpbRetention i s
    if (s1.cpb i).atRest || !(s1.slice i).farReady then
      putSlc i (CmdReg.take .ok) ((dramRetention i s1).modSlice i (fun x => { x with pwr := .retention }))
    else s1
  else s
/-- The general free lists as the slice leaves RETENTION, with every general cell free (R257, R263): nothing is charged. -/
def rebuildBuffers (i : Fin 16) (s : State) : State :=
  updatePauses i (s.modSlice i (fun x => { x with
    bpm := x.bpm.rebuildGeneral, lanes := NMap.mapVal {} (fun l => { l with charges := [] }) x.lanes }))
/-- EXIT_RETENTION_DONE (R18): every Folio switch whose time passed is taken in order, the general free lists are rebuilt (R257),
and the slice is ACTIVE. -/
def exitRetentionDone (i : Fin 16) (s : State) : State :=
  if (s.slice i).pwr = .leaving then
    let s1 := rebuildBuffers i (applyRecorded i (folioSwitch i s))
    putSlc i (CmdReg.take .ok) ((dramExitRetention i s1).modSlice i (fun x => { x with pwr := .active }))
  else s

/-- SLC_ID and SLC_STATUS as they read (Tables 01.4, 01.6). -/
def slcId (i : Fin 16) : Word := pack [(25, 16, 64 * i.val), (3, 0, i.val)]
def PwrState.code : PwrState → Nat
  | .active => 0 | .retention => 1 | .entering => 2 | .leaving => 3
def State.slcStatus (s : State) (i : Fin 16) : Word :=
  let x := s.slice i
  pack ([(31, 28, s.partition i), (27, 24, x.owner.val), (17, 16, x.pwr.code)] ++ x.slcCmd.fields)

end Sys2Proof.Machine
end

