-- ==== Sys2Proof/Machine/Host.lean ====
section
/-!
DEFINITION. The host port: ownership, window entries, TX rings, read tags, freeze and release of links, Function Level Reset
and link reset ("Host Port").
-/
namespace Sys2Proof.Machine
open Sys2Proof

-- Links, functions and ownership (R380, R381, R403) ----------------------------------------------------------------

/-- The number of links: HBIF 0 one, 1 two, 2 four, 3 read as 0 (R380). -/
def State.nLinks (s : State) : Nat :=
  match fld s.straps 1 0 with
  | 1 => 2
  | 2 => 4
  | _ => 1
/-- The link that HST_PF_MAP gives PF `p`, none when it is assigned to no link of the device. -/
def State.pfMap (s : State) (p : Nat) : Option Nat :=
  let m := fld (s.greg Reg.HST_PF_MAP) (4 * p + 3) (4 * p)
  if 8 ≤ m ∧ m % 4 < s.nLinks then some (m % 4) else none
/-- PFs on link `l`. -/
def State.pfsOf (s : State) (l : Nat) : List Nat := (List.range 16).filter (fun p => decide ((s.pfn p).link = some l))
/-- Slices owned by PF `p`. -/
def State.slicesOf (s : State) (p : Nat) : List (Fin 16) := (List.finRange 16).filter (fun i => decide ((s.slice i).owner.val = p))
/-- Slices whose rings use link `l`. -/
def State.slicesOn (s : State) (l : Nat) : List (Fin 16) := (s.pfsOf l).flatMap s.slicesOf
/-- The map of HST_PF_MAP applies to a link (R381), with the BAR2 sizes (Table 15.12): PFs that it takes from the link leave it, and PFs
that it gives to it join it, but one that another link still holds (R472). -/
def applyPfMap (l : Nat) (s : State) : State :=
  (List.range 16).foldl (fun a p =>
    let cur := (a.pfn p).link
    let n := fld (a.greg Reg.HST_BAR2_SIZE) (4 * p + 3) (4 * p)
    if a.pfMap p = some l ∧ (cur = none ∨ cur = some l) then a.modPf p (fun x => { x with link := some l, bar2Size := if n ≤ 11 then n else 0 })
    else if cur = some l then a.modPf p (fun x => { x with link := none })
    else a) s

-- Freeze and release (R400 to R402) --------------------------------------------------------------------------------

/-- Every ring of a slice changed. -/
def eachRing (i : Fin 16) (f : Nat → State → State) (s : State) : State := (s.slice i).rings.foldl (fun a r => f r.1 a) s
/-- EN of a ring cleared. -/
def clearEn (i : Fin 16) (r : Nat) (s : State) : State :=
  s.setReg i (rng Reg.RNG_CFG r) (setFld (s.ringCfg i r) 63 63 0)
/-- A ring stopped as a write that clears EN stops it (R390, R405). -/
def stopRing (i : Fin 16) (r : Nat) (s : State) : State := haltRing i r .stopped (clearEn i r s)
/-- The AER Uncorrectable Error Status bit of a freeze cause (PCI Express; log 17). -/
def aerBit (cause : Nat) : Nat :=
  match cause with
  | 1 => 2 ^ 5 | 2 => 2 ^ 4 | 3 => 2 ^ 13 | 4 => 2 ^ 17 | 5 => 2 ^ 18 | 6 => 2 ^ 12 | 7 => 2 ^ 14 | 8 => 2 ^ 16 | 9 => 2 ^ 19
  | _ => 2 ^ 22
/-- A link freezes (R400): the first cause stands, RUNNING rings of its PFs freeze, HST_LINK_FROZEN is raised. -/
def freezeLink (l pf cause : Nat) (s : State) : State :=
  let c := if 1 ≤ cause ∧ cause ≤ 9 then cause else 0xF
  let s1 := s.modPf pf (fun p => { p with aer := p.aer ||| aerBit c })
  if (s1.link l).frozen ∨ 4 ≤ l then s1
  else
    let s2 := s1.modLink l (fun k => { k with frozen := true, cause := c })
    let s3 := (s2.slicesOn l).foldl (fun a i =>
      eachRing i (fun r b => if (b.ring i r).state = .running ∧ b.ringPf i r ≠ 16 then haltRing i r .frozen b else b) a) s2
    setCond 16 (0xC00 + l) true c s3
/-- LINK_FREEZE (R400): an AER bit of a PF of the link is set, or, with cause 1, the link leaves DL_Active with a PF in D0, which is a
link-down (R381). -/
def linkFreeze (l pf cause : Nat) (s : State) : State :=
  if (s.pfn pf).link = some l then
    if cause = 1 then
      if (s.link l).dlActive ∧ (s.pfsOf l).any (fun p => !(s.pfn p).d3) then
        applyPfMap l (freezeLink l pf 1 (s.modLink l (fun k => { k with dlActive := false, width := 0, speed := 0, flit := false })))
      else s
    else freezeLink l pf cause s
  else s
/-- The freeze of a link ends: its FROZEN rings become STOPPED with EN cleared (R402). -/
def endFreeze (l : Nat) (s : State) : State :=
  if (s.link l).frozen then
    let s1 := s.modLink l (fun k => { k with frozen := false, cause := 0 })
    let s2 := (s1.slicesOn l).foldl (fun a i =>
      eachRing i (fun r b => if (b.ring i r).state = .frozen then stopRing i r b else b) a) s1
    setCond 16 (0xC00 + l) false 0 s2
  else s
/-- The outstanding reads of a PF are late from now on: their tags are quarantined (R405, R399). -/
def latePf (pf : Nat) (s : State) : State :=
  { s with host := { s.host with tags := NMap.mapVal none (fun g => g.map (fun x =>
    if x.pf = pf ∧ x.quar.isNone then { x with quar := some s.uptime } else x)) s.host.tags } }
/-- FUNCTION_LEVEL_RESET (R405): the rings of the PF's slices stop, its outstanding reads are late, its MSI-X state and its Command
register clear. -/
def flr (pf : Nat) (s : State) : State :=
  let s1 := latePf pf ((s.slicesOf pf).foldl (fun a i => eachRing i (stopRing i) a) s)
  s1.modPf pf (fun p => { p with vecs := [], msixOn := false, msixMask := false, mse := false, bme := false, bar0 := 0, bar2 := 0,
                                 bar4 := 0, d3 := false, status := 0, cfg := [] })
/-- LINK_RESET (R472): FLR of every PF, HST_PF_MAP applied, the freeze ended; the link trains again. -/
def linkReset (l : Nat) (s : State) : State :=
  if l < s.nLinks then
    let s1 := endFreeze l ((s.pfsOf l).foldl (fun a p => flr p a) s)
    applyPfMap l (s1.modLink l (fun k => { k with dlActive := false, width := 0, speed := 0, flit := false }))
  else s
/-- A link state of Table 15.1: a width that the bifurcation allows, a supported rate, FLIT mode at 64 GT/s. -/
def State.linkOk (s : State) (width speed : Nat) (flit : Bool) : Bool :=
  decide (width ∈ [1, 2, 4, 8, 16]) && decide (width ≤ 16 / s.nLinks) && decide (1 ≤ speed) && decide (speed ≤ 6) &&
  (flit || decide (speed ≠ 6))
/-- PCIE_LINK_UP (R402): the link finishes training as Table 15.1 allows; a link without a PF, or while the core is OFF, stays
idle. -/
def pcieUp (l width speed : Nat) (flit : Bool) (s : State) : State :=
  if l < s.nLinks ∧ s.core ≠ .off ∧ (s.pfsOf l) ≠ [] ∧ s.linkOk width speed flit then
    s.modLink l (fun k => { k with dlActive := true, width := width, speed := speed, flit := flit })
  else s
/-- PCIE_LINK_DOWN (R381): the link leaves DL_Active with no PF in D0; HST_PF_MAP is applied. -/
def pcieDown (l : Nat) (s : State) : State :=
  if (s.link l).dlActive ∧ (s.pfsOf l).all (fun p => (s.pfn p).d3) then
    applyPfMap l (s.modLink l (fun k => { k with dlActive := false, width := 0, speed := 0, flit := false }))
  else s

-- Commands (R387, R402, R403) --------------------------------------------------------------------------------------

/-- The reset entry 0 of every PF maps BAR0 onto the register space (R385). -/
def windowReset (k : Nat) : Window := if k % 64 = 0 then { valid := true, writeEn := true, log2 := 27 } else {}
def State.window (s : State) (pf e : Nat) : Window := NMap.get (windowReset (64 * pf + e)) s.host.windows (64 * pf + e)
def State.setWindow (s : State) (pf e : Nat) (w : Window) : State :=
  { s with host := { s.host with windows := NMap.set (windowReset (64 * pf + e)) s.host.windows (64 * pf + e) w } }
def Window.ofData (d0 d1 : Word) : Window :=
  { valid := bitAt d0 63, writeEn := bitAt d0 62, kind := fld d0 61 60, slice := fld d0 59 56, log2 := fld d0 53 48,
    bar := fld d0 40 40, off := fld d0 35 0, target := fld d1 39 0 }
def Window.data0 (w : Window) : Word :=
  pack [(63, 63, b2n w.valid), (62, 62, b2n w.writeEn), (61, 60, w.kind), (59, 56, w.slice), (53, 48, w.log2), (40, 40, w.bar),
    (35, 0, w.off)]
def Window.data1 (w : Window) : Word := pack [(39, 0, w.target)]
/-- HST_WIN_DATA0 and 1 hold what was written; their reserved bits read 0 (R5). -/
def winMask0 : Word := 0xFF3F010FFFFFFFFF
def winMask1 : Word := 0xFFFFFFFFFF
/-- Bytes of the register space. -/
def regSpace : Nat := 0x8000000
/-- WIN_WRITE returns BAD_ARG (R387). -/
def badWindow (pf e : Nat) (d0 d1 : Word) (s : State) : Bool :=
  let w := Window.ofData d0 d1
  let size := 2 ^ w.log2
  let top := if w.bar = 0 then 27 else 25 + (s.pfn pf).bar2Size
  decide (d0 &&& ~~~ winMask0 ≠ 0) || decide (d1 &&& ~~~ winMask1 ≠ 0) || decide (1 < w.kind) ||
  decide (w.log2 < 16) || decide (top < w.log2) || (decide (w.bar = 1) && decide ((s.pfn pf).bar2Size = 0)) ||
  decide (w.off % size ≠ 0) || decide (w.target % size ≠ 0) ||
  (List.range 64).any (fun k =>
    let o := s.window pf k
    decide (k ≠ e) && o.valid && decide (o.bar = w.bar) && decide (o.off < w.off + size) && decide (w.off < o.off + 2 ^ o.log2)) ||
  decide ((if w.kind = 0 then regSpace else regionBytes (s.slice (sl w.slice)).dram.scr) < w.target + size)
def winWrite (pf e : Nat) (s : State) : CmdStatus × State :=
  let d0 := s.greg Reg.HST_WIN_DATA0
  let d1 := s.greg Reg.HST_WIN_DATA1
  judge [(badWindow pf e d0 d1 s, .badArg), (!s.host.flushed, .stateRefused)] s (fun s =>
    let s1 := s.setWindow pf e (Window.ofData d0 d1)
    (.ok, { s1 with host := { s1.host with flushed := false } }))
def winRead (pf e : Nat) (s : State) : CmdStatus × State :=
  (.ok, (s.setGreg Reg.HST_WIN_DATA0 (s.window pf e).data0).setGreg Reg.HST_WIN_DATA1 (s.window pf e).data1)
/-- WIN_FLUSH_DONE (R387). -/
def winFlushDone (s : State) : State := { s with host := { s.host with flushed := true } }
/-- SET_OWNER (R403). -/
def setOwner (pf : Nat) (i : Fin 16) (s : State) : CmdStatus × State :=
  judge [((s.pfMap pf).isNone, .badArg),
    (decide ((s.slice i).pwr ≠ .retention) || (s.slice i).rings.any (fun r => decide (r.2.state ≠ .stopped)), .stateRefused)] s
    (fun s => (.ok, s.modSlice i (fun x => { x with owner := Fin.ofNat 16 pf })))
/-- RELEASE (R402). -/
def releaseLink (l : Nat) (s : State) : CmdStatus × State :=
  judge [(!((s.link l).frozen && (s.link l).dlActive), .stateRefused)] s (fun s => (.ok, endFreeze l s))
/-- Who may issue RELEASE of link `l`: the Scribe, or the device-owner PF on another link that is not frozen. -/
def State.mayRelease (s : State) (r : Requester) (l : Nat) : Bool :=
  match r with
  | .scribe => true
  | .pf n => decide (n.val = s.deviceOwner) && (match (s.pfn n.val).link with
    | some k => decide (k ≠ l) && !(s.link k).frozen
    | none => false)
def putHst (c : CmdReg) (s : State) : State := { s with host := { s.host with cmd := c } }
def refuseHst (s : State) : State := s.gcount Reg.HST_COUNT1 15 0
/-- HST_CMD written by a requester. -/
def hstCommand (r : Requester) (w : Word) (s : State) : State :=
  let l := fld w 17 16
  let perm := if fld w 3 0 = 4 then s.mayRelease r l else s.globalWriter r
  runCommand perm (fun s => s.host.cmd) putHst refuseHst (fun s =>
    match fld w 3 0 with
    | 1 => winWrite (fld w 35 32) (fld w 29 24) s
    | 2 => winRead (fld w 35 32) (fld w 29 24) s
    | 3 => setOwner (fld w 35 32) (sl (fld w 19 16)) s
    | 4 => releaseLink l s
    | _ => (.badArg, s)) s

-- Read tags (R397 to R399, R407) -----------------------------------------------------------------------------------

/-- Rings that wait for a tag ask again. -/
def kickWaiting (s : State) : State :=
  (List.finRange 16).foldl (fun a i =>
    eachRing i (fun r b => if (b.ring i r).wantsFrom.isSome then kickRing i r b else b) a) s
/-- A tag becomes free. -/
def freeTag (t : Nat) (s : State) : State := kickWaiting (s.setTag t none)
/-- A posted descriptor is malformed for its ring (Table 15.8, 0x6). -/
def badDesc (tx : Bool) (d : List Byte) : Bool :=
  if tx then (slice d 24 6).any (· ≠ 0) else (slice d 12 20).any (· ≠ 0) || decide (descLen d < 64)
/-- LEN of a TX descriptor (Table 15.7). -/
def txLen (d : List Byte) : Nat := ofBytesLE (slice d 8 2)
/-- The payload of a read's data that arrives: none unless the completion succeeds. -/
def readBytes (i : Fin 16) (r status : Nat) (data : List Byte) (s : State) : State :=
  if status = 0 then dmaBytes i r data.length s else s
/-- The data of a read reaches its ring (Table 15.8): `status` 0 success, 1 UR, 2 CA, 3 poisoned. -/
def ringData (i : Fin 16) (r status : Nat) (frame : Bool) (data : List Byte) (s : State) : State :=
  if status ≠ 0 then ringError i r (if frame then 4 else 2) s
  else if frame then
    let s1 := s.modRing i r (fun x => { x with read := none, part := x.part ++ padTo x.want data })
    match (s.ring i r).desc with
    | some d =>
      if (s1.ring i r).part.length < txLen d then fetchFrame i r (descAddrOf d) (txLen d) s1
      else s1.modRing i r (fun x => { x with frame := some x.part })
    | none => s1
  else if badDesc (s.ringIsTx i r) data then ringError i r 6 s
  else s.modRing i r (fun x => { x with read := none, desc := some data })
/-- Status bits of a completion received (PCI Express, log 17): Received Master Abort, Received Target Abort, Detected Parity Error. -/
def noteCompletion (pf status : Nat) (s : State) : State :=
  let bit := if status = 1 then 2 ^ 29 else if status = 2 then 2 ^ 28 else if status = 3 then 2 ^ 31 else 0
  s.modPf pf (fun p => { p with status := p.status ||| bit })
/-- COMPLETION_RECEIVED (R398, R399): the completion that ends the request of tag `t` arrives on link `l`.  The data of a read whose ring
has stopped since goes nowhere (R390). -/
def completionReceived (l t status : Nat) (data : List Byte) (s : State) : State :=
  let pf := ((s.pfsOf l).head?).getD 0
  match s.tag t with
  | none => freezeLink l pf 8 s
  | some g =>
    if g.link ≠ l then freezeLink l pf 8 s
    else
      let i := sl g.slice
      let s1 := if g.quar.isSome then s.gcount Reg.HST_COUNT1 63 48
        else if (s.ring i g.ring).read ≠ some t then readBytes i g.ring status data (noteCompletion g.pf status s)
        else ringData i g.ring status g.frame data (readBytes i g.ring status data (noteCompletion g.pf status s))
      let s2 := if status = 3 ∧ g.quar.isNone then freezeLink l g.pf 6 s1 else s1
      freeTag t s2
/-- COMPLETION_TIMEOUT (R398): CTO_US have passed; the ring takes the error, the tag is quarantined, the link freezes. -/
def completionTimeout (t : Nat) (s : State) : State :=
  match s.tag t with
  | none => s
  | some g =>
    if g.quar.isSome ∨ g.link = 4 ∨ s.uptime < g.issued + s.cto g.link then s
    else
      let i := sl g.slice
      let s1 := s.setTag t (some { g with quar := some s.uptime })
      let s2 := if (s.ring i g.ring).read = some t then ringError i g.ring (if g.frame then 3 else 1) s1 else s1
      freezeLink g.link g.pf 7 s2
/-- QUARANTINE_EXPIRY (R398): 2 × CTO_US after the timeout the tag is free. -/
def quarantineExpiry (t : Nat) (s : State) : State :=
  match s.tag t with
  | none => s
  | some g => match g.quar with
    | none => s
    | some q => if s.uptime < q + 2 * s.cto g.link then s else freeTag t (s.gcount Reg.HST_COUNT1 47 32)
/-- TAGS_EXHAUSTED (R407): a ring has waited 1 ms for a tag. -/
def tagsExhausted (i : Fin 16) (r : Nat) (s : State) : State :=
  match (s.ring i r).wantsFrom with
  | none => s
  | some t => if s.uptime < t + cyclesMs then s else raiseEvent 16 0xC04 (((s.pfn (s.ringPf i r)).link).getD 0) false s
/-- HST_TAGS, HST_STATUS and HST_LINK_STATUS as they read (Table 15.12). -/
def State.hstTags (s : State) : Word :=
  pack [(46, 32, s.tagsHeld (fun g => g.quar.isSome)), (14, 0, s.tagsHeld (fun _ => true))]
def State.hstStatus (s : State) : Word := pack ((8, 8, b2n s.host.flushed) :: s.host.cmd.fields)
def Link.word (k : Link) : Word :=
  pack [(31, 28, k.cause), (24, 24, b2n k.frozen), (23, 23, b2n k.dlActive), (21, 16, k.width), (11, 8, k.speed), (0, 0, b2n k.flit)]

-- TX rings (R394, R395) --------------------------------------------------------------------------------------------

/-- MODE, CLASS, TARGET, INPORT and META of a TX descriptor (Table 15.7). -/
def txMode (d : List Byte) : Nat := (byteAt d 10).toNat
def txClass (d : List Byte) : Nat := (byteAt d 11).toNat % 8
def txTarget (d : List Byte) : Nat := ofBytesLE (slice d 12 2)
def txInport (d : List Byte) : Nat := ofBytesLE (slice d 14 2)
def txMeta (d : List Byte) : Word := word (ofBytesLE (slice d 16 8))
/-- A malformed MODE, LEN, TARGET or INPORT completes the descriptor with BAD_ARG (R396). -/
def badTx (i : Fin 16) (d : List Byte) (s : State) : Bool :=
  decide (1 < txMode d) || decide (txLen d < 60) || decide (9724 < txLen d) ||
  (if txMode d = 0 then decide (1023 < txTarget d) || decide (txInport d ≠ 0)
   else decide (32767 < txTarget d) || decide (txInport d / 64 ≠ i.val) || !(s.slice i).namesPort (txInport d % 64))
/-- A PORT frame (R395): one copy to the default queue of CLASS on the port, with no thread, edit or record. -/
def txPort (i : Fin 16) (d frame : List Byte) (s : State) : State :=
  let n := s.nextId
  let s1 := ({ s with nextId := n + 1 } : State).setFrame n { bytes := frame ++ bytesLE 4 (crc32 frame), done := true }
  let c : Copy := { target := .port (txTarget d), xcls := min 6 (txClass d), cls := txClass d, colour := 0, edits := [], cut := false,
                    dead := 0, slices := [txTarget d / 64] }
  let x : Cross := { pkt := none, frame := n, copy := c, epoch := (s.slice i).fol.active, capture := stampOf (s.sliceT i) 0x3FFF,
                     port := 64 * i.val, speed := 0, len := frame.length, evidential := false, info := 0, seqnum := 0, alarm := false }
  let e := sl (txTarget d / 64)
  if e = i then
    match takeCells i false (ceilDiv (frame.length + 4) 128) [] s1 with
    | (none, s2) => updatePauses i (refusedCell i s2)
    | (some cells, s2) =>
      let key := s2.nextId
      updatePauses i (startPorts i (makeCopies i x i.val true key (linkChain i cells
        (({ s2 with nextId := key + 1 } : State).setInbound i key { frame := n, cells := cells, refs := 1 }))))
  else handCopy i x s1
/-- A PROGRAM frame (R395): it enters the parser behind the frames of INPORT and starts at TARGET; no wire event captured it. -/
def txProgram (i : Fin 16) (d frame : List Byte) (s : State) : State :=
  let n := s.nextId
  let k := txInport d % 64
  let t := s.sliceT i
  let p : Packet := { frame := n, lane := k, speed := (s.lane i k).speed, capture := stampOf t 0x3FFF, epoch := s.captureEpoch i t,
                      parCfg := s.reg i Reg.PAR_CFG, alarm := (s.slice i).tbu.alarm, prio := framePrio frame, info := txMeta d, entryPc := some (txTarget d) }
  let f : Frame := { bytes := frame ++ bytesLE 4 (crc32 frame), done := true }
  let s1 := ((({ s with nextId := n + 1 } : State).setFrame n f).setPacket i n p).modLane i k (fun l => { l with unparsed := l.unparsed ++ [n] })
  (List.range (ceilDiv (frame.length + 4) 128)).foldl (fun a _ => takeIngressCell i n a) s1
/-- A TX descriptor completed with a status (R394). -/
def completeTx (i : Fin 16) (r : Nat) (st : CmdStatus) (s : State) : State :=
  let x := s.ring i r
  let comp := [byte st.code, byte (128 * b2n x.phase + 64 * b2n (decide (st ≠ .ok)))]
  advanceHead i r (dmaBytes i r comp.length (s.emit (.dma (s.ringPf i r) ((s.descAddr i r + 30) % 2 ^ 64) comp)))
/-- TX_DESCRIPTOR_PROCESS (R394): the descriptor at HEAD is judged, its frame is fetched into a pool buffer, or it is injected. -/
def txProcess (i : Fin 16) (r : Nat) (s : State) : State :=
  let x := s.ring i r
  match x.desc with
  | none => s
  | some d =>
    if x.state ≠ .running ∨ !s.ringIsTx i r ∨ x.read.isSome ∨ !s.pfUsable (s.ringPf i r) then s
    else if badTx i d s then completeTx i r .badArg s
    else match x.frame with
      | some f =>
        let s1 := if txMode d = 0 then txPort i d (padTo (txLen d) f) s else txProgram i d (padTo (txLen d) f) s
        completeTx i r .ok (freeStaging i r x.buf s1)
      | none =>
        match x.buf with
        | some _ => fetchFrame i r (descAddrOf d) (txLen d) s
        | none => match allocPool i (txLen d) (0x100 + r) s with
          | (some b, s1) => fetchFrame i r (descAddrOf d) (txLen d) (s1.modRing i r (fun x => { x with buf := some b }))
          | (none, s1) => s1

end Sys2Proof.Machine
end

