-- ==== Sys2Proof/Machine/FaultUnits.lean ====
section
/-!
DEFINITION. Fault units, second part: what the fences and their lifts do (R442, R443), what an error does where it is found,
FLT_SRC, the history registers, deferred interrupts ("Fault Collection, Fencing and Recovery").
-/
namespace Sys2Proof.Machine
open Sys2Proof

-- Fences (R442, R443) ----------------------------------------------------------------------------------------------

/-- The fragment table is fenced (R108): every entry goes, every waiting fragment takes the miss action. -/
def fragFence (i : Fin 16) (s : State) : State := (frgFlush i s).2
/-- A unit leaves service (Table 17.4): its pending operations complete with FENCED (R168).  The learn engine needs no more than
its bit. -/
def fenceUnit (i : Fin 16) (f : FenceUnit) (s : State) : State :=
  match f with
  | .port k => match (s.slice i).portOf k with
    | some p => portDown i p 0x86 s
    | none => s
  | .cluster c => redispatch i c s
  | .frag => fragFence i s
  | .ddr5 => fenceOps i [2, 9] (tblFence i (dramFence i s))
  | .nearBank _ => if (s.slice i).nearFenced then fenceOps i [1] s else s
  | .session => fenceOps i [3] s
  | .rules => fenceOps i [4] s
  | .xbr => xbrFence i s
  | .meters => fenceOps i [5] s
  | .seqCtrs => fenceOps i [6] s
  | .learn => s
  | .digest _ => if (s.slice i).digestFenced then fenceOps i [7] s else s
/-- A packet of the slice without a thread is discarded with 0x8D: queued ones are dropped, committed copies each. -/
def discardPacket (i : Fin 16) (n : Nat) (s : State) : State :=
  match s.packet i n with
  | none => s
  | some p =>
    match p.committed with
    | some [] =>
      leaveIngress i n (p.held.foldl (fun a _ => a.countDrop i 0x8D) (s.setPacket i n { p with held := [] }))
    | none => if p.parsed then dropPacket i n 0x8D s else forgetPacket i p.lane n (s.countDrop i 0x8D)
    | some cs =>
      retirePacket i n (cs.foldl (fun a _ => a.countDrop i 0x8D) s)
/-- A slice fence (R443): ports down, threads stopped, every packet held and every queued copy discarded with 0x8D. -/
def sliceFence (i : Fin 16) (s : State) : State :=
  let s1 := (List.range 64).foldl (fun a k => if (a.lane i k).enabled then portDown i k 0x8D a else a) s
  let s2 := (s1.slice i).threads.foldl (fun a t => endDrop i t.1 0x8D a) s1
  let s3 := s2.modSlice i (fun x =>
    { x with clusters := NMap.mapVal {} (fun c => { c with queue := [] }) x.clusters,
             orphans := x.orphans.filter (fun o => [2, 9].contains o.op.unit),
             frg := { x.frg with entries := [], waiting := [] } })
  let s4 := (s3.slice i).packets.foldl (fun a p => discardPacket i p.1 a) s3
  dropQueued i 0x8D (fun _ => true) (xbrFence i s4)

/-- A unit returns to service when its last fence is lifted (R439, Table 17.4). -/
def liftUnit (i : Fin 16) (f : FenceUnit) (s : State) : State :=
  match f with
  | .frag => if s.unitFenced i .frag then s else s.modFrg i (fun t => { t with entries := [] })
  | .ddr5 => if s.unitFenced i .ddr5 then s else dramLift i s
  | .digest _ => if (s.slice i).digestFenced then s else flushReady i s
  | _ => s
/-- A reaction that is not RECORD takes effect, or is lifted, on slice `i`. -/
def applyReaction (i : Fin 16) (id : Nat) (lift : Bool) (s : State) : State :=
  if (s.src i.val id).reaction = 2 then
    if lift then liftUnit i .frag s else sliceFence i s
  else match fenceTarget id with
    | some f => if lift then liftUnit i f s else fenceUnit i f s
    | none => s

-- Errors where they are found (R251, R286, Table 17.1) -------------------------------------------------------------

/-- BPM_META_ECC on the cell of a pointer (R251): a copy in transmission, or begun and preempted, ends with an invalid FCS, one
not started is dropped with 0x87. -/
def quarantineCell (i : Fin 16) (ptr : Nat) (s : State) : State :=
  let n := ptr % 2 ^ 24 / 128
  let hit := fun (x : Tx) => (x.copy.cellList s i).contains n
  let s1 := s.modSlice i (fun x => { x with bpm := x.bpm.quarantine n })
  let s2 := dropQueued i 0x87 (fun c => (c.cellList s i).contains n) s1
  let s3 := (List.range 64).foldl (fun a k =>
    let p := (a.sch i).port k
    let ends := p.tx.toList.filter hit ++ p.preempted.toList.filter hit
    ends.foldl (fun b x => abortTx i k x false b)
      (a.modSch i (fun d => d.modPort k (fun p => { p with tx := p.tx.filter (fun x => !hit x), preempted := p.preempted.filter (fun x => !hit x) })))) s2
  updatePauses i s3
/-- SCH_CFG_ECC (R286): an entry of any bank, or of either list, acts as not VALID until it is rewritten and switched in.  The
syndrome names the object and its index only: the bank, the list and the entry of the list are free (log 97). -/
def schEcc (i : Fin 16) (syn : Nat) (s : State) : State :=
  let obj := bitsOf syn 27 24
  let n := bitsOf syn 15 0
  let d := s.draw
  let key := if obj < 4 then schKey (d.1 % 3) obj n
    else if obj = 4 then gateBadKey n (d.1 % 2) else gateEntryBadKey n (d.1 % 2) (d.1 / 2 % 256)
  if n < schCount obj then purgeInvalid i (d.2.modSch i (fun c => { c with bad := NMap.set false c.bad key true })) else s
/-- A capture fault of lane `k` (Table 17.1): its captures, and those of the port that delivers by it, are unbounded (R83). -/
def captureFault (i : Fin 16) (k : Nat) (s : State) : State :=
  let t := s.uptime + cyclesUs
  (s.modLane i k (fun l => { l with faultUntil := t })).modLane i (((s.slice i).portOf k).getD k) (fun l => { l with faultUntil := t })
/-- What an error of source `id` does where it is found, beside its event. -/
def errorFound (i : Fin 16) (id syn : Nat) (s : State) : State :=
  if 0x100 ≤ id ∧ id ≤ 0x13F then captureFault i (id - 0x100) s
  else if id = 0x503 then updatePauses i (listBroken i syn s)
  else if id = 0x504 then quarantineCell i syn s
  else if id = 0x600 then schEcc i syn s
  else if id = 0x803 then s.modSlice i (fun x => x.count Reg.DRM_COUNT0 31 16 4)
  else s
/-- FAULT_RAISE of an event source: the syndrome is that of Table 17.1.  The rises of condition sources come with the
changes of their conditions (log 30). -/
def faultRaise (u id syn : Nat) (s : State) : State :=
  if !unitHas u id || conditionSource id || !s.up then s
  else if 16 ≤ u then raiseEvent 16 id syn false s
  else
    let i := sl u
    if id = 0x300 ∧ (((s.slice i).tier (bitsOf syn 31 31 == 1)).at (bitsOf syn 20 0)).isSome then
      entryEcc i (bitsOf syn 31 31 == 1) (bitsOf syn 20 0) true s
    else if id = 0x301 then recordEcc i (s.bankA i) (syn % 131072) true s
    else if id = 0x400 then rmxEcc i 0 (syn % 32768) true s
    else if 0x100 ≤ id ∧ id ≤ 0x13F ∧ (s.slice i).portOf (id - 0x100) = none then s
    else raiseEvent u id syn false (errorFound i id syn s)
/-- FAULT_AUTO_LIFT (R444). -/
def faultAutoLift (u id : Nat) (s : State) : State :=
  let x := s.src u id
  match x.quietFrom with
  | some t =>
    if x.active && x.auto && !x.live id s.uptime && !fatalSource id && decide (max t x.liveUntil + x.quietCycles ≤ s.uptime) then
      liftSource u id 2 s
    else s
  | none => s
/-- FAULT_INTERRUPT_DEFERRED (R451): the 10 µs interval has ended. -/
def faultIntDeferred (u : Nat) (s : State) : State :=
  let f := s.fu u
  if f.intWaits && decide ((f.lastInt.map (· + 10 * cyclesUs)).getD 0 ≤ s.uptime) then
    faultInterrupt u (s.modFu u (fun f => { f with intWaits := false, lastInt := none }))
  else s

-- FLT_SRC (R438, R444 to R446, R452) -------------------------------------------------------------------------------

/-- The requester may write the unit's registers (R452). -/
def State.fltWriter (s : State) (u : Nat) (r : Requester) : Bool := if u < 16 then s.sliceWriter (sl u) r else s.globalWriter r
def fltRefused (u : Nat) (s : State) : State :=
  if u < 16 then s.count (sl u) Reg.FLT_REFUSED 15 0 else s.gcount Reg.DFLT_REFUSED 15 0
/-- A write sets a REACTION that the source does not allow, or changes it while ACTIVE (R438). -/
def badReaction (id : Nat) (x : FaultSrc) (w : Word) : Bool :=
  let n := fld w 57 56
  !fatalSource id && decide (n ≠ x.reaction) && (x.active || decide (allowedReactions id / 2 ^ n % 2 = 0))
/-- SEEN, REACTION and AUTO of an upper-half write; AUTO starts or ends the quiet period (R444, R446). -/
def FaultSrc.configured (x : FaultSrc) (id t : Nat) (w : Word) : FaultSrc :=
  let auto := bitAt w 55
  let liveNow := x.live id t
  { x with seen := (x.seen && !bitAt w 62) || decide (x.lastRise = some (t / 4)), auto := auto,
           reaction := if fatalSource id then 3 else fld w 57 56,
           quietFrom := if !auto then none
                        else if !x.auto && x.active then
                          (if !liveNow then some t else if conditionSource id then none else some x.liveUntil)
                        else x.quietFrom }
/-- FORCE takes a value (R436, R437). -/
def setForce (u id : Nat) (v : Bool) (s : State) : State :=
  let x := s.src u id
  let s1 := s.setSrc u id { x with force := v }
  if conditionSource id then
    let after := x.cond || v
    if !(x.cond || x.force) && after then rise u id 0 true s1
    else if (x.cond || x.force) && !after && x.auto && x.active then
      s1.setSrc u id { x with force := v, quietFrom := some s.uptime }
    else s1
  else if v && !x.force then raiseEvent u id 0 true s1
  else s1
/-- CLEAR = 1, judged against LIVE as the write leaves it (R445). -/
def clearSource (u id : Nat) (s : State) : State :=
  let x := s.src u id
  if x.active then
    if x.live id s.uptime then fltRefused u s else if fatalSource id then s else liftSource u id 3 s
  else s
/-- The upper half of a FLT_SRC write. -/
def fltSrcUpper (u id : Nat) (w : Word) (s : State) : State :=
  let s1 := s.setSrc u id ((s.src u id).configured id s.uptime w)
  let s2 := setForce u id (bitAt w 59) s1
  if bitAt w 60 then clearSource u id s2 else s2
/-- FLT_SRC_WRITE (R452).  A write of both halves takes QUIET from its bits; one of the lower half alone changes only QUIET,
to a value the spec does not place there: a free value (log 31). -/
def fltSrcWrite (r : Requester) (u id : Nat) (h : Half) (w : Word) (s : State) : State :=
  if s.fltWriter u r && unitHas u id then
    let x := s.src u id
    match h with
    | .low =>
      let d := s.draw
      d.2.setSrc u id { x with quiet := d.1 % 2 ^ 20 }
    | .high => if badReaction id x w then fltRefused u s else fltSrcUpper u id w s
    | .both =>
      if badReaction id x w then fltRefused u s
      else fltSrcUpper u id w (s.setSrc u id { x with quiet := fld w 51 32 })
  else s

-- Register images (Tables 17.7, 17.8) ------------------------------------------------------------------------------

/-- FLT_SRC of a source of the unit, 0 for an id that it does not hold. -/
def State.fltSrcWord (s : State) (u id : Nat) : Word :=
  if unitHas u id then
    let x := s.src u id
    pack [(63, 63, b2n (x.live id s.uptime)), (62, 62, b2n x.seen), (61, 61, b2n x.active), (59, 59, b2n x.force),
      (58, 58, b2n (fatalSource id)), (57, 56, x.reaction), (55, 55, b2n x.auto), (54, 52, allowedReactions id),
      (51, 32, x.quiet), (31, 16, x.recover), (15, 0, x.raised)]
  else 0
/-- FLT_STATUS. -/
def State.fltStatus (s : State) (u : Nat) : Word :=
  let l := (s.fu u).srcs
  pack [(40, 40, b2n (decide (u < 16) && (s.slice (sl u)).fenced)),
    (24, 16, NMap.countIf (fun id x => x.live id s.uptime) l), (8, 0, NMap.countIf (fun _ x => x.active) l)]
/-- FLT_FENCED of a slice: its SLICE bit, and unit fences alone (R439). -/
def Slice.fltFenced (x : Slice) : Word :=
  let one := fun (f : FenceUnit) => b2n (x.unitFencedAlone f)
  let digests := b2n ((List.range 16).all (fun u => x.unitFencedAlone (.digest u)))
  pack ([(41, 41, b2n x.fenced), (40, 40, one .xbr), (39, 39, one .ddr5), (38, 38, digests), (37, 37, one .learn),
      (36, 36, one .frag), (35, 35, one .seqCtrs), (34, 34, one .meters), (33, 33, one .rules), (32, 32, one .session)] ++
    (List.range 16).map (fun b => (16 + b, 16 + b, one (.nearBank b))) ++ (List.range 16).map (fun c => (c, c, one (.cluster c))))
/-- FLT_PORT_FENCED: the port that holds lane `k` is fenced. -/
def Slice.fltPortFenced (x : Slice) : Word :=
  let lanes := (List.range 64).filter (fun k => x.unitFencedAlone (.port k))
  let whole := fun (k : Nat) => lanes.any (fun j =>
    decide (j = k) || (decide ((x.lane k).base ≠ none) && decide ((x.lane j).base = (x.lane k).base)))
  word (sumNat ((List.range 64).map (fun k => if whole k then 2 ^ k else 0)))
/-- FLT_HIST_STATUS. -/
def FaultUnit.histStatus (f : FaultUnit) : Word := pack [(63, 32, f.written), (15, 0, f.suppressed)]
/-- The 24 bytes of the words of history entry `n` (R450): the newest is (WRITTEN − 1) modulo the queue's depth. -/
def FaultUnit.entryBytes (f : FaultUnit) (depth n : Nat) : List Byte :=
  padTo 24 (((f.hist[(f.written + depth - 1 - n % depth) % depth]?).map HistEntry.bytes).getD [])
/-- FLT_HIST_READ (R450): word 0 of an entry; words 1 and 2 are latched. -/
def fltHistRead (u n : Nat) (s : State) : Word × State :=
  let b := (s.fu u).entryBytes (histDepth u) n
  (word (ofBytesLE (slice b 0 8)),
   s.modFu u (fun f => { f with latch1 := word (ofBytesLE (slice b 8 8)), latch2 := word (ofBytesLE (slice b 16 8)) }))

end Sys2Proof.Machine
end

