-- ==== Sys2Proof/Machine/Scribe.lean ====
section
/-!
DEFINITION. The Scribe domain: boot, zeroisation and tamper, requests and their service, life cycle, firmware, the MCTP and
Ethernet services, pin multiplexing ("Scribe, Side-Band Management and Security").  Opcodes that reach registers lie in
`Machine/ScribeRegs.lean`.
-/
namespace Sys2Proof.Machine
open Sys2Proof

def State.modScribe (s : State) (f : Scribe → Scribe) : State := { s with scribe := f s.scribe }

-- Keys, zeroisation, reset (R409, R416 to R420) --------------------------------------------------------------------

/-- R420 holds the keys back. -/
def Scribe.latched (c : Scribe) : Bool := decide (c.tampers ≠ c.acked)
def Scribe.withheld (c : Scribe) : Bool := c.latched || c.exhausted
/-- Zeroisation (R418): keys, HMAC state and request counters go, a new BOOT_NONCE is drawn; the keys may be derived again. -/
def zeroise (s : State) : State :=
  let d := (signerDown s).draw
  d.2.modScribe (fun c => { c with keyLoaded := false, keysWait := true, nonce := word d.1, counter := 0, lastReq := [], lastResp := [],
                                   zeroised := satN 8 (c.zeroised + 1) })
/-- A tamper event (R419, R420). -/
def tamperEvent (cause : Nat) (s : State) : State :=
  zeroise (s.modScribe (fun c =>
    if c.tampers < 32 then { c with tampers := c.tampers + 1, lastCause := cause } else { c with exhausted := true, lastCause := cause }))
/-- TAMPER_PIN (R418): an input has been low for 1 µs, which is a tamper event when it is enabled, or it is high again. -/
def tamperPin (p : Nat) (low : Bool) (s : State) : State :=
  let s1 := s.modScribe (fun c => { c with pinsLow := if low then c.pinsLow ||| 2 ^ p else c.pinsLow &&& (3 - 2 ^ p) })
  if low && bitAt (s.greg Reg.SEC_TAMPER_CFG) p then tamperEvent (p + 1) s1 else s1
/-- CLOCK_GLITCH (R418): while the Scribe PLL reports lock. -/
def clockGlitch (s : State) : State := if s.scribeLock then tamperEvent 4 s else s
/-- Registers of the Scribe domain (R408). -/
def scribeReg (o : Nat) : Bool := (decide (0x50000 ≤ o) && decide (o < 0x51000)) || (decide (0x60000 ≤ o) && decide (o < 0x71000))
/-- Pins that a feature uses. -/
def featPins (f : Nat) (w : Word) : List Nat := (List.range (if f = 6 then 4 else 1)).map (fun k => fld w 3 0 + k)
/-- A feature in force, and the one that claims a pin. -/
def Pmx.feat (p : Pmx) (f : Nat) : Word := NMap.get 0 p.applied f
def Pmx.feature (p : Pmx) (n : Nat) : Option Nat := (List.range 7).find? (fun f => bitAt (p.feat f) 63 && (featPins f (p.feat f)).contains n)
/-- The name of a multiplexed pin. -/
def muxName (n : Nat) : String := "MUX" ++ toString n
/-- The device drives a multiplexed pin: none before the first APPLY (R491). -/
def State.drivesPin (s : State) (n : Nat) : Bool :=
  s.pmx.live && ((s.pmx.feature n).isSome || bitAt (s.greg Reg.PMX_GPIO) (16 + n))
/-- Every pin that `before` drives is released. -/
def releasePins (before s : State) : State := ((List.range 16).filter before.drivesPin).foldl (fun a n => a.emit (.released (muxName n))) s
/-- The Scribe domain resets (R409): every side-band exchange ends, a new BOOT_NONCE is drawn, seals stop. -/
def scribeReset (s : State) : State :=
  let d := (signerDown s).draw
  let c := d.2.scribe
  let s1 : State := { d.2 with
    gregs := d.2.gregs.filter (fun e => !scribeReg e.1), pmx := {}, signer := { d.2.signer with buffer := [] },
    scribe := { flash := c.flash, minSvn := c.minSvn, lc := c.lc, seed := c.seed, mgmt := c.mgmt, cert := c.cert, tampers := c.tampers,
                acked := c.acked, exhausted := c.exhausted, lastCause := c.lastCause, zeroised := c.zeroised, pinsLow := c.pinsLow,
                nonce := word d.1 } }
  let s2 := releasePins s s1
  if c.alert.isEmpty then s2 else s2.emit (.pin "ALERT_N" true)
/-- SCRIBE_PLL_LOSS (R37): the domain resets and the scratchpad is zeroised. -/
def scribePllLoss (s : State) : State := scribeReset (zeroise { s with scribeLock := false })

-- Boot (R411, R412) ------------------------------------------------------------------------------------------------

/-- Bytes of a flash region. -/
def State.flashBytes (s : State) (region off n : Nat) : List Byte :=
  (List.range n).map (fun k => NMap.get 0xFF s.scribe.flash (4194304 * region + off + k))
def flashWrite (region off : Nat) (bs : List Byte) (s : State) : State :=
  s.modScribe (fun c => { c with flash := (List.range bs.length).foldl (fun m k =>
    NMap.set 0xFF m (4194304 * region + off + k) (byteAt bs k)) c.flash })
/-- The image of a slot when it is valid (R412). -/
def fwImage (s : State) (slot : Nat) : Option FwImage :=
  let h := s.flashBytes slot 0 256
  let svn := ofBytesLE (slice h 8 2)
  let len := ofBytesLE (slice h 12 4)
  if decide (slice h 0 4 = [0x53, 0x43, 0x46, 0x57]) && decide (slice h 10 2 = [0, 0]) && (slice h 113 143).all (· == 0) &&
     decide (svn ≤ 63) && decide (s.scribe.minSvn ≤ svn) && decide (len % 64 = 0) && decide (64 ≤ len) && decide (len ≤ 3932160) &&
     ecdsaVerify Config.firmwareKey (sha384 (s.flashBytes slot 0 (256 + len))) (s.flashBytes slot (256 + len) 96) then
    some { slot := slot, major := (byteAt h 4).toNat, minor := (byteAt h 5).toNat, build := ofBytesLE (slice h 6 2), svn := svn,
           mcuKey := slice h 16 97 }
  else none
/-- Of two valid images the ROM starts the higher SVN, then the higher BUILD, then slot A. -/
def chooseImage : Option FwImage → Option FwImage → Option FwImage
  | some a, some b => if a.svn < b.svn ∨ (a.svn = b.svn ∧ a.build < b.build) then some b else some a
  | some a, none => some a
  | none, b => b
/-- SCRIBE_BOOT (R412): with no valid image the Scribe stays in ROM recovery. -/
def scribeBoot (s : State) : State :=
  if s.scribe.booted then s
  else { s.modScribe (fun c => { c with booted := true, fw := chooseImage (fwImage s 0) (fwImage s 1) }) with scribeLock := true }
/-- KEY_DERIVE (R416, R420): the management key and the seal key are loaded, and a new seal stream starts (R329). -/
def keyDerive (s : State) : State :=
  let c := s.scribe
  if c.fw.isSome && c.keysWait && !c.withheld then
    let s1 := s.modScribe (fun c => { c with keysWait := false, keyLoaded := c.mgmt.isSome })
    if s.keyPresent then signerUp true s1 else s1
  else s
/-- The microcode image that the flash holds (Table 04.9). -/
def State.microImage (s : State) : List Byte :=
  let n := ofBytesLE (s.flashBytes 2 8 2)
  if n ≤ 4096 then s.flashBytes 2 0 (64 + 32 * n + 96) else []

-- Requests (R425 to R429) ------------------------------------------------------------------------------------------

/-- The opcodes of Table 16.6, and those that are read-only. -/
def knownOpcode (m : List Byte) : Bool :=
  let op := msgOpcode m
  [0x0001, 0x0010, 0x0011, 0x0020, 0x0030, 0x0031, 0x0032, 0x0033, 0x0040, 0x0051, 0x0052, 0x0053, 0x0060, 0x0070, 0x0071, 0x0072,
   0x0073].contains op || (decide (op = 0x50) && (decide (byteAt (msgPayload m) 0 = 2) || decide (byteAt (msgPayload m) 0 = 3)))
def readOnlyOpcode (op : Nat) : Bool := [0x0001, 0x0010, 0x0020, 0x0032, 0x0033].contains op
/-- A request needs no TAG (R427): HELLO, and what R412, R415 and R421 permit. -/
def Scribe.untagged (c : Scribe) (path op : Nat) : Bool :=
  decide (op = 1) || c.fw.isNone || c.withheld || decide (c.lc = 1) ||
  (decide (c.lc = 0) && decide (path = 1) && (decide (op = 0x52) || decide (op = 0x53)))
/-- The Scribe takes the request up at all: firmware runs, or ROM recovery over MCTP for HELLO and FW_WRITE (R412). -/
def Scribe.hears (c : Scribe) (path op : Nat) : Bool :=
  c.booted && (c.fw.isSome || (decide (path = 1) && (decide (op = 1) || decide (op = 0x70))))
/-- A request that is taken up is executed and not refused: R421, R427. -/
def Scribe.allows (c : Scribe) (path : Nat) (m : List Byte) : Bool :=
  let op := msgOpcode m
  decide (op = 1) || c.fw.isNone ||
  (if c.withheld then decide (op = 0x33) || decide (op = 0x32) || (decide (op = 0x51) && decide (path = 1))
   else if c.lc = 1 then readOnlyOpcode op || decide (op = 0x50)
   else if c.lc = 0 then decide (op = 0x52) || decide (op = 0x53)
   else decide (c.lc = 2))
/-- The bytes of the mailbox (R425). -/
def State.mbxBytes (s : State) (n : Nat) : List Byte :=
  ((List.range 180).flatMap (fun k => bytesLE 8 (s.greg (Reg.SCB_MBX_DATA + 8 * k)).toNat)).take n
def setMbx (bs : List Byte) (s : State) : State :=
  (List.range (ceilDiv bs.length 8)).foldl (fun a k => a.setGreg (Reg.SCB_MBX_DATA + 8 * k) (word (ofBytesLE (slice bs (8 * k) 8)))) s
/-- A message in MCTP packets of the 64-byte baseline unit (DSP0236): transport header with version 1, destination and source EID, start
and end marks, packet sequence and message tag; `k` is the number of the next packet. -/
def mctpPackets (dest src tag : Nat) : Nat → Nat → List Byte → List (List Byte)
  | 0, _, _ => []
  | n + 1, k, bs =>
    let last := decide (bs.length ≤ 64)
    ([0x01, byte dest, byte src, byte (128 * b2n (decide (k = 0)) + 64 * b2n last + 16 * (k % 4) + tag % 8)] ++ bs.take 64) ::
      (if last then [] else mctpPackets dest src tag n (k + 1) (bs.drop 64))
/-- Message type 0x7E, Vendor Defined – PCI, and vendor ID 0x1F4B, which precede a Scribe message over MCTP (R424). -/
def mctpPrefix : List Byte := [0x7E, 0x1F, 0x4B]
/-- A message leaves by the path of its request; on the mailbox it replaces the request, unless the exchange has ended; over MCTP it goes
to the endpoint that asked, in packets (R424). -/
def sendOn (q : ScribeReq) (m : List Byte) (s : State) : State :=
  if q.path = 2 then
    if s.scribe.mbx.busy then
      (setMbx m s).modScribe (fun c => { c with mbx := CmdReg.take .ok, respReady := true, respLen := m.length })
    else s
  else if q.path = 1 then
    (mctpPackets q.eid s.scribe.eid q.tag 24 0 (mctpPrefix ++ m)).foldl (fun a p => a.emit (.sideband 1 p)) s
  else s.emit (.sideband q.path m)
/-- A discarded mailbox request clears BUSY (R434). -/
def discard (path : Nat) (s : State) : State :=
  if path = 2 then s.modScribe (fun c => { c with mbx := CmdReg.take .ok, respReady := false }) else s
/-- The response to a request, kept for R428 when the request was the last accepted one. -/
def respond (q : ScribeReq) (st : CmdStatus) (payload : List Byte) (s : State) : State :=
  let m := scribeMessage s 2 (msgOpcode q.bytes) st.code (msgCounter q.bytes) (if st = .ok then payload else [])
  let s1 := if st = .stateRefused then s.gcount Reg.SCB_COUNT 15 0 else s
  sendOn q m (if s1.scribe.lastReq = q.bytes then s1.modScribe (fun c => { c with lastResp := m }) else s1)
/-- An accepted request sets the request counter and is kept for a resend (R427, R428); a HELLO has no counter. -/
def noteRequest (m : List Byte) (s : State) : State :=
  if msgOpcode m = 1 then s else s.modScribe (fun c => { c with counter := msgCounter m, lastReq := m, lastResp := [] })
/-- A request arrives on a path (R427, R428): resent, discarded, answered with BAD_ARG, or queued. -/
def scribeArrive (q : ScribeReq) (s : State) : State :=
  let c := s.scribe
  let path := q.path
  let m := q.bytes
  let op := msgOpcode m
  if !c.hears path op then discard path s
  else if 8 ≤ c.queue.length then discard path (s.gcount Reg.SCB_COUNT 47 32)
  else
    let tagFine := c.untagged path op || msgTagOk s m
    let fresh := msgNonceOk s m && decide (c.counter < msgCounter m)
    if msgWellFormed m && decide (op ≠ 1) && msgTagOk s m && decide (c.lastReq = m) && !c.lastResp.isEmpty then
      sendOn q c.lastResp (s.gcount Reg.SCB_COUNT 31 16)
    else if msgWellFormed m && (decide (op = 1) || (tagFine && fresh)) then
      let s1 := noteRequest m s
      if knownOpcode m then s1.modScribe (fun c => { c with queue := c.queue ++ [q] })
      else respond q (if s1.scribe.allows path m || (decide (s1.scribe.lc = 2) && !s1.scribe.withheld) then .badArg else .stateRefused) [] s1
    else discard path (s.gcount Reg.SCB_COUNT 63 48)
/-- A datagram of the management Ethernet (R423): the Scribe protocol listens on destination port 4719, and a frame of more than 1,518
bytes, headers and FCS included, is discarded. -/
def udpArrive (port : Nat) (bytes : List Byte) (s : State) : State :=
  if port = 4719 ∧ 14 + 20 + 8 + bytes.length + 4 ≤ 1518 then scribeArrive { path := 0, bytes := bytes } s else s
/-- The message that MCTP packets, one after another, carry to endpoint `eid`, or to the null endpoint: one start, one end, packet
sequence, source and tag as in the first packet, whose bytes 2 and 3 are `src` and `flags` (DSP0236). -/
def mctpJoin (eid src flags : Nat) : Nat → Nat → List Byte → Option (List Byte)
  | 0, _, _ => none
  | n + 1, k, bs =>
    let f := (byteAt bs 3).toNat
    let rest := bs.drop 68
    if 4 < bs.length ∧ (byteAt bs 0).toNat % 16 = 1 ∧ ((byteAt bs 1).toNat = 0 ∨ (byteAt bs 1).toNat = eid) ∧ (byteAt bs 2).toNat = src ∧
       f % 16 = flags % 16 ∧ f / 16 % 4 = (flags / 16 + k) % 4 ∧ decide (128 ≤ f) = decide (k = 0) ∧ decide (f / 64 % 2 = 1) = rest.isEmpty then
      let part := (bs.drop 4).take 64
      if rest.isEmpty then some part else (mctpJoin eid src flags n (k + 1) rest).map (part ++ ·)
    else none
/-- A message over MCTP (R424), as its packets: one that is not whole, or not of the Scribe's vendor type, is discarded. -/
def mctpArrive (bytes : List Byte) (s : State) : State :=
  let src := (byteAt bytes 2).toNat
  let flags := (byteAt bytes 3).toNat
  match mctpJoin s.scribe.eid src flags 24 0 bytes with
  | some m =>
    if m.take 3 = mctpPrefix then scribeArrive { path := 1, bytes := m.drop 3, eid := src, tag := flags % 8 } s else s
  | none => s
/-- The request at the head of the queue served by the opcode `op` that it carries. -/
def serve (op : Nat) (sel : List Byte → Bool) (act : Nat → List Byte → State → CmdStatus × List Byte × State) (s : State) : State :=
  match s.scribe.queue with
  | [] => s
  | q :: rest =>
    if msgOpcode q.bytes = op ∧ sel (msgPayload q.bytes) then
      let s1 := s.modScribe (fun c => { c with queue := rest })
      if s1.scribe.allows q.path q.bytes then
        let r := act q.path (msgPayload q.bytes) s1
        respond q r.1 r.2.1 r.2.2
      else respond q .stateRefused [] s1
    else s
def anyPayload (_ : List Byte) : Bool := true
/-- SEND (R425): LEN bytes of the mailbox become a request.  A write by another requester is discarded: the block grants no PERMISSION
(R483). -/
def scbCommand (r : Requester) (w : Word) (s : State) : State :=
  if !s.globalWriter r then s
  else runCommand true (fun s => s.scribe.mbx) (fun c s => s.modScribe (fun x => { x with mbx := c }))
    (fun s => s.gcount Reg.SCB_COUNT 15 0) (fun s =>
      let n := fld w 26 16
      if fld w 3 0 = 1 ∧ 32 ≤ n ∧ n ≤ 1440 then
        let s1 := scribeArrive { path := 2, bytes := s.mbxBytes n } (s.modScribe (fun c => { c with mbx := CmdReg.take .busy, respReady := false }))
        (if s1.scribe.mbx.busy then .busy else .ok, s1)
      else (.badArg, s)) s
/-- MBX_DATA_WRITE (R434). -/
def mbxWrite (r : Requester) (k : Nat) (h : Half) (w : Word) (s : State) : State :=
  if s.globalWriter r then
    if s.scribe.mbx.busy then s.gcount Reg.SCB_COUNT 15 0
    else s.setGreg (Reg.SCB_MBX_DATA + 8 * k) (mergeWrite (s.greg (Reg.SCB_MBX_DATA + 8 * k)) w h 0xFFFFFFFFFFFFFFFF)
  else s
/-- SEC_TAMPER_CFG written (R422): in FIELD enable bits can only be set. -/
def tamperCfgWrite (r : Requester) (h : Half) (w : Word) (s : State) : State :=
  if r = .scribe then
    let old := s.greg Reg.SEC_TAMPER_CFG
    let new := mergeWrite old w h 3
    s.setGreg Reg.SEC_TAMPER_CFG (if s.scribe.lc = 2 then old ||| new else new)
  else s

-- Opcodes that use no register (R413 to R422, R430) ----------------------------------------------------------------

def State.fwVersion (s : State) : Word :=
  match s.scribe.fw with
  | some f => pack [(63, 56, s.scribe.minSvn), (55, 48, f.svn), (47, 40, f.slot), (31, 24, f.major), (23, 16, f.minor), (15, 0, f.build)]
  | none => pack [(63, 56, s.scribe.minSvn), (47, 40, if s.scribe.booted then 0xFF else 0)]
def glbId : Word := 0xB004006A4B
/-- HELLO. -/
def opHello (_ : Nat) (_ : List Byte) (s : State) : CmdStatus × List Byte × State :=
  (.ok, bytesLE 8 s.scribe.nonce.toNat ++ [byte s.scribe.lc, byte (b2n s.scribe.keyLoaded + 2 * b2n s.scribe.latched)] ++
    bytesLE 8 Config.serial.toNat ++ bytesLE 8 s.fwVersion.toNat ++ bytesLE 8 (s.slice 0).seq.version.toNat ++ bytesLE 8 glbId.toNat, s)
/-- Bytes of a stored object, of LEN 1 to 1,280 within it. -/
def readPart (obj : List Byte) (off len : Nat) (s : State) : CmdStatus × List Byte × State :=
  if 1 ≤ len ∧ len ≤ 1280 ∧ off + len ≤ obj.length then (.ok, slice obj off len, s) else (.badArg, [], s)
/-- SEAL_READ. -/
def opSealRead (_ : Nat) (p : List Byte) (s : State) : CmdStatus × List Byte × State :=
  if p.length ≠ 12 ∨ ofBytesLE (slice p 10 2) = 0 ∨ 1280 < ofBytesLE (slice p 10 2) then (.badArg, [], s)
  else match s.signer.buffer.find? (fun x => decide (x.number = ofBytesLE (slice p 0 8))) with
    | some x => readPart x.bytes (ofBytesLE (slice p 8 2)) (ofBytesLE (slice p 10 2)) s
    | none => (.notFound, [], s)
/-- CERT_READ. -/
def opCertRead (_ : Nat) (p : List Byte) (s : State) : CmdStatus × List Byte × State :=
  if p.length ≠ 4 then (.badArg, [], s) else readPart s.scribe.cert (ofBytesLE (slice p 0 2)) (ofBytesLE (slice p 2 2)) s
/-- LC_TRANSITION FIELD (Table 16.2): PROVISIONED, over MCTP; the management key is burnt. -/
def opField (path : Nat) (p : List Byte) (s : State) : CmdStatus × List Byte × State :=
  if p.length ≠ 33 then (.badArg, [], s)
  else if s.scribe.lc ≠ 1 ∨ path ≠ 1 then (.stateRefused, [], s)
  else (.ok, [], zeroise (s.modScribe (fun c => { c with lc := 2, mgmt := some (p.drop 1) })))
/-- LC_TRANSITION RETURNED: seed and management key are overwritten, no key remains. -/
def opReturned (_ : Nat) (p : List Byte) (s : State) : CmdStatus × List Byte × State :=
  if p.length ≠ 33 ∨ (p.drop 1).any (· ≠ 0) then (.badArg, [], s)
  else if s.scribe.lc ≠ 1 ∧ s.scribe.lc ≠ 2 then (.stateRefused, [], s)
  else (.ok, [], zeroise (s.modScribe (fun c => { c with lc := 3, mgmt := none, seed := none })))
/-- TAMPER_CLEAR (R419); `low` gives the levels of the tamper inputs. -/
def opTamperClear (low : Nat) (_ : Nat) (p : List Byte) (s : State) : CmdStatus × List Byte × State :=
  let s1 := s.modScribe (fun c => { c with pinsLow := low })
  if p ≠ [] then (.badArg, [], s1)
  else if low ≠ 0 ∨ !s1.scribe.latched then (.stateRefused, [], s1)
  else (.ok, [], s1.modScribe (fun c => { c with acked := c.acked + 1, keysWait := true }))
/-- PROVISION (Table 16.2): BLANK without a seed, over MCTP; the seed is drawn, the seal key derived, its public key returned. -/
def opProvision (path : Nat) (p : List Byte) (s : State) : CmdStatus × List Byte × State :=
  if p ≠ [] then (.badArg, [], s)
  else if s.scribe.lc ≠ 0 ∨ path ≠ 1 ∨ s.scribe.seed.isSome then (.stateRefused, [], s)
  else
    let d := (zeroise s).draw
    let s1 := signerUp false (d.2.modScribe (fun c => { c with seed := some d.1, keysWait := false }))
    (.ok, padTo 97 (sealPublic d.1), s1)
/-- CERT_WRITE (Table 16.2): the certificate's public key must equal the derived key. -/
def opCertWrite (path : Nat) (p : List Byte) (s : State) : CmdStatus × List Byte × State :=
  match s.scribe.seed with
  | none => (if p = [] ∨ s.scribe.lc = 0 then .badArg else .stateRefused, [], s)
  | some k =>
    if p = [] ∨ 2048 < p.length ∨ Config.certKey p ≠ sealPublic k then (.badArg, [], s)
    else if s.scribe.lc ≠ 0 ∨ path ≠ 1 then (.stateRefused, [], s)
    else (.ok, [], zeroise (s.modScribe (fun c => { c with lc := 1, cert := p })))
/-- NOTIFY_SET. -/
def opNotifySet (_ : Nat) (p : List Byte) (s : State) : CmdStatus × List Byte × State :=
  if p.length ≠ 28 then (.badArg, [], s)
  else (.ok, [], s.modScribe (fun c => { c with notifyTo := slice p 0 18, notifyMask := word (ofBytesLE (slice p 20 8)) }))
/-- FW_WRITE (R414). -/
def opFwWrite (_ : Nat) (p : List Byte) (s : State) : CmdStatus × List Byte × State :=
  let region := (byteAt p 0).toNat
  let off := ofBytesLE (slice p 1 4)
  let len := ofBytesLE (slice p 5 2)
  if p.length ≠ 7 + len ∨ 1 < region ∨ off % 256 ≠ 0 ∨ len % 256 ≠ 0 ∨ (if region = 0 then 4194304 else 262144) < off + len then
    (.badArg, [], s)
  else
    let slot := match s.scribe.fw with
      | some f => 1 - f.slot
      | none => 0
    (.ok, [], flashWrite (if region = 1 then 2 else slot) off (p.drop 7) s)
/-- FW_COMMIT_SVN (R414). -/
def opCommitSvn (_ : Nat) (p : List Byte) (s : State) : CmdStatus × List Byte × State :=
  if p ≠ [] then (.badArg, [], s)
  else match s.scribe.fw with
    | some f => if s.scribe.minSvn = f.svn then (.stateRefused, [], s) else (.ok, [], s.modScribe (fun c => { c with minSvn := max c.minSvn f.svn }))
    | none => (.stateRefused, [], s)
/-- MCU_RELOAD (R413): slices that are EMPTY or HALTED load the image, the others are reported. -/
def opMcuReload (_ : Nat) (p : List Byte) (s : State) : CmdStatus × List Byte × State :=
  if p ≠ [] then (.badArg, [], s)
  else if !s.up then (.fenced, [], s)
  else
    let img := s.microImage
    let loads := fun (k : Nat) => !(s.slice (sl k)).seqRuns && imageOk s.mcuKey img
    let mask := fun (f : Nat → Bool) => sumNat ((List.range 16).map (fun k => if f k then 2 ^ k else 0))
    (.ok, bytesLE 2 (mask loads) ++ bytesLE 2 (mask (fun k => (s.slice (sl k)).seqRuns)),
      (List.range 16).foldl (fun a k => if loads k then seqLoad (sl k) img a else a) s)
/-- LINK_RELEASE runs RELEASE (R402). -/
def opLinkRelease (_ : Nat) (p : List Byte) (s : State) : CmdStatus × List Byte × State :=
  if p.length ≠ 1 ∨ 4 ≤ (byteAt p 0).toNat then (.badArg, [], s)
  else
    let r := releaseLink (byteAt p 0).toNat s
    (r.1, [], if r.1 = .stateRefused then refuseHst r.2 else r.2)
/-- SCRIBE_RESET: the response is sent, and then the domain resets (R409). -/
def scribeResetOp (s : State) : State :=
  match s.scribe.queue with
  | [] => s
  | q :: rest =>
    if msgOpcode q.bytes = 0x73 then
      let s1 := s.modScribe (fun c => { c with queue := rest })
      if !s1.scribe.allows q.path q.bytes then respond q .stateRefused [] s1
      else if msgPayload q.bytes ≠ [] then respond q .badArg [] s1
      else scribeReset (respond q .ok [] s1)
    else s

-- MCTP control, management Ethernet, SMBus (R423, R424, R430) ------------------------------------------------------

/-- A control response of the MCTP endpoint (DSP0236; log 23), from ROM or firmware. -/
def mctpReply (bs : List Byte) (s : State) : State := if s.scribe.booted then s.emit (.sideband 1 bs) else s
/-- SET_ENDPOINT_ID: operation 0 or 1 sets a legal EID; any other is answered as rejected. -/
def setEid (op eid : Nat) (s : State) : State :=
  if op ≤ 1 ∧ 8 ≤ eid ∧ eid ≤ 254 then
    mctpReply [0, 0, byte eid, 0] (if s.scribe.booted then s.modScribe (fun c => { c with eid := eid }) else s)
  else mctpReply [2] s
def getEid (s : State) : State := mctpReply [0, byte s.scribe.eid, 0, 0] s
/-- Version 1.3.1 of the base specification. -/
def mctpVersion (s : State) : State := mctpReply [0, 1, 0xF1, 0xF3, 0xF1, 0x00] s
def mctpTypes (s : State) : State := mctpReply [0, 1, 0x7E] s
/-- PCI vendor ID 0x1F4B; the spec gives no command set version, so those two bytes are free. -/
def mctpVendor (s : State) : State :=
  let d := s.draw
  mctpReply ([0, 0xFF, 0x00, 0x1F, 0x4B] ++ bytesLE 2 d.1) d.2
/-- ARP_REQUEST: the reply to a request for the management address, while firmware runs. -/
def arpReply (mac ip target : List Byte) (s : State) : State :=
  if s.scribe.fw.isSome ∧ target = padTo 4 Config.mgtIp4 then
    s.emit (.sideband 3 (mac ++ padTo 6 Config.mgtMac ++ [0x08, 0x06, 0, 1, 0x08, 0, 6, 4, 0, 2] ++ padTo 6 Config.mgtMac ++
      padTo 4 Config.mgtIp4 ++ mac ++ ip))
  else s
/-- An ICMP message of a type and body with its checksum: over the message, and for IPv6 over the pseudo-header before it. -/
def icmp (pseudo : List Byte) (kind : Nat) (body : List Byte) : List Byte :=
  [byte kind, 0] ++ bytesBE 2 (0xFFFF - onesSum (pseudo ++ [byte kind, 0] ++ body)) ++ body
/-- The IPv6 pseudo-header of an ICMPv6 message of `n` bytes from the management address. -/
def pseudo6 (dst : List Byte) (n : Nat) : List Byte := padTo 16 Config.mgtIp6 ++ padTo 16 dst ++ bytesBE 4 n ++ [0, 0, 0, 58]
/-- ECHO_REQUEST: the ICMP (path 4) or ICMPv6 (path 5) echo reply to `ip` carries the request's identifier, sequence and data; a request
in a frame of more than 1,518 bytes is discarded (R423). -/
def echoReply (v6 : Bool) (ip body : List Byte) (s : State) : State :=
  if s.scribe.fw.isSome ∧ 14 + (if v6 then 40 else 20) + 4 + body.length + 4 ≤ 1518 then
    s.emit (if v6 then .sideband 5 (icmp (pseudo6 ip (4 + body.length)) 129 body) else .sideband 4 (icmp [] 0 body))
  else s
/-- NEIGHBOUR_DISCOVERY: the advertisement for a solicitation of the management address from `ip`, Solicited and Override. -/
def neighbourReply (target ip : List Byte) (s : State) : State :=
  if s.scribe.fw.isSome ∧ target = padTo 16 Config.mgtIp6 then
    s.emit (.sideband 5 (icmp (pseudo6 ip 32) 136 ([0x60, 0, 0, 0] ++ target ++ [2, 1] ++ padTo 6 Config.mgtMac)))
  else s
/-- ALERT_RESPONSE (R430): while ALERT_N is low the Scribe gives its address; the alert stays. -/
def alertResponse (s : State) : State := if s.scribe.alert.isEmpty then s else s.emit (.sideband 6 [Config.smbusAddr])

-- Pin multiplexing (R432, R433) ------------------------------------------------------------------------------------

def State.pmxFeat (s : State) (f : Nat) : Word := s.greg (Reg.PMX_FEAT + 8 * f)
/-- How two enabled features conflict: 0 a pin, 1 a timer. -/
def pmxConflict (s : State) (a b : Nat) : Option Nat :=
  let x := s.pmxFeat a
  let y := s.pmxFeat b
  if !bitAt x 63 || !bitAt y 63 then none
  else if (featPins a x).any (fun p => (featPins b y).contains p) then some 0
  else if a ≠ 6 ∧ b ≠ 6 ∧ fld x 9 8 = fld y 9 8 then some 1
  else none
def pmxPairs : List (Nat × Nat) := (List.range 7).flatMap (fun a => ((List.range 7).filter (fun b => decide (a < b))).map (fun b => (a, b)))
/-- A pin takes up its function: a GPIO with its output enabled is driven to its level, a pulse output rests low, and DEBUG drives trace
data, which is open (log 129). -/
def drivePin (n : Nat) (s : State) : State :=
  let w := s.greg Reg.PMX_GPIO
  match s.pmx.feature n with
  | none => if bitAt w (16 + n) then s.emit (.pin (muxName n) (bitAt w n)) else s
  | some 6 => s.draw.2.emit (.pin (muxName n) (s.draw.1 % 2 == 1))
  | some _ => s.emit (.pin (muxName n) false)
/-- Each pin whose function changes from that under `old` passes through high impedance (R433), where every pin is before the first
APPLY (R491). -/
def pmxSwitch (old : Pmx) (s : State) : State :=
  (List.range 16).foldl (fun a n =>
    if !old.live then drivePin n a
    else if old.feature n ≠ s.pmx.feature n then
      drivePin n (({ a with pmx := { a.pmx with high := a.pmx.high.filter (fun e => decide (e.1 ≠ n)) } }).emit (.released (muxName n)))
    else a) s
/-- APPLY (R433). -/
def pmxApply (s : State) : CmdStatus × State :=
  if bitAt (s.pmxFeat 6) 63 ∧ fld (s.pmxFeat 6) 3 0 % 4 ≠ 0 then (.badArg, s)
  else match pmxPairs.find? (fun p => (pmxConflict s p.1 p.2).isSome) with
    | some p => (.stateRefused, { s with pmx := { s.pmx with confA := p.1, confB := p.2, kind := (pmxConflict s p.1 p.2).getD 0 } })
    | none => (.ok, pmxSwitch s.pmx
        { s with pmx := { s.pmx with applied := (List.range 7).foldl (fun m f => NMap.set 0 m f (s.pmxFeat f)) [], live := true } })
/-- PMX_CMD written by a requester. -/
def pmxCommand (r : Requester) (w : Word) (s : State) : State :=
  runCommand (s.globalWriter r) (fun s => s.pmx.cmd) (fun c s => { s with pmx := { s.pmx with cmd := c } })
    (fun s => s.gcount Reg.GLB_REFUSED 31 16) (fun s => if fld w 3 0 = 1 then pmxApply s else (.badArg, s)) s
def Pmx.statusWord (p : Pmx) : Word := pack ([(12, 12, p.kind), (11, 9, p.confA), (8, 6, p.confB)] ++ p.cmd.fields)
/-- A high pulse on the feature's pin begins: it lasts WIDTH × 100 ns, where 0 is used as 1 (R432, Table 16.9). -/
def pulse (f : Nat) (s : State) : State :=
  let w := s.pmx.feat f
  let n := fld w 3 0
  ({ s with pmx := { s.pmx with
    high := s.pmx.high.filter (fun (e : Nat × Nat) => decide (e.1 ≠ n)) ++ [(n, s.uptime + cyclesUs / 10 * max 1 (fld w 31 16))] } }).emit (.pin (muxName n) true)
/-- The pulses that end by the uptime `t` fall. -/
def pulsesFall (t : Nat) (s : State) : State :=
  (s.pmx.high.filter (fun e => decide (e.2 ≤ t))).foldl (fun (a : State) e => a.emit (.pin (muxName e.1) false))
    { s with pmx := { s.pmx with high := s.pmx.high.filter (fun e => decide (t < e.2)) } }
/-- An instant that recurs every `n` sixteenths lies in this CCLK cycle of central time. -/
def State.crosses (s : State) (phase n : Nat) : Bool := decide ((s.trf.acc / 2 ^ 44 + n - phase % n) % n < 11)
/-- PPS_OUT_PULSE: a whole TAI second. -/
def ppsOut (f : Nat) (s : State) : State := if s.up ∧ bitAt (s.pmx.feat f) 63 ∧ s.crosses 0 16000000000 then pulse f s else s
/-- GATE_TRIG_PULSE: a cycle start of the gate list of PORT_NODE on SLICE; `g` is the trigger's number. -/
def gateTrig (g : Nat) (s : State) : State :=
  let w := s.pmx.feat (g + 2)
  let c := s.sch (sl (fld w 51 48))
  let k := fld w 41 36
  let e := c.gateCfg k (c.port k).gact
  if s.up ∧ bitAt w 63 ∧ c.listGoverns k (c.port k).gact ∧ s.crosses e.base (max 1 e.cycle) then pulse (g + 2) s else s

-- Register images (Table 16.11) ------------------------------------------------------------------------------------

def State.secStatus (s : State) : Word :=
  let c := s.scribe
  pack [(55, 48, c.zeroised), (41, 36, c.tampers), (35, 30, c.acked), (7, 7, b2n c.exhausted), (6, 3, c.lastCause),
    (2, 2, b2n c.latched), (1, 0, c.pinsLow)]
def Scribe.mbxStatus (c : Scribe) : Word := pack ([(26, 16, c.respLen), (6, 6, b2n c.respReady)] ++ c.mbx.fields)

end Sys2Proof.Machine
end

