-- ==== Sys2Proof/Machine/Reset.lean ====
section
/-!
DEFINITION. Power, resets and bring-up ("Power-Up, Reset and Bring-Up"), and `settle`, which applies the fault reactions that
a command brought about: fences, lifts, and for a fatal source the core reset (R437, R442, R447).
-/
namespace Sys2Proof.Machine
open Sys2Proof

-- Straps (R380, R381, R403, Table 19.5) ----------------------------------------------------------------------------

/-- Straps that the Scribe domain samples at its power-on, and those that the core samples. -/
def scribeStraps : Word := 0x6000
def coreStraps : Word := 0x9F03
/-- The core straps latched from the pins. -/
def latchStraps (s : State) : State :=
  { s with straps := (s.straps &&& scribeStraps) ||| (s.strapPins &&& coreStraps) }
/-- Each slice owned as OWN_SEL says (R403). -/
def strapOwner (s : State) (i : Fin 16) : Fin 16 :=
  if bitAt s.straps 12 then
    Fin.ofNat 16 (((List.range 16).find? (fun p => decide (s.pfMap p = some (i.val * s.nLinks / 16)))).getD s.deviceOwner)
  else Fin.ofNat 16 s.deviceOwner
/-- The strap-given reset values of HST_LINK_CFG, HST_PF_MAP, HST_OWNER_PF and ownership; every PF on its link. -/
def applyStraps (s : State) : State :=
  let n := s.nLinks
  let s1 := (List.range 4).foldl (fun a l => a.setGreg (Reg.HST_LINK_CFG + 8 * l) (pack [(46, 32, 16384 / n), (19, 0, 0x2710)])) s
  let map := sumNat ((List.range 16).map (fun p => (8 + p % n) * 16 ^ p))
  let s2 := (s1.setGreg Reg.HST_PF_MAP (word map)).setGreg Reg.HST_OWNER_PF (word (fld s.straps 11 8))
  let s3 := (List.range 16).foldl (fun a p => a.modPf p (fun x => { x with link := some (p % n) })) s2
  { s3 with slices := Vector.ofFn (fun i => { s3.slices[i] with owner := strapOwner s3 i }) }

-- The core reset (R467, R473, Table 19.2) --------------------------------------------------------------------------

/-- Global registers of the reset island (R474). -/
def islandReg (o : Nat) : Bool :=
  [Reg.GLB_ID, Reg.GLB_CLK_STATUS, Reg.GLB_HEALTH, Reg.GLB_RST_CMD, Reg.GLB_RST_STATUS, Reg.GLB_STRAPS].contains o ||
  (decide (0x10000 ≤ o) && decide (o < 0x11000))
/-- What a device fault source keeps (R447): SEEN and RAISE_COUNT, LIVE of an event, and the conditions of units that the reset
does not touch: a link that stays frozen, the signer. -/
def FaultSrc.kept (device : Bool) (id : Nat) (x : FaultSrc) : FaultSrc :=
  { srcReset id with seen := x.seen, raised := x.raised, liveUntil := x.liveUntil,
                     cond := x.cond && (decide (id = 0xD01) || (!device && decide (0xC00 ≤ id ∧ id ≤ 0xC03))) }
/-- The device fault unit after a core reset: its history stays (R447). -/
def FaultUnit.kept (device : Bool) (f : FaultUnit) : FaultUnit :=
  { srcs := (f.srcs.map (fun e => (e.1, e.2.kept device e.1))).filter (fun e => decide (e.2 ≠ srcReset e.1)), hist := f.hist, written := f.written }
/-- The host port after a reset of the core: tags outstanding are quarantined (R473); a device reset resets every link. -/
def HostPort.kept (device : Bool) (t : Nat) (h : HostPort) : HostPort :=
  let tags := NMap.mapVal none (fun g => g.map (fun x => if x.quar.isSome then x else { x with quar := some t })) h.tags
  if device then { tags := tags, nextTag := h.nextTag } else { h with tags := tags }
/-- A mailbox exchange in progress ends (R467). -/
def Scribe.endMailbox (c : Scribe) : Scribe :=
  { c with mbx := { c.mbx with busy := false }, respReady := false, queue := c.queue.filter (fun q => decide (q.path ≠ 2)) }
/-- Every state of the core domain at its reset values; the reset island, the Scribe domain and what R447 names stay. -/
def clearCore (device : Bool) (s : State) : State :=
  let s1 : State := { s with
    due := [], frames := [], trf := {}, fol := {}, lig := {}, tally := {}, xbrPending := false, xbrRefused := 0, lastMarker := none,
    slices := Vector.ofFn (fun i => { owner := strapOwner s i }), flt := s.flt.kept device,
    gregs := s.gregs.filter (fun e => scribeReg e.1 || (islandReg e.1 && (!device || decide (e.1 = Reg.GLB_HEALTH)))),
    host := s.host.kept device s.uptime, signer := { s.signer with interval := 1000 }, scribe := s.scribe.endMailbox,
    rootLossSeen := s.rootLossSeen && !device }
  if device then
    applyStraps (latchStraps (s1.setGreg Reg.GLB_HEALTH (s1.greg Reg.GLB_HEALTH &&& 0xFFFF00000000)))
  else s1
/-- A START under way ends without completing; the spec names its status only for a loss of the root PLL: a free value. -/
def endStart (s : State) : State :=
  if s.rstCmd.busy then
    let d := s.draw
    let codes := [CmdStatus.ok, .busy, .alreadyPresent, .notFound, .fullRehash, .stateRefused, .permission, .badArg, .fenced, .timeout]
    { d.2 with rstCmd := { busy := false, status := (codes[d.1 % 10]?).getD .ok } }
  else s
/-- A core or device reset with its causes (R471, R476); HEALTH_N de-asserts (R90) and the core is held.  A cause that falls in the
cycle of the reset before is one more cause of that reset: of both the lower value is recorded. -/
def coreReset (device : Bool) (causes : List Nat) (s : State) : State :=
  let s1 := clearCore device (endStart (healthDown s))
  let same := decide (s.resetAt = some s.uptime)
  let fatal := causes.any (fun c => decide (4 ≤ c ∧ c ≤ 7))
  { s1 with core := .held, coreResets := if same then s1.coreResets else satN 16 (s1.coreResets + 1),
            lastCause := (((if same then [s1.lastCause] else []) ++ causes).min?).getD s1.lastCause,
            causeSeen := causes.foldl (fun a c => a ||| 2 ^ (c - 1)) s1.causeSeen,
            fatalReset := fatal || (same && s1.fatalReset), resetAt := some s.uptime }
/-- The links go down with the core (Table 19.3): HST_PF_MAP is applied to all of them (R381). -/
def linksDown (s : State) : State :=
  let s1 := (List.range 16).foldl (fun a p => a.modPf p (fun x => { x with link := none })) s
  (List.range 4).foldl (fun a l => applyPfMap l (a.modLink l (fun k => { k with dlActive := false, width := 0, speed := 0, flit := false }))) s1
/-- Table 19.3: to OFF. -/
def coreOff (causes : List Nat) (s : State) : State :=
  if s.core = .off then s else { (linksDown (coreReset false causes s)) with core := .off }

-- Fault reactions --------------------------------------------------------------------------------------------------

/-- LAST_CAUSE of a fatal source (Table 19.6). -/
def fatalCause (s : State) (id : Nat) : Nat := if (s.src 16 id).force then 4 else 5 + (id - 0xE00)
/-- One fence or lift that waits. -/
def applyDue (d : Due) (s : State) : State := if d.unit < 16 then applyReaction (sl d.unit) d.src d.lift s else s
/-- Fences and lifts in the order in which they arose; a fence may bring about others.  No chain of them has 65,536 members
(log 34). -/
def settleN : Nat → State → State
  | 0, s => { s with due := [] }
  | n + 1, s => match s.due with
    | [] => s
    | d :: rest => settleN n (applyDue d { s with due := rest })
/-- Every fault reaction that a command brought about takes effect: a fatal source resets the core (R447), unless it is OFF (Table
19.3). -/
def settleFaults (s : State) : State :=
  match (s.due.filter (fun d => fatalSource d.src && !d.lift)).map (fun d => fatalCause s d.src) with
  | [] => settleN 65536 s
  | causes =>
    if s.core = .off then settleN 65536 { s with due := s.due.filter (fun d => !fatalSource d.src) } else coreReset false causes s
/-- The fabric remembers the writes of the PCLK cycle in progress alone (R406). -/
def ageWrite (s : State) : State := { s with writes := s.writes.filter (fun x => decide (x.cycle = s.uptime / 4)) }
/-- The end of every command: fault reactions take effect, and what the fabric remembers ages. -/
def settle (s : State) : State := ageWrite (settleFaults s)

-- Power and clocks (R36, R464, R465, R468) -------------------------------------------------------------------------

/-- ROOT_PLL_LOSS (R36): counted, the fatal source rises, the core goes OFF; a START ends with TIMEOUT (R469), and the PCI
Express configuration space clears (Table 19.2). -/
def rootPllLoss (s : State) : State :=
  if s.rootLock.isSome then
    let s1 : State := { s with rootLock := none, rootLoss := satN 16 (s.rootLoss + 1), rootLossSeen := true }
    let s2 := raiseEvent 16 0xE00 0 false s1
    if s.core = .off then s2
    else
      let s3 := if s2.rstCmd.busy then { s2 with rstCmd := { busy := false, status := .timeout } } else s2
      let s4 := coreOff [5] s3
      { s4 with host := { s4.host with pfs := NMap.mapVal {} (fun p => { link := p.link, bar2Size := p.bar2Size }) s4.host.pfs,
                                       links := [] } }
  else s
/-- ROOT_PLL_LOCK (R465, R468): the core leaves OFF when its rails are in tolerance. -/
def rootPllLock (s : State) : State :=
  if s.pwrOk && s.refPresent && s.rootLock.isNone then
    { s with rootLock := some s.uptime, core := if s.core = .off ∧ s.railsOk then .held else s.core }
  else s
/-- Every slice has the owner that the straps give it. -/
def strapOwners (s : State) : State := { s with slices := Vector.ofFn (fun i => { s.slices[i] with owner := strapOwner s i }) }
/-- PWR_OK_RISE (R463, R466): every core rail is in tolerance, and the core straps are latched.  The rise that completes a power-on sets
the host port as they say; a later one leaves it as the core reset has kept it (Table 19.1). -/
def pwrOkRise (pins : Word) (s : State) : State :=
  if s.pwrOk then s
  else
    let s1 := latchStraps { s with pwrOk := true, railsOk := true, firstRise := false, strapPins := pins }
    if s.firstRise then applyStraps s1 else strapOwners s1
/-- PWR_OK_FALL (R464): the core goes OFF; its root PLL is no longer locked. -/
def pwrOkFall (s : State) : State := if s.pwrOk then coreOff [] { s with pwrOk := false, rootLock := none } else s
/-- CORE_RAIL_LOW (R464): the rail stays out of tolerance until PWR_OK rises again (R463, log 128). -/
def coreRailLow (rail : Nat) (s : State) : State :=
  if s.pwrOk then raiseEvent 16 0xE02 rail false { s with railsOk := false } else s
/-- THERMAL_TRIP (R487): the sensors are then no longer 10 °C below the limit (R469). -/
def thermalTrip (sensor : Nat) (s : State) : State := raiseEvent 16 0xE01 sensor false { s with coolEnough := false }
/-- RESET_N (R466): a device reset, the straps sampled again. -/
def resetN (pins : Word) (s : State) : State :=
  let s1 : State := { s with strapPins := pins }
  if s.core = .off then s1 else coreReset true [2] s1
/-- VDD_SCR_POWER_UP (R466, Table 19.2): the whole device at its power-on values but for OTP and flash; the core is OFF. -/
def vddScrUp (pins : Word) (s : State) : State :=
  let s0 := scribeReset s
  let s1 := s0.modScribe (fun c => { c with lastCause := 0, zeroised := 0 })
  { State.reset with
    pending := s.pending, uptime := s.uptime, draws := s1.draws, nextId := s.nextId, out := s1.out, scribe := s1.scribe,
    core := .off, pwrOk := false, rootLock := none, scribeLock := false, strapPins := pins, straps := pins &&& scribeStraps,
    coolEnough := s.coolEnough, railsOk := s.railsOk, firstRise := true, refPresent := s.refPresent, flt := if s1.keyPresent then State.reset.flt else {} }

-- GLB_RST_CMD (R469 to R471, R475) ---------------------------------------------------------------------------------

def putRst (c : CmdReg) (s : State) : State := { s with rstCmd := c }
def refuseRst (s : State) : State := s.gcount Reg.GLB_REFUSED 15 0
/-- START_READY: the first four conditions of R469. -/
def State.startReady (s : State) : Bool :=
  decide (s.core = .held) && (match s.rootLock with
    | some t => decide (t + 100 * cyclesUs ≤ s.uptime)
    | none => false) && s.scribe.fw.isSome && !s.fatalLive
/-- START (R469): the first four conditions, the sensors as they were last read (log 32), and every rail in tolerance, without which the
core stays held (R464, log 128). -/
def rstStart (s : State) : CmdStatus × State :=
  judge [(!s.startReady || !s.coolEnough || !s.railsOk, .stateRefused)] s (fun s => (.busy, { s with core := .starting }))
/-- CORE_RESET or DEVICE_RESET (R471): taken even while a START runs, and complete once HELD is reached. -/
def rstReset (device : Bool) (s : State) : State :=
  if s.core = .off then refuseRst (putRst (CmdReg.take .stateRefused) s)
  else putRst (CmdReg.take .ok) (coreReset device [if device then 3 else 8] (putRst {} s))
/-- GLB_RST_CMD written by a requester. -/
def rstCommand (r : Requester) (w : Word) (s : State) : State :=
  let op := fld w 3 0
  let perm := if op = 3 then decide (r = .scribe) else s.globalWriter r
  if perm && decide (op = 2 ∨ op = 3) then rstReset (decide (op = 3)) s
  else runCommand perm (·.rstCmd) putRst refuseRst (fun s => if op = 1 then rstStart s else (.badArg, s)) s
/-- AUTO_START (R475): the Scribe firmware, which has read every sensor at least 10 °C below the limit, writes START. -/
def autoStart (s : State) : State :=
  if bitAt s.straps 15 && s.startReady && !s.fatalReset then rstCommand .scribe 1 { s with coolEnough := true } else s
/-- START_COMPLETE (R470): arrays clear and free lists are whole in every slice, which keeps its owner; time is 0 in FREERUN, a new
Copybook run starts in each slice (R329), microcode is loaded; the core is UP, and ARM is 0. -/
def startComplete (s : State) : State :=
  if s.core = .starting then
    let s1 : State := { s with
      core := .up, cycle0 := s.uptime, rstCmd := CmdReg.take .ok, trf := {}, fol := {}, arm := false, lastMarker := none,
      slices := Vector.ofFn (fun i => { owner := (s.slice i).owner }) }
    (List.finRange 16).foldl (fun a i => seqLoad i s.microImage (newRun i a)) s1
  else s

-- Registers (Tables 01.15, 19.5) -----------------------------------------------------------------------------------

def CoreState.code : CoreState → Nat
  | .off => 0 | .held => 1 | .starting => 2 | .up => 3
/-- GLB_RST_STATUS and GLB_CLK_STATUS as they read. -/
def State.rstStatus (s : State) : Word :=
  pack ([(63, 48, s.coreResets), (39, 32, s.causeSeen), (31, 28, s.lastCause), (9, 8, s.core.code), (7, 7, b2n s.startReady)] ++
    s.rstCmd.fields)
def State.clkStatus (s : State) : Word :=
  pack [(47, 32, s.rootLoss), (3, 3, b2n s.rootLossSeen), (2, 2, b2n s.refPresent), (1, 1, b2n s.scribeLock), (0, 0, b2n s.rootLock.isSome)]
/-- A GLB_RST_STATUS write: CORE_RESETS clears and CAUSE_SEEN clears by ones with the high half, LAST_CAUSE lies in the low. -/
def rstStatusWrite (r : Requester) (h : Half) (w : Word) (s : State) : State :=
  if s.globalWriter r then
    let s1 : State := if h = .low then s
      else { s with coreResets := 0, causeSeen := s.causeSeen &&& (255 - fld w 39 32) }
    if h = .high then s1 else { s1 with lastCause := fld w 31 28 }
  else s
/-- A GLB_CLK_STATUS write: ROOT_LOSS_COUNT clears with the high half, ROOT_LOSS_SEEN by a one. -/
def clkStatusWrite (r : Requester) (h : Half) (w : Word) (s : State) : State :=
  if s.globalWriter r then
    let s1 : State := if h = .low then s else { s with rootLoss := 0 }
    if h = .high then s1 else { s1 with rootLossSeen := s1.rootLossSeen && !bitAt w 3 }
  else s

end Sys2Proof.Machine
end

