-- ==== Sys2Proof/Machine/RegRead.lean ====
section
/-!
DEFINITION. What each register reads as (Tables 20.3, 20.4), and reads by a requester with their effects: RC fields (R6, R482),
latched and popped words (R66, R450, R459), the requester's rights (Table 20.5, R481), the reset island (R474).
-/
namespace Sys2Proof.Machine
open Sys2Proof

-- Slice registers --------------------------------------------------------------------------------------------------

/-- DSP_STATUS and ENG_STATUS (Tables 04.6, 04.8). -/
def State.dspStatus (s : State) (i : Fin 16) : Word :=
  pack [(42, 32, s.restorerUsed i), (26, 16, (s.slice i).threads.length),
    (15, 0, sumNat ((List.range 16).map (fun c => if s.unitFenced i (.cluster c) then 2 ^ c else 0)))]
def State.engStatus (s : State) (i : Fin 16) (c : Nat) : Word :=
  let q := ((s.slice i).cluster c).queue
  let pinned := (q.head?.bind (fun n => s.packet i n)).map (·.pinned)
  pack [(39, 32, q.length), (22, 16, (s.slice i).busyThreads c), (1, 1, b2n (pinned.getD false)), (0, 0, b2n (s.unitFenced i (.cluster c)))]
/-- Word `w` of the sample that the next read of PMC_SMP0 removes, or that the last one latched. -/
def Pmc.smp (p : Pmc) (w : Nat) : Word :=
  if w = 0 then word (p.samples.headD 0) else if w = 1 then p.smp1 else if w = 2 then p.smp2 else p.smp3
/-- The number of a place in an array of registers. -/
def place? (o base stride n : Nat) : Option Nat :=
  if base ≤ o ∧ (o - base) % stride = 0 ∧ (o - base) / stride < n then some ((o - base) / stride) else none
/-- Place and offset within a window of an array of like windows. -/
def window? (o base stride n : Nat) : Option (Nat × Nat) :=
  if base ≤ o ∧ (o - base) / stride < n then some ((o - base) / stride, base + (o - base) % stride) else none

/-- Port windows, fault sources, history, and the tables' windows: registers of arrays whose value is other state. -/
def State.arrayReg (s : State) (i : Fin 16) (o : Nat) : Option Word :=
  let x := s.slice i
  if 0x8000 ≤ o ∧ o < 0xC000 then
    (window? o 0x8000 0x40 256).bind (fun p =>
      if p.2 = Reg.RNG_HEAD then some (x.ring p.1).headWord
      else if p.2 = Reg.RNG_STATUS then some (x.ring p.1).statusWord else none)
  else if 0x10000 ≤ o ∧ o < 0x20000 then
    (window? o 0x10000 0x400 64).bind (fun p =>
      if p.2 = Reg.PRT_STATUS then some (s.prtStatus i p.1)
      else if p.2 = Reg.PRT_CAL then some (s.prtCal i p.1)
      else if p.2 = Reg.PRT_CAL_ADJ then some (s.lane i p.1).adj else none)
  else if 0x30000 ≤ o ∧ o < 0x40000 then
    (window? o 0x30000 0x1000 16).bind (fun p => if p.2 = Reg.ENG_STATUS then some (s.engStatus i p.1) else none)
  else if 0xF0000 ≤ o ∧ o < 0x100000 then
    if o = Reg.FLT_STATUS then some (s.fltStatus i.val)
    else if o = Reg.FLT_FENCED then some x.fltFenced
    else if o = Reg.FLT_PORT_FENCED then some x.fltPortFenced
    else if o = Reg.FLT_HIST_STATUS then some x.flt.histStatus
    else match place? o 0xF2000 8 0xC00 with
      | some id => some (s.fltSrcWord i.val id)
      | none => (window? o 0xF8000 0x20 32).bind (fun p =>
          if p.2 = 0xF8000 then some (word (ofBytesLE ((x.flt.entryBytes 32 p.1).take 8)))
          else if p.2 = 0xF8008 then some x.flt.latch1
          else if p.2 = 0xF8010 then some x.flt.latch2 else none)
  else
    ((place? o Reg.RMX_BANK 8 16).map (fun b => (x.rmx.copy x.fol.settled.roleS).bankReg b)).orElse fun _ =>
    ((place? o Reg.RMX_SIGSEL 8 16).map (fun b => (x.rmx.copy x.fol.settled.roleS).sigReg b)).orElse fun _ =>
    ((place? o Reg.LIG_STATUS 8 64).map (fun k => ((s.sch i).port k).ligStatus)).orElse fun _ =>
    ((place? o Reg.RPL_NEXT 8 256).map (fun g => s.rplNext i g)).orElse fun _ =>
    ((place? o Reg.PMC_SMP 8 4).map (fun w => x.pmc.smp w)).orElse fun _ =>
    (place? o Reg.PMC_TD 8 64).map (fun n => s.pmcTd i (n / 4) (n % 4))

/-- Single registers of a slice whose value is other state. -/
def State.computedReg (s : State) (i : Fin 16) (o : Nat) : Option Word :=
  let x := s.slice i
  if o = Reg.SLC_ID then some (slcId i)
  else if o = Reg.SLC_STATUS then some (s.slcStatus i)
  else if o = Reg.DSP_STATUS then some (s.dspStatus i)
  else if o = Reg.FOL_SLICE_STATUS then some x.fol.status
  else if o = Reg.FRG_STATUS then some x.frg.status
  else if o = Reg.TBL_STATUS then some x.tbl.status
  else if o = Reg.TBL_VIS then some x.tbl.visWord
  else if o = Reg.TBL_OCC then some x.tbl.occ
  else if o = Reg.TBL_SEED_NEAR0 then some x.tbl.near.seed0
  else if o = Reg.TBL_SEED_NEAR1 then some x.tbl.near.seed1
  else if o = Reg.TBL_SEED_FAR0 then some x.tbl.far.seed0
  else if o = Reg.TBL_SEED_FAR1 then some x.tbl.far.seed1
  else if o = Reg.RMX_STATUS then some (pack x.rmx.cmd.fields)
  else if o = Reg.BPM_STATUS then some (pack x.bpm.cmd.fields)
  else if o = Reg.BPM_RESULT then some x.bpm.result
  else if o = Reg.BPM_FAULT then some x.bpm.fault
  else if o = Reg.BPM_BANK_STATE then some x.bpm.bankWord
  else if o = Reg.BPM_FREE then some x.bpm.freeWord
  else if o = Reg.SCH_STATUS then some x.eg.sch.status
  else if o = Reg.SCH_GCL_PEND then some x.eg.sch.pendWord
  else if o = Reg.SCH_GCL_FOLIO then some x.eg.sch.folioWord
  else if o = Reg.MCL_STATUS then some x.eg.mclStatus
  else if o = Reg.EQX_STATUS then some (pack x.eg.eqxCmd.fields)
  else if o = Reg.TBU_TIME0 then some (s.sliceStamp i).lo
  else if o = Reg.TBU_TIME1 then some x.tbu.time1
  else if o = Reg.TBU_SKEW then some (s.tbuSkew i)
  else if o = Reg.TBU_BOUND then some (word (s.sliceBound i))
  else if o = Reg.CPB_STATUS then some (s.cpbStatus i)
  else if o = Reg.CPB_RUN then some x.cpb.run
  else if o = Reg.CPB_HEAD then some x.cpb.headWord
  else if o = Reg.CPB_SEQ then some x.cpb.seqWord
  else if o = Reg.CPB_FREE then some (word x.cpb.free)
  else if o = Reg.CPB_HOST_NEXT then some (word x.cpb.hostNext)
  else if o = Reg.CPB_SCRIBE_NEXT then some (word x.cpb.scribeNext)
  else if o = Reg.DRM_STATUS then some x.dram.status
  else if o = Reg.DRM_GEOM then some x.dram.geomWord
  else if o = Reg.SEQ_VERSION then some x.seq.version
  else if o = Reg.SEQ_STATUS then some x.seq.status
  else if o = Reg.SEQ_TRAP then some x.seq.trapWord
  else if o = Reg.PMC_SMP_STATUS then some (pack [(44, 32, x.pmc.samples.length), (31, 0, fld (x.reg o) 31 0)])
  else none
/-- Bits that a read shows of a register whose reserved bits are held as written, for a command to judge (R5, R238, R311, R500). -/
def shownMask (o : Nat) : Word :=
  if o = Reg.RMX_VAL + 16 ∨ o = Reg.RMX_CARE + 16 then 0xFFFFFFFF
  else if o = Reg.RMX_CTL then 0xE00000000000FFFF
  else if o = Reg.MCL_DATA0 then 0x800000000000FFFF
  else if o = Reg.EQX_DATA0 then 0x8007FFFF3FFFFFFF
  else 0xFFFFFFFFFFFFFFFF
/-- What the register of a slice block at offset `o` holds; 0 where none lies (R480). -/
def State.peekSlice (s : State) (i : Fin 16) (o : Nat) : Word :=
  match s.computedReg i o with
  | some w => w
  | none => (s.arrayReg i o).getD (s.reg i o &&& shownMask o)

-- Global registers -------------------------------------------------------------------------------------------------

/-- Registers of the time, seal, Folio, host and Scribe blocks whose value is other state. -/
def State.computedGreg (s : State) (o : Nat) : Option Word :=
  if o = Reg.GLB_CLK_STATUS then some s.clkStatus
  else if o = Reg.GLB_HEALTH then some s.healthWord
  else if o = Reg.GLB_RST_STATUS then some s.rstStatus
  else if o = Reg.GLB_STRAPS then some s.straps
  else if o = Reg.XBR_STATUS then some s.xbrStatus
  else if o = Reg.TRF_STATUS then some s.trfStatus
  else if o = Reg.TRF_TIME0 then some s.centralStamp.lo
  else if o = Reg.TRF_TIME1 then some s.trf.time1
  else if o = Reg.TRF_TERMS then some s.trfTerms
  else if o = Reg.TRF_ADDEND then some (word s.trf.addend)
  else if o = Reg.LIG_SEED_STATUS then some s.lig.status
  else if o = Reg.CPB_SEAL_STATUS then some s.sealStatus
  else if o = Reg.CPB_SEAL_NUMBER then some (word s.signer.lastNumber)
  else if o = Reg.CPB_KEY_ID0 then some (if s.keyPresent then word (ofBytesLE (s.keyId.take 8)) else 0)
  else if o = Reg.CPB_KEY_ID1 then some (if s.keyPresent then word (ofBytesLE (s.keyId.drop 8)) else 0)
  else if o = Reg.CPB_CERT_LEN then some (word s.scribe.cert.length)
  else if o = Reg.FOL_STATUS then some s.fol.status
  else if o = Reg.FOL_EPOCH then some s.fol.epochWord
  else if o = Reg.FOL_MON_STATUS then some s.fol.monWord
  else if o = Reg.HST_STATUS then some s.hstStatus
  else if o = Reg.HST_WIN_DATA0 then some (s.greg o &&& winMask0)
  else if o = Reg.HST_WIN_DATA1 then some (s.greg o &&& winMask1)
  else if o = Reg.HST_TAGS then some s.hstTags
  else if o = Reg.PMX_STATUS then some s.pmx.statusWord
  else if o = Reg.SEC_LC then some (word s.scribe.lc)
  else if o = Reg.SEC_STATUS then some s.secStatus
  else if o = Reg.SEC_FW_VERSION then some s.fwVersion
  else if o = Reg.SEC_SERIAL then some Config.serial
  else if o = Reg.SCB_MBX_STATUS then some s.scribe.mbxStatus
  else if o = Reg.TLY_HEAD then some (word s.tally.head)
  else if o = Reg.DFLT_STATUS then some (s.fltStatus 16)
  else if o = Reg.DFLT_HIST_STATUS then some s.flt.histStatus
  else
    ((place? o Reg.CPB_CERT 8 256).map (fun k => word (ofBytesLE ((s.scribe.cert.drop (8 * k)).take 8)))).orElse fun _ =>
    ((place? o Reg.HST_LINK_STATUS 8 4).map (fun l => (s.link l).word)).orElse fun _ =>
    ((place? o 0x82000 8 0x600).map (fun n => s.fltSrcWord 16 (0xA00 + n))).orElse fun _ =>
    (window? o 0x88000 0x20 64).bind (fun p =>
      if p.2 = 0x88000 then some (word (ofBytesLE ((s.flt.entryBytes 64 p.1).take 8)))
      else if p.2 = 0x88008 then some s.flt.latch1
      else if p.2 = 0x88010 then some s.flt.latch2 else none)
/-- What the register of the global block at offset `o` holds, PMX_GPIO.IN aside. -/
def State.peekGlobal (s : State) (o : Nat) : Word := (s.computedGreg o).getD (s.greg o)
/-- PMX_GPIO with IN: a GPIO pin that is driven reads its OUT level, any other the level outside, a free value. -/
def gpioRead (s : State) : Word × State :=
  let w := s.greg Reg.PMX_GPIO
  let d := s.draw
  let drives := fun (k : Nat) => s.pmx.live && bitAt w (16 + k) && (s.pmx.feature k).isNone
  (setFld w 47 32 (sumNat ((List.range 16).map (fun k =>
    if drives k then 2 ^ k * b2n (bitAt w k) else 2 ^ k * (d.1 / 2 ^ k % 2)))), d.2)

/-- The slice whose block holds a register offset, and the offset within its block (Table 20.2). -/
def sliceOf? (off : Nat) : Option (Fin 16 × Nat) :=
  if off < 0x4000000 then some (sl (off / 0x400000), off % 0x400000) else none
/-- A register's value without any effect on it: what Tally latches (R460).  The indirect windows are no registers. -/
def peek (off : Nat) (s : State) : Word × State :=
  match sliceOf? off with
  | some (i, o) => (if o < 0x200000 then s.peekSlice i o else 0, s)
  | none =>
    if off < 0x4100000 then
      if off = 0x4000000 + Reg.PMX_GPIO then gpioRead s else (s.peekGlobal (off - 0x4000000), s)
    else (0, s)

-- Reads by a requester ---------------------------------------------------------------------------------------------

/-- The owner PF of slice `i`, or the Scribe; the device-owner PF may read the register block as well (Table 20.5). -/
def State.mayReadSlice (s : State) (i : Fin 16) (r : Requester) : Bool := s.sliceWriter i r || s.globalWriter r
/-- A register lies at an offset (R480): of the register tables, of a fault unit's sources and history, or of an indirect window. -/
def State.hasReg (_ : State) (off : Nat) : Bool :=
  match sliceOf? off with
  | some (_, o) =>
    (findReg sliceRegs o).isSome || ((place? o 0xF2000 8 0xC00).any (unitHas 0)) ||
    ((window? o 0xF8000 0x20 32).any (fun p => decide (p.2 = 0xF8000 ∨ p.2 = 0xF8008 ∨ p.2 = 0xF8010))) ||
    (decide (0x200000 ≤ o) && !(decide (0x280000 ≤ o) && decide (o < 0x300000)))
  | none =>
    let o := off - 0x4000000
    (findReg globalRegs o).isSome || ((place? o 0x82000 8 0x600).any (fun n => unitHas 16 (0xA00 + n))) ||
    ((window? o 0x88000 0x20 64).any (fun p => decide (p.2 = 0x88000 ∨ p.2 = 0x88008 ∨ p.2 = 0x88010)))
/-- A register answers while the core is in its state (R474): all of them once UP, the reset island while the core is not OFF, and the
registers of the Scribe domain, which are no core registers, always (R408). -/
def State.answers (s : State) (off : Nat) : Bool :=
  s.up || (decide (0x4000000 ≤ off) &&
    (scribeReg (off - 0x4000000) || (islandReg (off - 0x4000000) && decide (s.core ≠ .off))))
/-- RC fields of the part that a read covers are cleared (R6). -/
def cleared (w : Word) (rc : Nat) (h : Half) : Word := w &&& ~~~(word rc &&& halfMask h)
def rcOf (t : List RegDesc) (o : Nat) : Nat := ((findReg t o).map (·.rc)).getD 0
/-- A clearing read of a slice register; a read of LIG_COUNT0 also restarts HIGH_WATER (Table 11.9). -/
def clearSlice (i : Fin 16) (o : Nat) (h : Half) (s : State) : State :=
  let s1 := if rcOf sliceRegs o = 0 then s else s.setReg i o (cleared (s.reg i o) (rcOf sliceRegs o) h)
  match place? o Reg.LIG_COUNT0 8 64 with
  | some k => resetHighWater i k s1
  | none => s1
def clearGlobal (o : Nat) (h : Half) (s : State) : State :=
  if rcOf globalRegs o = 0 then s else s.setGreg o (cleared (s.greg o) (rcOf globalRegs o) h)
/-- PMC_SMP0_READ (R459): the oldest record is removed and its other words are latched. -/
def pmcSmpRead (i : Fin 16) (s : State) : Word × State :=
  let p := (s.slice i).pmc
  let x := p.samples.headD 0
  let p1 : Pmc := { p with samples := p.samples.drop 1, smp1 := word (x / 2 ^ 64), smp2 := word (x / 2 ^ 128), smp3 := word (x / 2 ^ 192) }
  (word x, s.modSlice i (fun y => { y with pmc := p1 }))
/-- A word of the program store or of a scratchpad, 0 in the reserved part (Table 04.3). -/
def State.windowWord (s : State) (i : Fin 16) (o : Nat) : Word :=
  if o < 0x280000 then (s.slice i).instr (bitsOf o 18 18) (o % 0x40000 / 8)
  else if o < 0x300000 then 0
  else word (((s.slice i).cluster (o / 0x10000 % 16)).spadRead (o % 0x10000 / 8 * 8) 8)
/-- A read of a slice register that the requester may make. -/
def readSlice (r : Requester) (i : Fin 16) (o : Nat) (h : Half) (s : State) : Word × State :=
  if 0x200000 ≤ o then (if s.sliceWriter i r then s.windowWord i o else 0, s)
  else if o = Reg.TBU_TIME0 then time0Read (some i) s
  else if o = Reg.PMC_SMP then pmcSmpRead i s
  else if 0xF8000 ≤ o ∧ o < 0xF8400 ∧ o % 0x20 = 0 then fltHistRead i.val ((o - 0xF8000) / 0x20) s
  else (s.peekSlice i o, if s.sliceWriter i r then clearSlice i o h s else s)
/-- A read of a global register; every PF may read them (R482). -/
def readGlobal (r : Requester) (o : Nat) (h : Half) (s : State) : Word × State :=
  if o = Reg.TRF_TIME0 then time0Read none s
  else if o = Reg.PMX_GPIO then gpioRead s
  else if 0x88000 ≤ o ∧ o < 0x88800 ∧ o % 0x20 = 0 then fltHistRead 16 ((o - 0x88000) / 0x20) s
  else (s.peekGlobal o, if s.globalWriter r then clearGlobal o h s else s)
/-- A read of the register at an 8-byte-aligned offset, of part `h` (R2): its value and what the read does. -/
def readReg (r : Requester) (off : Nat) (h : Half) (s : State) : Word × State :=
  if s.answers off then
    match sliceOf? off with
    | some (i, o) => if s.mayReadSlice i r then readSlice r i o h s else (0, s)
    | none => if off < 0x4100000 then readGlobal r (off - 0x4000000) h s else (0, s)
  else (0, s)
/-- The part of a register that an access of `size` bytes at `off` covers: `none` unless it is an aligned 4- or 8-byte access. -/
def accessPart (off size : Nat) : Option Half :=
  if size = 8 ∧ off % 8 = 0 then some .both
  else if size = 4 ∧ off % 8 = 0 then some .low
  else if size = 4 ∧ off % 8 = 4 then some .high
  else none
/-- A value as an access of a part returns it: the upper half in the low 32 bits. -/
def partOf (h : Half) (w : Word) : Word :=
  match h with
  | .both => w
  | .low => word (fld w 31 0)
  | .high => word (fld w 63 32)
/-- Data of an access placed in its part of the register. -/
def toPart (h : Half) (w : Word) : Word :=
  match h with
  | .both => w
  | .low => word (fld w 31 0)
  | .high => word (fld w 31 0 * 2 ^ 32)
/-- An access to a register that does not answer: a Scribe's completes with FENCED (R410, R474). -/
def State.refusesScribe (s : State) (r : Requester) (off : Nat) : Bool := decide (r = .scribe) && !s.answers off
/-- A read of part `h` of a register, answered to its requester. -/
def readAt (r : Requester) (off : Nat) (h : Half) (s : State) : State :=
  if s.refusesScribe r off then s.emit (.fenced off)
  else
    let d := readReg r off h s
    d.2.reply r (if h = .high then off + 4 else off) (partOf h d.1)
/-- RC_FIELD_READ (R2, R6): a read by a requester; an access that is not aligned reads 0, or is a host request without a
translation. -/
def regRead (r : Requester) (off size : Nat) (s : State) : State :=
  match accessPart off size with
  | none => match r with
    | .scribe => s.reply r off 0
    | .pf n => unmapped n.val false s
  | some h => readAt r (off / 8 * 8) h s

end Sys2Proof.Machine
end

