-- ==== Sys2Proof/Machine/Tally.lean ====
section
/-!
DEFINITION. Counter configuration and deferred overflow interrupts (R456, R458), and Tally snapshots (R460 to R462).
-/
namespace Sys2Proof.Machine
open Sys2Proof

/-- PMC_INT_DEFERRED (R456): an overflow interrupt that waited is sent once 10 µs have passed since the last. -/
def pmcIntDeferred (i : Fin 16) (s : State) : State :=
  let p := (s.slice i).pmc
  let due := match p.lastInt with
    | some t => decide (t + 10 * cyclesUs ≤ s.uptime)
    | none => true
  if s.up && p.intWaits && due then pmcInterrupt i (s.modSlice i (fun y => { y with pmc := { y.pmc with intWaits := false } })) else s
/-- A write of PMC_CFG[k] (R458): discarded when it sets SAMPLE for an event other than 0x10 and 0x11, which alone select. -/
def pmcCfgWrite (i : Fin 16) (r : Requester) (k : Nat) (h : Half) (w : Word) (s : State) : State :=
  let new := mergeWrite (s.reg i (pmcCfg k)) w h 0xE0FF00F8FFFFFFFF
  let ev := fld new 55 48
  if s.sliceWriter i r && !(bitAt new 62 && decide (ev ≠ 0x10 ∧ ev ≠ 0x11)) then s.setReg i (pmcCfg k) new else s

-- Tally ------------------------------------------------------------------------------------------------------------

def State.tlyCfg (s : State) : Word := s.greg Reg.TLY_CFG
/-- Slots of the ring, TLY_PERIOD and LIST_LEN as they are used (Table 18.8). -/
def State.tlySlots (s : State) : Nat := 2 ^ min 16 (max 1 (fld s.tlyCfg 56 52))
def State.tlyPeriod (s : State) : Nat := max 5 (min 1000000 (fld (s.greg Reg.TLY_PERIOD) 19 0))
def State.tlyLen (s : State) : Nat := max 1 (min 4096 (fld s.tlyCfg 28 16))
/-- TLY_LIST entry `n`. -/
def State.tlyEntry (s : State) (n : Nat) : Word := s.greg (Reg.TLY_LIST + 8 * n)
/-- A tick falls now (R460). -/
def State.tallyDue (s : State) : Bool :=
  s.atMarker && bitAt s.tlyCfg 63 && decide (s.centralT / 16000 % s.tlyPeriod = 0)
/-- The values latched by a snapshot, in list order: an entry that is not VALID reads 0. -/
def latchList : Nat → Nat → State → List Word × State
  | 0, _, s => ([], s)
  | n + 1, k, s =>
    let e := s.tlyEntry k
    let d := if bitAt e 63 then peek (fld e 26 3 * 8) s else (0, s)
    let rest := latchList n (k + 1) d.2
    (d.1 :: rest.1, rest.2)
def State.modTally (s : State) (f : Tally → Tally) : State := { s with tally := f s.tally }
/-- The link of a PF is frozen (R401). -/
def State.pfFrozen (s : State) (n : Nat) : Bool :=
  match (s.pfn n).link with
  | some l => (s.link l).frozen
  | none => false
/-- A tick must be skipped (R462). -/
def State.tallyBlocked (s : State) : Bool :=
  s.tally.writing.isSome || decide ((s.tally.head + 1) % s.tlySlots = fld (s.greg Reg.TLY_TAIL) 15 0 % s.tlySlots) ||
    s.pfFrozen s.deviceOwner
/-- TALLY_TICK (R460, R462). -/
def tallyTick (s : State) : State :=
  if s.tallyDue then
    if s.tallyBlocked then
      (s.gcount Reg.TLY_COUNT 31 16).modTally (fun t => { t with number := t.number + 1, skipped := true })
    else
      let l := latchList s.tlyLen 0 s
      l.2.modTally (fun t => { t with
        number := t.number + 1, skipped := false,
        writing := some { number := t.number, skipped := t.skipped, time := s.centralStamp, values := l.1 } })
  else s
/-- The header of Table 18.6. -/
def Snapshot.header (x : Snapshot) : List Byte :=
  [0x54, 0x4C, 0x59, 0x53, 1, byte (b2n x.skipped)] ++ bytesLE 2 x.values.length ++ bytesLE 8 x.number ++
    bytesLE 12 x.time.toNat ++ List.replicate 36 0
/-- The snapshot's bytes go to host memory, values first, then the header; they are lost while the PF cannot send. -/
def tallySend (pf a : Nat) (x : Snapshot) (s : State) : State :=
  if s.pfUsable pf then
    (s.emit (.dma pf (a + 64) (x.values.flatMap (fun v => bytesLE 8 v.toNat)))).emit (.dma pf a x.header)
  else s
/-- An EN of 0 written while the snapshot was in progress takes effect (R461). -/
def tallyStopped (s : State) : State :=
  if s.tally.stopping then
    (s.setGreg Reg.TLY_CFG (setFld s.tlyCfg 63 63 0)).modTally (fun t => { t with stopping := false })
  else s
/-- TALLY_SNAPSHOT_DONE (R462): values, then header, then HEAD, then the interrupt; then a written EN of 0 (R461). -/
def tallyDone (s : State) : State :=
  match s.tally.writing with
  | none => s
  | some x =>
    let a := (s.greg Reg.TLY_BASE).toNat + s.tally.head * (64 + 8 * x.values.length)
    let pf := s.deviceOwner
    let s1 := tallySend pf a x s
    let s2 := (s1.modTally (fun t => { t with writing := none, head := (t.head + 1) % s.tlySlots })).gcount Reg.TLY_COUNT 63 32
    tallyStopped (if bitAt s.tlyCfg 62 then s2.msi pf (fld s.tlyCfg 42 32) else s2)

/-- Command registers of a slice block and of the global block (WO registers with an OP field). -/
def sliceCommand (o : Nat) : Bool :=
  [Reg.SLC_CMD, Reg.FRG_CMD, Reg.TBL_CMD, Reg.RMX_CMD, Reg.BPM_CMD, Reg.SCH_CMD, Reg.MCL_CMD, Reg.EQX_CMD, Reg.CPB_CMD,
    Reg.DRM_CMD].contains o || (place? o Reg.PRT_CMD 0x400 64).isSome
def globalCommand (o : Nat) : Bool :=
  [Reg.GLB_RST_CMD, Reg.TRF_CMD, Reg.LIG_SEED_CMD, Reg.FOL_CMD, Reg.HST_CMD, Reg.PMX_CMD, Reg.SCB_MBX_CMD].contains o
/-- A list entry that names this register offset is refused (R461). -/
def tallyBars (off : Nat) : Bool :=
  match sliceOf? off with
  | some (_, o) =>
    decide (0x200000 ≤ o) || sliceCommand o || decide (o = Reg.PMC_SMP) || decide (o = Reg.TBU_TIME0) ||
      (place? o 0xF8000 0x20 32).isSome
  | none =>
    let o := off - 0x4000000
    globalCommand o || decide (o = Reg.TRF_TIME0) || (place? o 0x88000 0x20 64).isSome
/-- TALLY_REG_WRITE (R461): a write of a Tally register by its global-block offset. -/
def tallyWrite (r : Requester) (o : Nat) (h : Half) (w : Word) (s : State) : State :=
  match findReg globalRegs o with
  | none => s
  | some d =>
    let old := s.greg o
    let new := mergeWrite old w h d.rw
    let refuse := s.gcount Reg.TLY_COUNT 15 0
    if !s.globalWriter r || decide (d.rw = 0) then s
    else if o = Reg.TLY_TAIL then s.setGreg o new
    else if o = Reg.TLY_CFG then
      if bitAt old 63 && decide (new ≠ setFld old 63 63 0) then refuse
      else if bitAt old 63 && s.tally.writing.isSome then s.modTally (fun t => { t with stopping := true })
      else
        let s1 := s.setGreg o new
        if bitAt new 63 && !bitAt old 63 then s1.modTally (fun t => { t with head := 0, number := 0, skipped := false }) else s1
    else if bitAt s.tlyCfg 63 then refuse
    else if decide (Reg.TLY_LIST ≤ o) && tallyBars (fld new 26 3 * 8) then refuse
    else s.setGreg o new

end Sys2Proof.Machine
end

