-- ==== Sys2Proof/Machine/RegWrite.lean ====
section
/-!
DEFINITION. Register writes: the fabric that takes them (R2, R3, R406, R474, R483), and the register that each reaches
(Tables 20.3, 20.4).  Registers without a rule of their own take the fields that software writes (R5, R6).
-/
namespace Sys2Proof.Machine
open Sys2Proof

-- The fabric -------------------------------------------------------------------------------------------------------

/-- Register offsets of slice and global registers. -/
def sliceOff (i : Fin 16) (o : Nat) : Nat := 0x400000 * i.val + o
def globalOff (o : Nat) : Nat := 0x4000000 + o
/-- The register at an offset is a command register. -/
def isCommand (off : Nat) : Bool :=
  match sliceOf? off with
  | some (_, o) => sliceCommand o
  | none => globalCommand (off - 0x4000000)
/-- The requester may run the command that `w` names in this command register. -/
def State.mayCommand (s : State) (r : Requester) (off : Nat) (w : Word) : Bool :=
  match sliceOf? off with
  | some (i, o) => if o = Reg.CPB_CMD then decide (r = .scribe) else s.sliceWriter i r
  | none =>
    let o := off - 0x4000000
    if o = Reg.HST_CMD ∧ fld w 3 0 = 4 then s.mayRelease r (fld w 17 16)
    else if o = Reg.GLB_RST_CMD ∧ fld w 3 0 = 3 then decide (r = .scribe)
    else s.globalWriter r
/-- The refused-command counter of a command register (R4). -/
def refuseAt (off : Nat) (s : State) : State :=
  match sliceOf? off with
  | some (i, o) =>
    if o = Reg.TBL_CMD then refuseTbl i s
    else if o = Reg.RMX_CMD then refuseRmx i s
    else if o = Reg.BPM_CMD then refuseBpm i s
    else if o = Reg.SCH_CMD then refuseSch i s
    else if o = Reg.MCL_CMD then s.modEg i (fun e => { e with mclRefused := satN 16 (e.mclRefused + 1) })
    else if o = Reg.CPB_CMD then refuseCpb i s
    else if o = Reg.DRM_CMD then refuseDrm i s
    else refuseSlc i s
  | none =>
    let o := off - 0x4000000
    if o = Reg.TRF_CMD then refuseTrf s
    else if o = Reg.LIG_SEED_CMD then s.gcount Reg.GLB_REFUSED 47 32
    else if o = Reg.PMX_CMD then s.gcount Reg.GLB_REFUSED 31 16
    else if o = Reg.FOL_CMD then refuseFol s
    else if o = Reg.HST_CMD then refuseHst s
    else if o = Reg.SCB_MBX_CMD then s.gcount Reg.SCB_COUNT 15 0
    else refuseRst s
/-- Registers that the Scribe alone writes. -/
def scribeOnly (o : Nat) : Bool :=
  [Reg.HST_PF_MAP, Reg.HST_OWNER_PF, Reg.HST_BAR2_SIZE, Reg.SCB_RING_MAP].contains o || (decide (0x50000 ≤ o) && decide (o < 0x51000))
/-- Two parts of a register share a half. -/
def halvesMeet : Half → Half → Bool
  | .low, .high => false
  | .high, .low => false
  | _, _ => true
-- Plain registers --------------------------------------------------------------------------------------------------

/-- The value that a write leaves: RW fields replaced, W1C bits written as 1 cleared (R6). -/
def RegDesc.after (d : RegDesc) (old w : Word) (h : Half) : Word :=
  mergeWrite old w h d.rw &&& ~~~(w &&& word d.w1c &&& halfMask h)
/-- A write of a slice register by the owner PF or the Scribe. -/
def plainSlice (i : Fin 16) (r : Requester) (o : Nat) (h : Half) (w : Word) (s : State) : State :=
  match findReg sliceRegs o with
  | none => s
  | some d => if s.sliceWriter i r ∧ ¬ (d.rw = 0 ∧ d.w1c = 0) then s.setReg i o (d.after (s.reg i o) w h) else s
/-- A counter that software has written (R455): what events have added to it in this cycle is added to the written value. -/
def pmcCtrWrite (i : Fin 16) (k : Nat) (s : State) : State :=
  let n := NMap.get 0 (s.slice i).pmc.added k
  if n = 0 then s
  else (pmcBump i k n (s.modSlice i (fun y => { y with pmc := { y.pmc with added := NMap.set 0 y.pmc.added k 0 } }))).1
/-- A write of a global register by a requester whose right is `may`. -/
def plainGlobal (may : Bool) (o : Nat) (h : Half) (w : Word) (s : State) : State :=
  match findReg globalRegs o with
  | none => s
  | some d => if may ∧ ¬ (d.rw = 0 ∧ d.w1c = 0) then s.setGreg o (d.after (s.greg o) w h) else s
/-- A write of LIG_SEED_NEXT (Table 11.4), which no requester reads. -/
def seedNextWrite (r : Requester) (h : Half) (w : Word) (s : State) : State :=
  if s.globalWriter r then { s with lig := { s.lig with next := mergeWrite s.lig.next w h 0xFFFFFFFFFFFFFFFF } } else s
/-- Window data, of which WIN_WRITE judges the reserved bits as written (R387). -/
def winDataWrite (r : Requester) (o : Nat) (h : Half) (w : Word) (s : State) : State :=
  if s.globalWriter r then s.setGreg o (mergeWrite (s.greg o) w h 0xFFFFFFFFFFFFFFFF) else s
/-- A write of PMX_GPIO: after the first APPLY (R491) a GPIO pin that starts to be driven, or changes its driven level, shows it, and one
that is no longer driven is released. -/
def gpioWrite (r : Requester) (h : Half) (w : Word) (s : State) : State :=
  if s.globalWriter r then
    let old := s.greg Reg.PMX_GPIO
    let new := mergeWrite old w h 0xFFFFFFFF
    let gpio := fun (k : Nat) => s.pmx.live && (s.pmx.feature k).isNone
    (List.range 16).foldl (fun a k =>
      if gpio k && bitAt new (16 + k) && (!bitAt old (16 + k) || decide (bitAt old k ≠ bitAt new k)) then a.emit (.pin (muxName k) (bitAt new k))
      else if gpio k && bitAt old (16 + k) && !bitAt new (16 + k) then a.emit (.released (muxName k))
      else a) (s.setGreg Reg.PMX_GPIO new)
  else s

-- Slice registers --------------------------------------------------------------------------------------------------

/-- A write of a command register of a slice; its fields lie in a 64-bit write (R3).  `err` is what ECC finds in the row that a
rule matcher command reads. -/
def writeSliceCommand (i : Fin 16) (r : Requester) (o : Nat) (w : Word) (err : Nat) (s : State) : State :=
  if o = Reg.SLC_CMD then slcCommand i r w s
  else if o = Reg.FRG_CMD then frgCommand i r w s
  else if o = Reg.TBL_CMD then tblCommand i r w err s
  else if o = Reg.RMX_CMD then rmxCommand i r w err s
  else if o = Reg.BPM_CMD then pausesAfter i (bpmCommand i r w) s
  else if o = Reg.SCH_CMD then schCommand i r w s
  else if o = Reg.MCL_CMD then mclCommand i r w s
  else if o = Reg.EQX_CMD then eqxCommand i r w s
  else if o = Reg.CPB_CMD then cpbCommand i r w s
  else if o = Reg.DRM_CMD then drmCommand i r w (s.dram i).spd s
  else match place? o Reg.PRT_CMD 0x400 64 with
    | some k => prtCommand i k r w s
    | none => s
/-- FOL_SEED_CTL and the four staging seeds, by number. -/
def folSeedReg (o : Nat) : Option Nat := place? o Reg.FOL_SEED_CTL 8 5
/-- A write of a register of the slice's register block. -/
def writeSliceReg (i : Fin 16) (r : Requester) (o : Nat) (h : Half) (w : Word) (s : State) : State :=
  if o < 0x8000 then
    if o = Reg.PGM_TRAP then pgmTrapWrite i r h w s
    else if o = Reg.FOL_SLICE_STATUS ∨ o = Reg.FOL_SPLIT_COUNT then (if s.sliceWriter i r && s.inStaging then s else refuseFol s)
    else match folSeedReg o with
      | some k => folSliceWrite i r k h w s
      | none => plainSlice i r o h w s
  else if o < 0xC000 then
    match window? o 0x8000 0x40 256 with
    | some (q, x) =>
      if x = Reg.RNG_BASE then rngBaseWrite i r q h w s
      else if x = Reg.RNG_CFG then rngCfgWrite i r q h w s
      else if x = Reg.RNG_TAIL then rngTailWrite i r q h w s
      else plainSlice i r o h w s
    | none => s
  else if 0x10000 ≤ o ∧ o < 0x20000 then
    match window? o 0x10000 0x400 64 with
    | some (k, x) =>
      if x = Reg.PRT_CAL_ADJ then calAdjWrite i k r h w s
      else if x = Reg.PRT_PAUSE then updatePauses i (plainSlice i r o h w s)
      else plainSlice i r o h w s
    | none => s
  else if o = Reg.BPM_PAUSE_CFG ∨ o = Reg.BPM_CFG then updatePauses i (plainSlice i r o h w s)
  else if o = Reg.CPB_CFG then cpbCfgWrite i r h w s
  else match place? o 0xF2000 8 0xC00 with
    | some id => fltSrcWrite r i.val id h w s
    | none => match place? o Reg.RMX_BANK 8 16 with
      | some b => rmxCfgWrite i r false b h w s
      | none => match place? o Reg.RMX_SIGSEL 8 16 with
        | some b => rmxCfgWrite i r true b h w s
        | none => match place? o Reg.LIG_CFG 8 64 with
          | some k => ligCfgWrite i r k h w s
          | none => match place? o Reg.RPL_GROUP0 8 256 with
            | some g => rplGroupWrite i r g false h w s
            | none => match place? o Reg.RPL_GROUP1 8 256 with
              | some g => rplGroupWrite i r g true h w s
              | none => match place? o Reg.PMC_CFG 0x40 16 with
                | some k => pmcCfgWrite i r k h w s
                | none => match place? o Reg.PMC_CTR 0x40 16 with
                  | some k => pmcCtrWrite i k (plainSlice i r o h w s)
                  | none => plainSlice i r o h w s
/-- A write of an indirect window (Table 04.3). -/
def writeWindow (i : Fin 16) (r : Requester) (o : Nat) (h : Half) (w : Word) (s : State) : State :=
  if o < 0x280000 then programWrite i r (bitsOf o 18 18) (o % 0x40000 / 8) h w s
  else if o < 0x300000 then s
  else spadWindow i r (o / 0x10000 % 16) (o % 0x10000 / 8) h (some w) s

-- Global registers -------------------------------------------------------------------------------------------------

def writeGlobalCommand (r : Requester) (o : Nat) (w : Word) (s : State) : State :=
  if o = Reg.GLB_RST_CMD then rstCommand r w s
  else if o = Reg.TRF_CMD then trfCmd r w s
  else if o = Reg.LIG_SEED_CMD then ligSeedCommand r w s
  else if o = Reg.FOL_CMD then folCommand r w s
  else if o = Reg.HST_CMD then hstCommand r w s
  else if o = Reg.PMX_CMD then pmxCommand r w s
  else if o = Reg.SCB_MBX_CMD then scbCommand r w s
  else s
def writeGlobalReg (r : Requester) (o : Nat) (h : Half) (w : Word) (s : State) : State :=
  if o = Reg.GLB_HEALTH then healthWrite r h w s
  else if o = Reg.GLB_RST_STATUS then rstStatusWrite r h w s
  else if o = Reg.GLB_CLK_STATUS then clkStatusWrite r h w s
  else if o = Reg.XBR_PART_MAP then partMapWrite r h w s
  else if o = Reg.TRF_CTRL then trfCtrlWrite r h w s
  else if o = Reg.TRF_BOUND_CFG then boundCfgWrite r h w s
  else if o = Reg.TRF_OFFSET then offsetWrite r h w s
  else if o = Reg.LIG_SEED_NEXT then seedNextWrite r h w s
  else if o = Reg.CPB_SEAL_CFG then sealCfgWrite r h w s
  else if o = Reg.FOL_TIME0 then folTimeWrite r false h w s
  else if o = Reg.FOL_TIME1 then folTimeWrite r true h w s
  else if o = Reg.HST_PF_MAP then plainGlobal (decide (r = .scribe)) o h (w &&& 0xBBBBBBBBBBBBBBBB) s
  else if o = Reg.HST_OWNER_PF ∨ o = Reg.HST_BAR2_SIZE then plainGlobal (decide (r = .scribe)) o h w s
  else if o = Reg.SCB_RING_MAP then plainGlobal (decide (r = .scribe)) o h (w &&& 0xFFFF) s
  else if o = Reg.HST_WIN_DATA0 ∨ o = Reg.HST_WIN_DATA1 then winDataWrite r o h w s
  else if o = Reg.PMX_GPIO then gpioWrite r h w s
  else if o = Reg.SEC_TAMPER_CFG then tamperCfgWrite r h w s
  else if 0x90000 ≤ o then tallyWrite r o h w s
  else match place? o Reg.SCB_MBX_DATA 8 192 with
    | some k => mbxWrite r k h w s
    | none => match place? o 0x82000 8 0x600 with
      | some n => fltSrcWrite r 16 (0xA00 + n) h w s
      | none => plainGlobal (s.globalWriter r) o h w s

/-- What a write of the register at an aligned offset does there; a command register takes 64-bit writes alone (R3). -/
def writeEffect (r : Requester) (off : Nat) (h : Half) (w : Word) (s : State) : State :=
  match sliceOf? off with
  | some (i, o) =>
    if 0x200000 ≤ o then writeWindow i r o h w s
    else if sliceCommand o then (if h = .both then writeSliceCommand i r o w 0 s else s)
    else writeSliceReg i r o h w s
  | none =>
    let o := off - 0x4000000
    if 0x100000 ≤ o then s
    else if globalCommand o then (if h = .both then writeGlobalCommand r o w s else s)
    else writeGlobalReg r o h w s
-- The fabric takes a write ----------------------------------------------------------------------------------------

/-- A write reaches the register at `off`: one lies there (R480), and the requester may write it (R483). -/
def State.reaches (s : State) (r : Requester) (off : Nat) (h : Half) (w : Word) : Bool :=
  s.hasReg off &&
  (if isCommand off then decide (h = .both) && s.mayCommand r off w
   else match sliceOf? off with
     | some (i, _) => s.sliceWriter i r
     | none => if scribeOnly (off - 0x4000000) then decide (r = .scribe) else s.globalWriter r)
/-- What the fabric remembers of a write that reaches a register. -/
def noteWrite (r : Requester) (off : Nat) (h : Half) (w : Word) (s : State) : State :=
  if s.reaches r off h w then { s with writes := { r := r, off := off, h := h, w := w, cycle := s.uptime / 4 } :: s.writes } else s
/-- The write of the other kind of writer, host or Scribe, that reached the same half of the register in this PCLK cycle (R406). -/
def State.collides (s : State) (r : Requester) (off : Nat) (h : Half) (w : Word) : Option FabricWrite :=
  if s.reaches r off h w then
    s.writes.find? (fun x => decide (x.cycle = s.uptime / 4) && decide (x.off = off) && halvesMeet x.h h &&
      decide ((x.r = .scribe) ≠ (r = .scribe)))
  else none
/-- A write at `off`, if the register answers (R474): `f` is the write's effect.  On a collision the host's write applies first and the
Scribe's second, however they fell: a register ends as the Scribe's write leaves it, and of two commands the second is discarded and
counted (R406, log 18). -/
def writeAt (r : Requester) (off : Nat) (h : Half) (w : Word) (f : State → State) (s : State) : State :=
  if s.answers off then
    let s1 := noteWrite r off h w s
    match s.collides r off h w with
    | some x =>
      let s2 := s1.gcount Reg.HST_COUNT1 31 16
      if isCommand off then (if r = .scribe then refuseAt off s2 else f s2)
      else if r = .scribe then f s2
      else writeEffect .scribe off x.h x.w (f s2)
    | none => f s1
  else if s.refusesScribe r off then s.emit (.fenced off)
  else s
/-- A 64-bit write of a command register of slice `i`, or of the global block. -/
def sliceCmd (i : Fin 16) (o : Nat) (r : Requester) (w : Word) (f : State → State) (s : State) : State :=
  writeAt r (sliceOff i o) .both w f s
def globalCmd (o : Nat) (r : Requester) (w : Word) (f : State → State) (s : State) : State :=
  writeAt r (globalOff o) .both w f s
/-- A command word with its OP field set to the row's operation. -/
def withOp (w : Word) (op : Nat) : Word := setFld w 3 0 op
/-- The requester has written GLB_RST_CMD with an operation in this PCLK cycle. -/
def State.rstWritten (s : State) (r : Requester) (op : Nat) : Bool :=
  s.writes.any (fun x => decide (x.cycle = s.uptime / 4 ∧ x.r = r ∧ x.off = globalOff Reg.GLB_RST_CMD ∧ fld x.w 3 0 = op))
/-- GLB_RST_CMD: of a START and a CORE_RESET that one writer sends in one PCLK cycle, CORE_RESET wins, and the START returns
STATE_REFUSED and counts (R471, R7). -/
def rstWrite (r : Requester) (w : Word) (s : State) : State :=
  globalCmd Reg.GLB_RST_CMD r w
    (fun a => if fld w 3 0 = 1 ∧ s.rstWritten r 2 ∧ a.globalWriter r then refuseRst (putRst (CmdReg.take .stateRefused) a)
              else if fld w 3 0 = 2 ∧ s.rstWritten r 1 then refuseRst (rstCommand r w a)
              else rstCommand r w a) s
/-- A write of the register at an 8-byte-aligned offset, of part `h`. -/
def writeReg (r : Requester) (off : Nat) (h : Half) (w : Word) (s : State) : State :=
  if off = globalOff Reg.GLB_RST_CMD ∧ h = .both then rstWrite r w s
  else writeAt r off h w (writeEffect r off h w) s
/-- REGISTER_WRITE (R2): an access that is not an aligned 4-byte or 8-byte one is performed on no register; from a host it is a
request without a translation. -/
def regWrite (r : Requester) (off size : Nat) (data : Word) (s : State) : State :=
  match accessPart off size with
  | none => match r with
    | .scribe => s
    | .pf n => unmapped n.val true s
  | some h => writeReg r (off / 8 * 8) h (toPart h data) s

end Sys2Proof.Machine
end

