-- ==== Sys2Proof/Machine/HostAccess.lean ====
section
/-!
DEFINITION. Requests that a host makes of the device: memory requests to BAR0 and BAR2 through windows (R385 to R388), the
MSI-X table of BAR4 (R479), and configuration space (R382, R383).
-/
namespace Sys2Proof.Machine
open Sys2Proof

-- Completions ------------------------------------------------------------------------------------------------------

/-- What a request meets on its link: `none`, no active link; `some true`, a frozen one (R401). -/
def State.linkFor (s : State) (pf : Nat) : Option (Nat × Bool) :=
  match (s.pfn pf).link with
  | some l => if (s.link l).dlActive then some (l, (s.link l).frozen) else none
  | none => none
/-- A request on a frozen link: counted, a posted one dropped, another completed with Unsupported Request (R401). -/
def frozenRequest (pf l : Nat) (posted : Bool) (s : State) : State :=
  let s1 := s.gcount Reg.HST_COUNT0 (16 * l + 15) (16 * l)
  if posted then s1 else complete pf 1 [] s1

-- Memory requests through windows ----------------------------------------------------------------------------------

/-- The valid entry whose aperture holds the byte, and the request's target address (R385). -/
def State.translate (s : State) (pf bar addr len : Nat) (write : Bool) : Option (Window × Nat) :=
  match ((List.range 64).map (s.window pf)).find? (fun w =>
      w.valid && decide (w.bar = bar) && decide (w.off ≤ addr) && decide (addr < w.off + 2 ^ w.log2)) with
  | none => none
  | some w =>
    let t := w.target + (addr - w.off)
    if decide (w.off + 2 ^ w.log2 < addr + len) || (write && !w.writeEn) || (decide (w.kind = 0) && (accessPart t len).isNone) then none
    else some (w, t)
def isolated (s : State) : State := s.gcount Reg.HST_COUNT2 31 0
/-- The event HOST_ACCESS of a slice (Table 18.1). -/
def hostAccessEvent (i : Fin 16) (pf : Nat) (s : State) : State := pmcEvent i 0x60 1 { src := pf } s
/-- A register request (R386, R481).  A write of the device owner to an indirect window of another slice counts in both counters that
the two rules name (log 19); a request that reaches no register counts nowhere (R480). -/
def hostRegister (pf : Fin 16) (t len : Nat) (data : Option (List Byte)) (s : State) : State :=
  match accessPart t len with
  | none => s
  | some h =>
    let off := t / 8 * 8
    let go := fun (s : State) => match data with
      | some bs => writeReg (.pf pf) off h (toPart h (word (ofBytesLE bs))) s
      | none =>
        let d := readReg (.pf pf) off h s
        complete pf 0 (bytesLE len (partOf h d.1).toNat) d.2
    match sliceOf? off with
    | none => go s
    | some (i, o) =>
      let event := fun (s : State) => if s.hasReg off then hostAccessEvent i pf s else s
      if s.sliceWriter i (.pf pf) then go (event s)
      else if s.globalWriter (.pf pf) then
        if 0x200000 ≤ o then
          match data with
          | some _ => isolated (s.count i Reg.DSP_COUNT1 15 0)
          | none => complete pf 0 (List.replicate len 0) (isolated s)
        else if data.isNone then go (event s)
        else isolated s
      else if data.isNone then complete pf 0 (List.replicate len 0) (isolated s)
      else isolated s
/-- Bytes of the SCR region; one never written since INIT reads 0 (log 33). -/
def Dram.scratchRead (d : Dram) (o n : Nat) : List Byte := (List.range n).map (fun k => NMap.get 0 d.scratch (o + k))
def Dram.scratchWrite (d : Dram) (o : Nat) (bs : List Byte) : Dram :=
  { d with scratch := ((List.range bs.length).foldl (fun m k => NMap.set 0 m (o + k) (byteAt bs k)) d.scratch) }
/-- A scratch request of slice `i` (R386, R388, R356): `err`, the error that the first burst of the read meets: 1 corrected, 2 not
correctable: its bytes are then open (log 2). -/
def hostScratch (pf : Fin 16) (i : Fin 16) (t len : Nat) (data : Option (List Byte)) (err : Nat) (s : State) : State :=
  let d := (s.slice i).dram
  let bursts := ceilDiv (t % 64 + len) 64
  let a := regionAddr d.scr (t / 64 * 64)
  if !s.sliceWriter i (.pf pf) then
    match data with
    | some _ => isolated s
    | none => refuseRead pf 1 (isolated s)
  else if !(s.up && (s.slice i).farReady && regionEn d.scr) then
    match data with
    | some _ => isolated s
    | none => refuseRead pf 2 s
  else
    let s1 := hostAccessEvent i pf s
    match data with
    | some bs => dramWrite i 2 a bursts (s1.modDram i (fun d => d.scratchWrite t bs))
    | none =>
      let s2 := dramEcc i a err (dramRead i 2 a bursts s1)
      if err = 2 then
        let e := s2.draw
        complete pf 3 (overlay (d.scratchRead t len) 0 (bytesLE (min len (64 - t % 64)) e.1)) e.2
      else complete pf 0 (d.scratchRead t len) s2
/-- HOST_REQUEST (R385): a memory read of `len` bytes, or a write of `data`, at a byte of BAR0 (`bar` 0) or BAR2 (`bar` 1). -/
def hostRequest (pf : Fin 16) (bar addr len : Nat) (data : Option (List Byte)) (err : Nat) (s : State) : State :=
  let n := match data with
    | some bs => bs.length
    | none => len
  match s.linkFor pf with
  | none => s
  | some (l, true) => frozenRequest pf l data.isSome s
  | some (_, false) =>
    if (s.pfn pf).mse && !(s.pfn pf).d3 then
      match s.translate pf bar addr n data.isSome with
      | none => unmapped pf data.isSome s
      | some (w, t) => if w.kind = 0 then hostRegister pf t n data s else hostScratch pf (sl w.slice) t n data err s
    else if data.isSome then s
    else refuseRead pf 1 s

-- BAR4 (R479) ------------------------------------------------------------------------------------------------------

/-- Table entry `v` as 16 bytes (MSI-X of PCI Express): address, data, vector control. -/
def Vec.bytes (v : Vec) : List Byte := bytesLE 8 v.addr.toNat ++ bytesLE 4 v.data ++ bytesLE 4 (b2n v.masked)
def Vec.ofBytes (bs : List Byte) (pending : Bool) : Vec :=
  { addr := word (ofBytesLE (slice bs 0 8) / 4 * 4), data := ofBytesLE (slice bs 8 4), masked := bitAt (word (ofBytesLE (slice bs 12 4))) 0,
    pending := pending }
/-- Pending messages of a PF that are no longer masked are sent. -/
def sendPending (pf : Nat) (s : State) : State :=
  (s.pfn pf).vecs.foldl (fun a e =>
    let p := a.pfn pf
    let v := p.vec e.1
    if v.pending && !v.masked && p.msixOn && !p.msixMask && a.pfUsable pf then
      (a.modPf pf (fun p => p.setVec e.1 { v with pending := false })).emit (.msix pf e.1)
    else a) s
/-- 8 bytes of the pending-bit array. -/
def Pf.pba (p : Pf) (k : Nat) : Nat := sumNat ((List.range 64).map (fun j => if (p.vec (64 * k + j)).pending then 2 ^ j else 0))
def Pf.bar4Read (p : Pf) (off len : Nat) : List Byte :=
  if off < 0x8000 then slice (p.vec (off / 16)).bytes (off % 16) len
  else if off < 0x8100 then slice (bytesLE 8 (p.pba ((off - 0x8000) / 8))) (off % 8) len
  else List.replicate len 0
/-- MSIX_ACCESS (R479): an aligned 4- or 8-byte access of the table or the array of BAR4.  PCI Express leaves any other undefined: it
reads a free value and writes nothing (log 17).  The bytes above the array read 0. -/
def msixAccess (pf : Fin 16) (off len : Nat) (data : Option (List Byte)) (s : State) : State :=
  let n := match data with
    | some bs => bs.length
    | none => len
  match s.linkFor pf with
  | none => s
  | some (l, true) => frozenRequest pf l data.isSome s
  | some (_, false) =>
    if (s.pfn pf).mse && !(s.pfn pf).d3 then
      match data with
      | none =>
        if (accessPart off n).isSome || decide (0x8100 ≤ off) then complete pf 0 ((s.pfn pf).bar4Read off n) s
        else
          let d := s.draw
          complete pf 0 (bytesLE n d.1) d.2
      | some bs =>
        if (accessPart off n).isSome && decide (off < 0x8000) then
          let v := (s.pfn pf).vec (off / 16)
          sendPending pf (s.modPf pf (fun p => p.setVec (off / 16) (Vec.ofBytes (overlay v.bytes (off % 16) bs) v.pending)))
        else s
    else if data.isSome then s
    else refuseRead pf 1 s

-- Configuration space (R382, R383) ---------------------------------------------------------------------------------

/-- PF `p` is function 0 of its link (R381). -/
def State.isFn0 (s : State) (p : Nat) : Bool :=
  match (s.pfn p).link with
  | some l => decide ((s.pfsOf l).head? = some p)
  | none => false
/-- A dword built from (high, low, value) fields. -/
def dword (fs : List (Nat × Nat × Nat)) : Nat := (pack fs).toNat
/-- Header of an extended capability: identifier, version, next. -/
def extCap (id ver next : Nat) : Nat := dword [(31, 20, next), (19, 16, ver), (15, 0, id)]
/-- Bits of a configuration dword that software writes and the model keeps as written, and their reset value (PCI Express;
log 17). -/
def cfgKept (o : Nat) : Nat :=
  if o = 0x04 then 0x540 else if o = 0x0C then 0xFF else if o = 0x3C then 0xFF else if o = 0x78 then 0x79FF else if o = 0x80 then 0xFFB
  else if o = 0x98 then 0x1000 else if o = 0x108 ∨ o = 0x10C then 0x5FFFF030 else if o = 0x114 then 0xF1C1
  else if o = 0x118 then 0x140 else 0
def cfgReset (o : Nat) : Nat :=
  if o = 0x78 then 0x2810 else if o = 0x10C then 0x462030 else if o = 0x114 then 0x6000 else 0
def Pf.kept (p : Pf) (o : Nat) : Nat := NMap.get (cfgReset o) p.cfg o
/-- VSEC bytes 0x08 to 0x0F (R383). -/
def State.vsec (s : State) (p : Nat) : List Byte :=
  [byte p, byte ((s.pfn p).link.getD 0), byte (b2n (decide (p = s.deviceOwner))), 0] ++
    bytesLE 2 (sumNat ((s.slicesOf p).map (fun i => 2 ^ i.val))) ++ [byte (s.pfn p).bar2Size, 0]
/-- The dwords of Tables 15.2 and 15.3 whose value the model holds; `none` where only PCI Express gives the content. -/
def State.cfgFixed (s : State) (p o : Nat) : Option Nat :=
  let f := s.pfn p
  let fn0 := s.isFn0 p
  let l := f.link.getD 0
  let many := decide (1 < (s.pfsOf l).length)
  let next := ((s.pfsOf l).find? (fun q => decide (p < q))).map (fun q => (s.pfsOf l).findIdx (fun x => decide (x = q)))
  let link := s.link l
  if o = 0x00 then some 0x04001F4B
  else if o = 0x04 then some (f.kept 4 + 2 * b2n f.mse + 4 * b2n f.bme + 2 ^ 20 + f.status)
  else if o = 0x08 then some 0x028000B0
  else if o = 0x0C then some (f.kept 0x0C + (if fn0 && many then 0x800000 else 0))
  else if o = 0x10 then some (f.bar0 % 2 ^ 32 + 4)
  else if o = 0x14 then some (f.bar0 / 2 ^ 32)
  else if o = 0x18 then some (if f.bar2Size = 0 then 0 else f.bar2 % 2 ^ 32 + 12)
  else if o = 0x1C then some (if f.bar2Size = 0 then 0 else f.bar2 / 2 ^ 32)
  else if o = 0x20 then some (f.bar4 % 2 ^ 32 + 4)
  else if o = 0x24 then some (f.bar4 / 2 ^ 32)
  else if o = 0x2C then some (Config.subsystem % 2 ^ 32)
  else if o = 0x34 then some 0x40
  else if o = 0x40 then some 0x00035001
  else if o = 0x44 then some (8 + 3 * b2n f.d3)
  else if o = 0x50 then some (0x07FF7011 + 2 ^ 30 * b2n f.msixMask + 2 ^ 31 * b2n f.msixOn)
  else if o = 0x54 then some 4
  else if o = 0x58 then some 0x8004
  else if o = 0x70 then some 0x00020010
  else if o = 0x74 then some 0x10008022
  else if o = 0x80 then some (f.kept 0x80 + dword [(25, 20, link.width), (19, 16, link.speed)])
  else if o = 0x94 then some 0x30000
  else if o = 0x100 then some (extCap 1 2 0x148)
  else if o = 0x104 then some f.aer
  else if o = 0x118 then some (f.kept 0x118 + 0xA0)
  else if o = 0x148 then some (extCap 3 1 0x158)
  else if o = 0x14C then some (fld Config.serial 31 0)
  else if o = 0x150 then some (fld Config.serial 63 32)
  else if o = 0x158 then some (extCap 0xE 1 (if fn0 then 0x160 else 0x280))
  else if o = 0x15C then some (256 * next.getD 0)
  else if o = 0x280 then some (extCap 0xB 1 0)
  else if o = 0x284 then some 0x01010001
  else if o = 0x288 then some (ofBytesLE ((s.vsec p).take 4))
  else if o = 0x28C then some (ofBytesLE ((s.vsec p).drop 4))
  else if cfgKept o ≠ 0 then some (f.kept o)
  else if 0x160 ≤ o ∧ o < 0x280 ∧ fn0 then
    if o = 0x160 then some (extCap 0x19 1 0x190)
    else if o = 0x190 then some (extCap 0x25 1 0x1A0)
    else if o = 0x1A0 then some (extCap 0x26 1 0x1D0)
    else if o = 0x1D0 then some (extCap 0x2A 1 0x200)
    else if o = 0x200 then some (extCap 0x31 1 0x220)
    else if o = 0x220 then some (extCap 0x27 1 0x280)
    else none
  else if (0x7C ≤ o ∧ o < 0xB0) ∨ (0x110 ≤ o ∧ o < 0x148) then none
  else some 0
/-- The bits of Link Capabilities and Link Capabilities 2 that Table 15.1 settles, as (mask, value): the highest rate, the width of the
bifurcation, ASPM L1 without L0s; the rates 2.5 to 64 GT/s. -/
def State.cfgPartly (s : State) (o : Nat) : Nat × Nat :=
  if o = 0x7C then (0xFFF, dword [(11, 10, 2), (9, 4, 16 / s.nLinks), (3, 0, 6)])
  else if o = 0x9C then (0xFF, 0x7E)
  else (0, 0)
/-- Bytes of a dword that the byte enables cover. -/
def beMask (be : BitVec 4) : Nat := sumNat ((List.range 4).map (fun k => if be.toNat / 2 ^ k % 2 = 1 then 255 * 256 ^ k else 0))
/-- The low 32 bits of two dwords merged: bits of `m` from `new`. -/
def mergeDword (old new m : Nat) : Nat := ((word old &&& ~~~ word m) ||| (word new &&& word m)).toNat
/-- A BAR half written: bits below the size stay 0. -/
def barWrite (old : Nat) (high : Bool) (new m size : Nat) : Nat :=
  (if high then old % 2 ^ 32 + 2 ^ 32 * mergeDword (old / 2 ^ 32) new m
   else old / 2 ^ 32 * 2 ^ 32 + mergeDword (old % 2 ^ 32) new m) / size * size
/-- A write of configuration dword `o` under the byte mask `m`. -/
def cfgWrite (pf o m new : Nat) (s : State) : State :=
  let p := s.pfn pf
  let w := word new &&& word m
  let has := fun (k : Nat) => m / 2 ^ k % 2 == 1
  let keep := fun (p : Pf) => { p with cfg := NMap.set (cfgReset o) p.cfg o (mergeDword (p.kept o) new (word m &&& word (cfgKept o)).toNat) }
  if o = 0x04 then
    s.modPf pf (fun p => { keep p with
      status := (word p.status &&& ~~~ (w &&& 0xF9000000)).toNat, mse := if has 1 then bitAt w 1 else p.mse, bme := if has 2 then bitAt w 2 else p.bme })
  else if o = 0x10 ∨ o = 0x14 then s.modPf pf (fun p => { p with bar0 := barWrite p.bar0 (decide (o = 0x14)) new m (2 ^ 27) })
  else if o = 0x18 ∨ o = 0x1C then
    if p.bar2Size = 0 then s
    else s.modPf pf (fun p => { p with bar2 := barWrite p.bar2 (decide (o = 0x1C)) new m (2 ^ (25 + p.bar2Size)) })
  else if o = 0x20 ∨ o = 0x24 then s.modPf pf (fun p => { p with bar4 := barWrite p.bar4 (decide (o = 0x24)) new m (2 ^ 16) })
  else if o = 0x44 then
    let d := fld w 1 0
    if has 0 ∧ (d = 0 ∨ d = 3) then s.modPf pf (fun p => { p with d3 := decide (d = 3) }) else s
  else if o = 0x50 then
    if has 31 then sendPending pf (s.modPf pf (fun p => { p with msixMask := bitAt w 30, msixOn := bitAt w 31 })) else s
  else if o = 0x104 then s.modPf pf (fun p => { p with aer := (word p.aer &&& ~~~w).toNat })
  else if o = 0x78 then
    let s1 := s.modPf pf keep
    if bitAt w 15 then flr pf s1 else s1
  else if cfgKept o ≠ 0 then s.modPf pf keep
  else s
/-- CONFIGURATION_REQUEST (R382, R383): a read of the dword that holds byte `off`, or a write of its enabled bytes. -/
def configRequest (pf : Fin 16) (off : Nat) (data : Option (BitVec 4 × BitVec 32)) (s : State) : State :=
  let o := off % 4096 / 4 * 4
  match s.linkFor pf with
  | none => s
  | some (l, true) => frozenRequest pf l false s
  | some (_, false) =>
    match data with
    | some (be, v) => complete pf 0 [] (cfgWrite pf o (beMask be) v.toNat s)
    | none => match s.cfgFixed pf o with
      | some v => complete pf 0 (bytesLE 4 v) s
      | none =>
        let d := s.draw
        complete pf 0 (bytesLE 4 (mergeDword d.1 (s.cfgPartly o).2 (s.cfgPartly o).1)) d.2

end Sys2Proof.Machine
end

