-- ==== Sys2Proof/Machine/ScribeRegs.lean ====
section
/-!
DEFINITION. Scribe opcodes that reach registers, fault histories and Copybook blocks (R2, R410, R429, R331).
-/
namespace Sys2Proof.Machine
open Sys2Proof

/-- The register is held by the core domain and does not answer now (R410, R474). -/
def State.coreFenced (s : State) (off : Nat) : Bool :=
  !s.answers off && !(decide (0x4000000 ≤ off) && scribeReg (off - 0x4000000))
/-- `n` registers read one after another by the Scribe. -/
def readRegs : Nat → Nat → State → List Byte × State
  | 0, _, s => ([], s)
  | n + 1, off, s =>
    let d := readReg .scribe off .both s
    let rest := readRegs n (off + 8) d.2
    (bytesLE 8 d.1.toNat ++ rest.1, rest.2)
/-- REG_READ (R2, R410). -/
def opRegRead (_ : Nat) (p : List Byte) (s : State) : CmdStatus × List Byte × State :=
  let off := ofBytesLE (slice p 0 8)
  let n := ofBytesLE (slice p 8 2)
  if p.length ≠ 10 ∨ off % 8 ≠ 0 ∨ n = 0 ∨ 128 < n then (.badArg, [], s)
  else if (List.range n).any (fun k => s.coreFenced (off + 8 * k)) then (.fenced, [], s)
  else
    let d := readRegs n off s
    (.ok, d.1, d.2)
/-- REG_WRITE (R2, R410). -/
def opRegWrite (_ : Nat) (p : List Byte) (s : State) : CmdStatus × List Byte × State :=
  let off := ofBytesLE (slice p 0 8)
  let n := (byteAt p 16).toNat
  if p.length ≠ 17 ∨ (n ≠ 4 ∧ n ≠ 8) ∨ off % n ≠ 0 then (.badArg, [], s)
  else if s.coreFenced (off / 8 * 8) then (.fenced, [], s)
  else (.ok, [], regWrite .scribe off n (word (ofBytesLE (slice p 8 8))) s)
/-- A FAULT_READ of a unit completes: it no longer holds ALERT_N low (R430). -/
def clearAlert (u : Nat) (s : State) : State :=
  let rest := s.scribe.alert.filter (· ≠ u)
  let s1 := s.modScribe (fun c => { c with alert := rest })
  if rest.isEmpty && !s.scribe.alert.isEmpty then s1.emit (.pin "ALERT_N" true) else s1
/-- FAULT_READ (R449): the unit's history, oldest first.  The device's history outlives a core reset and is read before START (R447); the
slices' belongs to the core domain (Table 16.7). -/
def opFaultRead (_ : Nat) (p : List Byte) (s : State) : CmdStatus × List Byte × State :=
  let u := (byteAt p 0).toNat
  if p.length ≠ 1 ∨ 16 < u then (.badArg, [], s)
  else if !s.up && decide (u < 16) then (.fenced, [], s)
  else (.ok, (s.fu u).hist.reverse.flatMap HistEntry.bytes, clearAlert u s)
/-- The bytes of a block as its bursts of `len` bytes from `off` return them: whether a burst meets an ECC error, and which, is open
(R356, log 126). -/
def cpbReadBursts (i : Fin 16) (b : Block) (off len : Nat) (s : State) : List Byte × State :=
  let d := (ringRead i (b.place + off / 64 * 64) (off % 64 + len) s).draw
  let e := d.2.draw
  if d.1 % 3 = 2 then badBursts i b.place (b.bytes i) [off / 64 + e.1 % ceilDiv (off % 64 + len) 64] e.2
  else if d.1 % 3 = 1 then (b.bytes i, e.2.count i Reg.DRM_COUNT0 63 48)
  else (b.bytes i, e.2)
/-- CPB_READ (Table 16.6): bytes of a block of the current run that lies closed in the ring.  Outside READY the channel serves no
requester (R362); the status that the request then takes is the model's choice (log 126). -/
def opCpbRead (_ : Nat) (p : List Byte) (s : State) : CmdStatus × List Byte × State :=
  let i := sl (byteAt p 0).toNat
  let n := ofBytesLE (slice p 1 8)
  let len := ofBytesLE (slice p 13 2)
  if p.length ≠ 15 ∨ 16 ≤ (byteAt p 0).toNat ∨ len = 0 ∨ 1280 < len then (.badArg, [], s)
  else if !s.up then (.fenced, [], s)
  else match (s.cpb i).blocks.find? (fun b => decide (b.number = n ∧ b.run = (s.cpb i).run)) with
    | none => (.notFound, [], s)
    | some b =>
      let off := ofBytesLE (slice p 9 4)
      if b.size < off + len then (.badArg, [], s)
      else if !(s.slice i).farReady then (.timeout, [], s)
      else
        let f := cpbReadBursts i b off len s
        (.ok, slice f.1 off len, f.2)
/-- CPB_RELEASE: SCRIBE_RELEASE with the block number as CPB_ARG (R331). -/
def opCpbRelease (_ : Nat) (p : List Byte) (s : State) : CmdStatus × List Byte × State :=
  let i := sl (byteAt p 0).toNat
  if p.length ≠ 9 ∨ 16 ≤ (byteAt p 0).toNat then (.badArg, [], s)
  else if !s.up then (.fenced, [], s)
  else
    let r := scribeRelease i (s.setReg i Reg.CPB_ARG (word (ofBytesLE (slice p 1 8))))
    (r.1, [], if r.1 = .stateRefused then refuseCpb i r.2 else r.2)

end Sys2Proof.Machine
end

