-- ==== Sys2Proof/Machine/Tick.lean ====
section
/-!
DEFINITION. One CCLK cycle of the device when no command waits: time, the top-down slots of every Quill (R457), and what the
steps of device time do to every slice (R55).
-/
namespace Sys2Proof.Machine
open Sys2Proof

-- Top-down slots (R457) --------------------------------------------------------------------------------------------

/-- The cause under which a back-starved slot of a Quill is counted, as its event: the first that applies to any thread, ICACHE, UNIT,
SPAD (each thread comes with whether a bank conflict stalls it), INTERLOCK, TAG. -/
def starvedCause (ths : List (Thread × Bool)) : Nat :=
  if ths.any (fun t => decide (t.1.hold = .icache)) then 0x15
  else if ths.any (fun t => t.1.firstAt.isNone) then 0x16
  else if ths.any (·.2) then 0x14
  else if ths.any (fun t => decide (t.1.hold = .none)) then 0x13
  else 0x12
/-- A scratchpad bank conflict stalls the thread in a cycle (R127). -/
def Slice.spadHeld (x : Slice) (t cycle : Nat) : Bool := decide (cycle ≤ NMap.get 0 (x.cluster (t / 64)).stalled t) && (x.cluster (t / 64)).stalled.any (fun e => decide (e.1 = t))
/-- The threads that hold packets, by Quill: key = 32 · cluster + Quill. -/
def Slice.quills (x : Slice) (cycle : Nat) : List (Nat × List (Thread × Bool)) :=
  ((x.threads.map (fun e => e.1 / 2)).eraseDups).map (fun q =>
    (q, (x.threads.filter (fun e => decide (e.1 / 2 = q))).map (fun e => (e.2, x.spadHeld e.1 cycle))))
/-- The slots of one cycle in which a Quill holds a packet and issues nothing. -/
def backSlots (i : Fin 16) (s : State) : State :=
  (((s.slice i).quills s.cycle).filter (fun q => !s.slotUsed i q.1)).foldl (fun a q =>
    let c := q.1 / 32
    let a1 := a.modSlice i (fun y => { y with pmc := { y.pmc with back := slotCount y.pmc.back c 1 } })
    pmcEvent i (starvedCause q.2) 1 { cluster := c } a1) s
/-- One slice's cycle: CYCLES (Table 18.1) and its slots, the samples that complete, and the record that the buffer takes. -/
def tickSlice (s : State) (i : Fin 16) : State :=
  (sampleDrain i (syncDone i (backSlots i (pmcEvent i 0x01 1 {} s)))).modSlice i (fun x => { x with pmc := { x.pmc with added := [] } })
/-- One CCLK cycle (log 1).  A PCLK cycle is four of them: the fabric then forgets the writes it took. -/
def tick (s : State) : State :=
  let s1 := settleFaults (if s.up then tickTime ((List.finRange 16).foldl tickSlice s) else s)
  ageWrite (pulsesFall (s.uptime + 1) { s1 with uptime := s.uptime + 1 })

-- Steps of device time (R55) ---------------------------------------------------------------------------------------

/-- Every slice meets a step of device time from `before` it: a Folio switch whose T the step passed is made at the step (R344), and so is
what its egress side does (R281, R293, R294, R308). -/
def stepSlices (before s : State) : State := (List.finRange 16).foldl (fun a i => egressStep i (before.sliceT i) (folioSwitch i a)) s
/-- TOD_LOAD_APPLY: a load is a step (R67). -/
def todStep (s : State) : State :=
  let s1 := todApply s
  if s.trf.todPending.isSome && s1.trf.todPending.isNone then stepSlices s s1 else s1
/-- SERVO_STEP_APPLY. -/
def servoStep (s : State) : State :=
  let s1 := servoStepApply s
  if s.trf.stepPending.isSome && s1.trf.stepPending.isNone then stepSlices s s1 else s1
/-- TIME_MARKER: checks of every slice, and configuration that applies at a marker (R61, R332). -/
def markerIssue (lost : BitVec 16) (late : List Nat) (s : State) : State :=
  if s.atMarker ∧ s.lastMarker ≠ some s.uptime then sealMarker (timeMarker lost late s) else s

-- Blocks and channels (R322, R325, R217) ---------------------------------------------------------------------------

/-- BLOCK_CLOSE_DONE, with the block's bursts into the channel. -/
def blockClosed (i : Fin 16) (s : State) : State :=
  match (s.cpb i).closing with
  | [] => s
  | b :: _ =>
    if (s.slice i).farReady && (s.slice i).seqRuns then
      blockCloseDone i (ringWrite i b.place b.size s)
    else s
/-- BLOCK_DRAIN_DMA, with the bursts that read the block. -/
def blockDrained (i : Fin 16) (fixed bad : List Nat) (s : State) : State :=
  let s1 := blockDrain i fixed bad s
  match (s.cpb i).blocks.find? (fun b => decide ((s.cpb i).hostNext ≤ b.number)) with
  | some b =>
    if (s.cpb i).hostNext < (s1.cpb i).hostNext then
      ringRead i b.place b.size s1
    else s1
  | none => s1

end Sys2Proof.Machine
end

