-- ==== Sys2Proof/Machine/Answer.lean ====
section
/-!
DEFINITION. How a command answers: its next state, once the fault reactions that it brought about have taken effect; and the
accesses that several rows share.
-/
namespace Sys2Proof.Machine
open Sys2Proof

/-- What a command answers. -/
abbrev Answer := Host.Outcome State Fault Refusal
/-- The next state of a command whose own effect leaves `s`. -/
def done (s : State) : Answer := .next (settle s)
/-- An event of the core domain: nothing of it happens while the core is not UP (R474). -/
def whenUp (f : State → State) (s : State) : State := if s.up then f s else s

/-- SPAD_WINDOW_ACCESS (R134): a write of `data`, or a read, of word `n` of cluster `c`'s scratchpad by the window. -/
def spadAccess (i : Fin 16) (r : Requester) (c n : Nat) (h : Half) (data : Option Word) (s : State) : State :=
  let off := sliceOff i (0x300000 + 0x10000 * c + 8 * n)
  match data with
  | none => readAt r off h s
  | some w => writeAt r off h w (spadWindow i r c n h (some w)) s
/-- TIME0_READ (R77): of a slice's TBU_TIME0, or of TRF_TIME0. -/
def time0At (r : Requester) (unit : Option (Fin 16)) (h : Half) (s : State) : State :=
  match unit with
  | some i => readAt r (sliceOff i Reg.TBU_TIME0) h s
  | none => readAt r (globalOff Reg.TRF_TIME0) h s
/-- SCRIBE_WATCHDOG_EXPIRY (R409): firmware that runs no longer starts the watchdog again. -/
def scribeWatchdog (s : State) : State := if s.scribe.booted then scribeReset s else s
/-- An LC_TRANSITION request names the state with this number. -/
def targets (k : Nat) (payload : List Byte) : Bool := decide (byteAt payload 0 = byte k)
/-- FAULT_RAISE: the sources outside the core domain have their own conditions (Table 17.5). -/
def faultEvent (u id syn : Nat) (s : State) : State :=
  if id = 0xE00 then rootPllLoss s
  else if id = 0xE01 then thermalTrip syn s
  else if id = 0xE02 then coreRailLow syn s
  else whenUp (faultRaise u id syn) s
/-- FLT_SRC of source `id` in a slice's fault unit, or in the device fault unit, whose numbers begin at 0xA00. -/
def fltSrcOff (u id : Nat) : Nat :=
  if u < 16 then sliceOff (sl u) (0xF2000 + 8 * id) else globalOff (0x82000 + 8 * (id - 0xA00))
def fltWriteAt (r : Requester) (u id : Nat) (h : Half) (w : Word) (s : State) : State :=
  writeAt r (fltSrcOff u id) h w (fltSrcWrite r u id h w) s
/-- FLT_HIST0 of an entry of a unit's history. -/
def fltHistAt (r : Requester) (u e : Nat) (h : Half) (s : State) : State :=
  readAt r (if u < 16 then sliceOff (sl u) (0xF8000 + 0x20 * (e % 32)) else globalOff (0x88000 + 0x20 * e)) h s

end Sys2Proof.Machine
end

