-- ==== Sys2Proof/Machine/ExecEgress.lean ====
section
/-!
DEFINITION. The meanings of the command rows of the scheduler, the merger, Ligature, the seeds and the equalizer: one definition per row.
-/
namespace Sys2Proof.Machine
open Sys2Proof

/-- SCH_READ (R283): SCH_CMD operation reading an entry of a bank or gate list. -/
def execSchRead (i : Fin 16) (r : Requester) (w : Word) (s : State) : Answer :=
  done (sliceCmd i Reg.SCH_CMD r (withOp w 1) (schCommand i r (withOp w 1)) s)
/-- SCH_WRITE (R283): SCH_CMD operation writing a staging or PENDING entry. -/
def execSchWrite (i : Fin 16) (r : Requester) (w : Word) (s : State) : Answer :=
  done (sliceCmd i Reg.SCH_CMD r (withOp w 2) (schCommand i r (withOp w 2)) s)
/-- SCH_COPY (R283): SCH_CMD operation making staging scheduler entries equal to active. -/
def execSchCopy (i : Fin 16) (r : Requester) (w : Word) (s : State) : Answer :=
  done (sliceCmd i Reg.SCH_CMD r (withOp w 3) (schCommand i r (withOp w 3)) s)
/-- GCL_SWITCH (R281): SCH_CMD operation scheduling a gate list switch at a time or at the pending commit. -/
def execGclSwitch (i : Fin 16) (r : Requester) (w : Word) (s : State) : Answer :=
  done (sliceCmd i Reg.SCH_CMD r (withOp w 4) (schCommand i r (withOp w 4)) s)
/-- GCL_CANCEL (R283): SCH_CMD operation removing a scheduled gate list switch. -/
def execGclCancel (i : Fin 16) (r : Requester) (w : Word) (s : State) : Answer :=
  done (sliceCmd i Reg.SCH_CMD r (withOp w 5) (schCommand i r (withOp w 5)) s)
/-- GCL_SWITCH_TIME (R281): Slice time reaches SWITCH_TIME and the PENDING gate list becomes ACTIVE. -/
def execGclSwitchTime (i : Fin 16) (s : State) : Answer :=
  done (whenUp (gclSwitchTime i) s)
/-- GATE_BOUNDARY (R279): Slice time reaches a gate list interval boundary and the gates change state. -/
def execGateBoundary (i : Fin 16) (l : Fin 64) (s : State) : Answer :=
  done (whenUp (gateBoundary i l.val) s)
/-- MCL_READ (R500): MCL_CMD operation reading a multicast list entry. -/
def execMclRead (i : Fin 16) (r : Requester) (w : Word) (s : State) : Answer :=
  done (sliceCmd i Reg.MCL_CMD r (withOp w 1) (mclCommand i r (withOp w 1)) s)
/-- MCL_WRITE (R500): MCL_CMD operation writing a multicast list entry. -/
def execMclWrite (i : Fin 16) (r : Requester) (w : Word) (s : State) : Answer :=
  done (sliceCmd i Reg.MCL_CMD r (withOp w 2) (mclCommand i r (withOp w 2)) s)
/-- MERGE_ENTRY_DUE (R288): Egress slice time reaches TS + H and a merge entry becomes due. -/
def execMergeEntryDue (i : Fin 16) (l : Fin 64) (s : State) : Answer :=
  done (whenUp (portStart i l.val) s)
/-- LIG_CFG_WRITE (R310): A write of a merge port's configuration is applied or discarded and counted. -/
def execLigCfgWrite (i : Fin 16) (r : Requester) (l : Fin 64) (h : Half) (w : Word) (s : State) : Answer :=
  done (writeAt r (sliceOff i (Reg.LIG_CFG + 8 * l.val)) h w (ligCfgWrite i r l.val h w) s)
/-- SCHEDULE (R300): LIG_SEED_CMD operation scheduling the next Ligature seed at SWITCH_TIME. -/
def execSchedule (r : Requester) (w : Word) (s : State) : Answer :=
  done (globalCmd Reg.LIG_SEED_CMD r (withOp w 1) (ligSeedCommand r (withOp w 1)) s)
/-- CANCEL (R300): LIG_SEED_CMD operation cancelling a pending seed switch. -/
def execCancel (r : Requester) (w : Word) (s : State) : Answer :=
  done (globalCmd Reg.LIG_SEED_CMD r (withOp w 2) (ligSeedCommand r (withOp w 2)) s)
/-- SEED_SWITCH (R300): SWITCH_TIME is reached and the next seed takes force with CUR_EPOCH incremented. -/
def execSeedSwitch (s : State) : Answer :=
  done (whenUp (seedSwitch) s)
/-- SEED_ERASE (R300): A slice erases the previous seed once 10 µs have passed and no earlier packet is uncommitted. -/
def execSeedErase (i : Fin 16) (s : State) : Answer :=
  done (whenUp (seedErase i) s)
/-- EQX_READ (R311): EQX_CMD operation reading an Equinox group entry. -/
def execEqxRead (i : Fin 16) (r : Requester) (w : Word) (s : State) : Answer :=
  done (sliceCmd i Reg.EQX_CMD r (withOp w 1) (eqxCommand i r (withOp w 1)) s)
/-- EQX_WRITE (R311): EQX_CMD operation writing an Equinox group entry. -/
def execEqxWrite (i : Fin 16) (r : Requester) (w : Word) (s : State) : Answer :=
  done (sliceCmd i Reg.EQX_CMD r (withOp w 2) (eqxCommand i r (withOp w 2)) s)
/-- EQX_RELEASE_START (R303): At S = T − TX_DELAY − preamble the port starts an Equinox copy so its delimiter crosses at T. -/
def execEqxReleaseStart (i : Fin 16) (l : Fin 64) (s : State) : Answer :=
  done (whenUp (eqxRelease i l.val) s)
/-- SHAPER_ELIGIBLE (R275): A shaper's token count grows back to zero, so its queue or service becomes eligible and an idle port may start a frame. -/
def execShaperEligible (i : Fin 16) (l : Fin 64) (s : State) : Answer :=
  done (whenUp (shaperEligible i l.val) s)

end Sys2Proof.Machine
end

