-- ==== Sys2Proof/Machine/ExecFrames.lean ====
section
/-!
DEFINITION. The meanings of the command rows of frames on their way from wire to wire, ports, the fragment table, clusters and sequencers: one definition per row.
-/
namespace Sys2Proof.Machine
open Sys2Proof

/-- FRAME_START (R82): A lane detects a start-of-frame delimiter and captures the bounded receive timestamp. -/
def execFrameStart (i : Fin 16) (l : Fin 64) (interp : Fin 11) (s : State) : Answer :=
  done (whenUp (frameStart i l.val interp.val) s)
/-- FRAME_CELL_RECEIVED (R247): A further 128 bytes of a frame body arrive and are stored in a newly allocated cell of the packet's chain. -/
def execFrameCellReceived (i : Fin 16) (l : Fin 64) (bytes : List Byte) (s : State) : Answer :=
  done (whenUp (frameCell i l.val bytes) s)
/-- FRAME_END (R75): The last byte of a frame arrives and the MAC checks length, FCS, PCS errors and FEC, discarding and counting a bad frame. -/
def execFrameEnd (i : Fin 16) (l : Fin 64) (tail : List Byte) (pcs : Bool) (corrected : Nat) (uncorrectable : Nat) (frags : Nat) (s : State) : Answer :=
  done (whenUp (frameEnd i l.val tail pcs corrected uncorrectable frags) s)
/-- PARSE_COMPLETE (R98): The parse record completes, the frame takes its port sequence number and enters its home dispatch queue. -/
def execParseComplete (i : Fin 16) (l : Fin 64) (len : Nat) (s : State) : Answer :=
  done (whenUp (parseComplete i l.val len) s)
/-- FRAG_WAIT_RELEASE (R103): A fragment in the wait list is released when its entry resolves and takes the table again. -/
def execFragWaitRelease (i : Fin 16) (s : State) : Answer :=
  done (whenUp (fragRelease i) s)
/-- PACKET_START (R113): A cluster starts the head of its queue on a free thread with a free restorer entry. -/
def execPacketStart (i : Fin 16) (c : Fin 16) (s : State) : Answer :=
  done (whenUp (packetStart i c.val) s)
/-- WORK_STEAL (R116): An idle cluster takes the unpinned head of a queue at ring distance 1 or 2 that has waited past STEAL_THRESH. -/
def execWorkSteal (i : Fin 16) (thief : Fin 16) (victim : Fin 16) (s : State) : Answer :=
  done (whenUp (workSteal i thief.val victim.val) s)
/-- ICACHE_FILL (R126): The program store delivers a missed line to an instruction cache and the stalled thread resumes. -/
def execIcacheFill (i : Fin 16) (c : Fin 16) (s : State) : Answer :=
  done (whenUp (icacheFill i c.val) s)
/-- RUN_LIMIT_EXPIRY (R115): A thread reaches RUN_LIMIT cycles and is ended, its packet dropped with reason 0x82. -/
def execRunLimitExpiry (i : Fin 16) (t : Fin 1024) (s : State) : Answer :=
  done (whenUp (runLimitExpiry i t.val) s)
/-- RESTORER_HAND_ON (R121): The order restorer hands committed copies onward once every earlier packet of the port is handed on or retired. -/
def execRestorerHandOn (i : Fin 16) (l : Fin 64) (s : State) : Answer :=
  done (whenUp (restorerHandOn i l.val) s)
/-- EGRESS_ARRIVAL (R30): A packet's cells reach the egress slice buffer and its copies are made and enqueued. -/
def execEgressArrival (i : Fin 16) (src : Fin 16) (cls : Fin 8) (s : State) : Answer :=
  done (whenUp (egressArrival i src cls.val) s)
/-- PORT_FRAME_BOUNDARY (R273): At a frame boundary a port starts an Equinox copy, a due merge entry or the hierarchy's selection. -/
def execPortFrameBoundary (i : Fin 16) (l : Fin 64) (s : State) : Answer :=
  done (whenUp (portStart i l.val) s)
/-- TRANSMIT_COMPLETE (R247): A copy's transmission ends and the egress chain is freed once its last copy is sent or dropped. -/
def execTransmitComplete (i : Fin 16) (l : Fin 64) (s : State) : Answer :=
  done (whenUp (transmitComplete i l.val) s)
/-- ENABLE (R72): PRT_CMD operation that configures a port from PRT_CFG and starts link training. -/
def execEnable (i : Fin 16) (l : Fin 64) (r : Requester) (w : Word) (s : State) : Answer :=
  done (sliceCmd i (prt Reg.PRT_CMD l.val) r (withOp w 1) (prtCommand i l.val r (withOp w 1)) s)
/-- DISABLE (R73): PRT_CMD operation that aborts reception, finishes the current transmission, idles the port and drops its queue. -/
def execDisable (i : Fin 16) (l : Fin 64) (r : Requester) (w : Word) (s : State) : Answer :=
  done (sliceCmd i (prt Reg.PRT_CMD l.val) r (withOp w 2) (prtCommand i l.val r (withOp w 2)) s)
/-- LINK_UP (R72): Training, block lock, FEC alignment and deskew complete and LINK_UP rises. -/
def execLinkUp (i : Fin 16) (l : Fin 64) (deskew : Nat) (s : State) : Answer :=
  done (whenUp (linkUp i l.val deskew) s)
/-- LINK_DOWN (R74): An enabled port loses its link, ending any frame in transmission with an invalid FCS. -/
def execLinkDown (i : Fin 16) (l : Fin 64) (s : State) : Answer :=
  done (whenUp (linkDown i l.val) s)
/-- CAL_VALID_RISE (R85): 1 µs after LINK_UP the calibration entry is filled and CAL_VALID rises. -/
def execCalValidRise (i : Fin 16) (l : Fin 64) (s : State) : Answer :=
  done (whenUp (calValidRise i l.val) s)
/-- PRT_CAL_ADJ_WRITE (R87): A calibration adjustment write applies to captures more than two cycles later. -/
def execPrtCalAdjWrite (i : Fin 16) (l : Fin 64) (r : Requester) (h : Half) (w : Word) (s : State) : Answer :=
  done (writeAt r (sliceOff i (prt Reg.PRT_CAL_ADJ l.val)) h w (calAdjWrite i l.val r h w) s)
/-- PAUSE_FRAME_RECEIVED (R77): A received 802.3x PAUSE or PFC frame stops the port or its priorities for the stated quanta. -/
def execPauseFrameReceived (i : Fin 16) (l : Fin 64) (pfc : Option (BitVec 8)) (quanta : List Nat) (s : State) : Answer :=
  done (whenUp (pauseReceived i l.val pfc quanta) s)
/-- PAUSE_EXPIRY (R77): The received pause time runs out and the port or priority may start frames again. -/
def execPauseExpiry (i : Fin 16) (l : Fin 64) (s : State) : Answer :=
  done (whenUp (pauseExpiry i l.val) s)
/-- PAUSE_FRAME_REPEAT (R79): While pause is asked, the port sends a new pause frame each time half its quanta has passed. -/
def execPauseFrameRepeat (i : Fin 16) (l : Fin 64) (s : State) : Answer :=
  done (whenUp (pauseRepeat i l.val) s)
/-- PREEMPT_VERIFY (R80): A verify exchange of the MAC merge sublayer succeeds or fails, setting or clearing PREEMPT_ACTIVE. -/
def execPreemptVerify (i : Fin 16) (l : Fin 64) (good : Bool) (s : State) : Answer :=
  done (whenUp (preemptVerify i l.val good) s)
/-- FRG_FLUSH (R108): FRG_CMD FLUSH removes every fragment entry and releases waiting fragments to the miss action. -/
def execFrgFlush (i : Fin 16) (r : Requester) (w : Word) (s : State) : Answer :=
  done (sliceCmd i Reg.FRG_CMD r (withOp w 1) (frgCommand i r (withOp w 1)) s)
/-- PROGRAM_STORE_WRITE (R125): A window write to the staging program bank, invalidating cached lines, or discarded and counted. -/
def execProgramStoreWrite (i : Fin 16) (r : Requester) (bank : Fin 2) (n : Fin 32768) (h : Half) (w : Word) (s : State) : Answer :=
  done (writeAt r (sliceOff i (0x200000 + 0x40000 * bank.val + 8 * n.val)) h w (programWrite i r bank.val n.val h w) s)
/-- SPAD_WINDOW_ACCESS (R128): A register access to a cluster scratchpad through the indirect window, granted after Quill accesses. -/
def execSpadWindowAccess (i : Fin 16) (r : Requester) (c : Fin 16) (n : Fin 8192) (h : Half) (data : Option Word) (s : State) : Answer :=
  done (spadAccess i r c.val n.val h data s)
/-- PGM_TRAP_WRITE (R160): A write of PGM_TRAP whose halves are applied only for the staging bank. -/
def execPgmTrapWrite (i : Fin 16) (r : Requester) (h : Half) (w : Word) (s : State) : Answer :=
  done (writeAt r (sliceOff i (Reg.PGM_TRAP)) h w (pgmTrapWrite i r h w) s)
/-- SEQ_MICROWORD (R134): A slice sequencer executes one microword per PCLK cycle. -/
def execSeqMicroword (i : Fin 16) (ecc : Fin 3) (s : State) : Answer :=
  done (whenUp (seqMicroword i ecc.val) s)
/-- SEQ_TRAP (R134): A micro-trap is taken between microwords, saving state, or halts the sequencer for causes 0 to 3. -/
def execSeqTrap (i : Fin 16) (cause : Fin 16) (s : State) : Answer :=
  done (whenUp (seqTrap i cause.val) s)
/-- FRG_FLUSH_DONE (R108): The fragment table FLUSH finishes within 4 µs, BUSY falls, and inserts and hits resume. -/
def execFrgFlushDone (i : Fin 16) (s : State) : Answer :=
  done (whenUp (frgFlushDone i) s)
/-- FRAGMENT_ENTRY_EXPIRY (R107): A fragment entry reaches its creation time plus LIFETIME, expires and leaves OCCUPANCY. -/
def execFragmentEntryExpiry (i : Fin 16) (place : Fin 4096) (s : State) : Answer :=
  done (whenUp (fragExpiry i place.val) s)

end Sys2Proof.Machine
end

