-- ==== Sys2Proof/Machine/ExecHost.lean ====
section
/-!
DEFINITION. The meanings of the command rows of the host interface: one definition per row.
-/
namespace Sys2Proof.Machine
open Sys2Proof

/-- HOST_REQUEST (R385): A host TLP to BAR0 or BAR2 is translated by its window and checked for ownership. -/
def execHostRequest (pf : Fin 16) (bar : Fin 2) (addr : Nat) (len : Nat) (data : Option (List Byte)) (err : Fin 3) (s : State) : Answer :=
  done (hostRequest pf bar.val addr len data err.val s)
/-- MSIX_ACCESS (R479): A host access to the MSI-X table or PBA in BAR4. -/
def execMsixAccess (pf : Fin 16) (off : Fin 65536) (len : Nat) (data : Option (List Byte)) (s : State) : Answer :=
  done (msixAccess pf off.val len data s)
/-- WIN_WRITE (R387): HST_CMD operation replacing a window entry of a PF. -/
def execWinWrite (r : Requester) (w : Word) (s : State) : Answer :=
  done (globalCmd Reg.HST_CMD r (withOp w 1) (hstCommand r (withOp w 1)) s)
/-- WIN_READ (R387): HST_CMD operation reading a window entry into the data registers. -/
def execWinRead (r : Requester) (w : Word) (s : State) : Answer :=
  done (globalCmd Reg.HST_CMD r (withOp w 2) (hstCommand r (withOp w 2)) s)
/-- WIN_FLUSH_DONE (R387): Every request under a replaced window entry has finished and WIN_FLUSHED rises. -/
def execWinFlushDone (s : State) : Answer :=
  done (winFlushDone s)
/-- SET_OWNER (R403): HST_CMD operation giving a slice in RETENTION to a PF. -/
def execSetOwner (r : Requester) (w : Word) (s : State) : Answer :=
  done (globalCmd Reg.HST_CMD r (withOp w 3) (hstCommand r (withOp w 3)) s)
/-- RELEASE (R402): HST_CMD operation ending the freeze of a link and stopping its frozen rings. -/
def execRelease (r : Requester) (w : Word) (s : State) : Answer :=
  done (globalCmd Reg.HST_CMD r (withOp w 4) (hstCommand r (withOp w 4)) s)
/-- RNG_CFG_WRITE (R390): A write of a ring's configuration that starts or stops it, discarded while RUNNING unless it clears EN. -/
def execRngCfgWrite (i : Fin 16) (r : Requester) (q : Fin 256) (h : Half) (w : Word) (s : State) : Answer :=
  done (writeAt r (sliceOff i (rng Reg.RNG_CFG q.val)) h w (rngCfgWrite i r q.val h w) s)
/-- RNG_TAIL_WRITE (R390): The host posts descriptors by writing TAIL, or sends the ring to ERROR if out of range. -/
def execRngTailWrite (i : Fin 16) (r : Requester) (q : Fin 256) (h : Half) (w : Word) (s : State) : Answer :=
  done (writeAt r (sliceOff i (rng Reg.RNG_TAIL q.val)) h w (rngTailWrite i r q.val h w) s)
/-- RX_ITEM_DELIVER (R391): An RX item is written into the buffer at HEAD and its completion written back. -/
def execRxItemDeliver (i : Fin 16) (q : Fin 256) (s : State) : Answer :=
  done (whenUp (rxDeliver i q.val) s)
/-- TX_DESCRIPTOR_PROCESS (R394): A TX descriptor's frame is fetched into a pool buffer and injected as PORT or PROGRAM. -/
def execTxDescriptorProcess (i : Fin 16) (q : Fin 256) (s : State) : Answer :=
  done (whenUp (txProcess i q.val) s)
/-- RING_COALESCE_TIMEOUT (R393): COAL_US passes after the first unsignalled completion and the ring's vector is sent. -/
def execRingCoalesceTimeout (i : Fin 16) (q : Fin 256) (s : State) : Answer :=
  done (whenUp (coalesceTimeout i q.val) s)
/-- COMPLETION_RECEIVED (R399): A completion arrives for a device read and is delivered, discarded as late or treated as unexpected. -/
def execCompletionReceived (l : Fin 5) (tag : Fin 16384) (status : Fin 4) (data : List Byte) (s : State) : Answer :=
  done (completionReceived l.val tag.val status.val data s)
/-- COMPLETION_TIMEOUT (R398): A read lacks its completions after CTO_US, its tag is quarantined and the link freezes. -/
def execCompletionTimeout (tag : Fin 16384) (s : State) : Answer :=
  done (completionTimeout tag.val s)
/-- QUARANTINE_EXPIRY (R398): A quarantined tag is freed 2 × CTO_US after its timeout. -/
def execQuarantineExpiry (tag : Fin 16384) (s : State) : Answer :=
  done (quarantineExpiry tag.val s)
/-- TAGS_EXHAUSTED (R407): A requester has waited 1 ms for a read tag and HST_TAGS_EXHAUSTED is raised. -/
def execTagsExhausted (i : Fin 16) (q : Fin 256) (s : State) : Answer :=
  done (whenUp (tagsExhausted i q.val) s)
/-- LINK_FREEZE (R400): An uncorrectable AER error or Surprise Down freezes the link and its rings. -/
def execLinkFreeze (l : Fin 4) (pf : Fin 16) (cause : Fin 16) (s : State) : Answer :=
  done (linkFreeze l.val pf.val cause.val s)
/-- FUNCTION_LEVEL_RESET (R405): An FLR of a PF stops the rings of its slices and clears its MSI-X state. -/
def execFunctionLevelReset (pf : Fin 16) (s : State) : Answer :=
  done (flr pf.val s)
/-- LINK_RESET (R472): PERST_N or a hot reset resets a link's PFs, applies HST_PF_MAP and ends its freeze. -/
def execLinkReset (l : Fin 4) (s : State) : Answer :=
  done (linkReset l.val s)
/-- PCIE_LINK_UP (R402): A host link finishes training and DL_Active rises, which makes RELEASE and DMA on that link possible again. -/
def execPcieLinkUp (l : Fin 4) (width : Fin 17) (speed : Fin 7) (flit : Bool) (s : State) : Answer :=
  done (pcieUp l.val width.val speed.val flit s)
/-- PCIE_LINK_DOWN (R381): A host link leaves DL_Active while no PF of it is in D0, and HST_PF_MAP is applied to the link. -/
def execPcieLinkDown (l : Fin 4) (s : State) : Answer :=
  done (pcieDown l.val s)
/-- CONFIGURATION_REQUEST (R382): A host configuration read or write to a PF's configuration header or capabilities, such as BARs, MSI-X, power state or AER status. -/
def execConfigurationRequest (pf : Fin 16) (off : Fin 4096) (data : Option (BitVec 4 × BitVec 32)) (s : State) : Answer :=
  done (configRequest pf off.val data s)

end Sys2Proof.Machine
end

