-- ==== Sys2Proof/Machine/ExecLedger.lean ====
section
/-!
DEFINITION. The meanings of the command rows of Copybook, Folio and the external memory: one definition per row.
-/
namespace Sys2Proof.Machine
open Sys2Proof

/-- MERGE_REPORT_ARRIVAL (R315): A merge release report reaches the ingress Copybook unit, completing or following a record. -/
def execMergeReportArrival (i : Fin 16) (s : State) : Answer :=
  done (whenUp (reportArrival i) s)
/-- REPORT_WAIT_EXPIRY (R315): REPORT_WAIT passes with a report missing and the record is written with an OUTCOME TIMEOUT record. -/
def execReportWaitExpiry (i : Fin 16) (s : State) : Answer :=
  done (whenUp (reportWaitExpiry i) s)
/-- SEAL_TICK (R326): At a seal tick every slice closes its open block and the signer starts or skips a seal. -/
def execSealTick (s : State) : Answer :=
  done (whenUp (sealTick) s)
/-- SEAL_SIGNED (R327): Signing completes and the seal is delivered to the host ring and the Scribe buffer. -/
def execSealSigned (s : State) : Answer :=
  done (sealSigned s)
/-- BLOCK_CLOSE_DONE (R322): The sequencer completes a block close, hashing it as the new chain head. -/
def execBlockCloseDone (i : Fin 16) (s : State) : Answer :=
  done (whenUp (blockClosed i) s)
/-- BLOCK_DRAIN_DMA (R325): A closed block's DMA to DRAIN_RING completes and it counts as taken by HOST. -/
def execBlockDrainDma (i : Fin 16) (errs : List Nat × List Nat) (s : State) : Answer :=
  done (whenUp (blockDrained i errs.1 errs.2) s)
/-- SCRIBE_RELEASE (R331): CPB_CMD operation marking blocks up to CPB_ARG taken by the SCRIBE path. -/
def execScribeRelease (i : Fin 16) (r : Requester) (w : Word) (s : State) : Answer :=
  done (sliceCmd i Reg.CPB_CMD r (withOp w 1) (cpbCommand i r (withOp w 1)) s)
/-- CPB_CFG_WRITE (R325): A write of CPB_CFG changes policy and drain paths or is discarded and counted. -/
def execCpbCfgWrite (i : Fin 16) (r : Requester) (h : Half) (w : Word) (s : State) : Answer :=
  done (writeAt r (sliceOff i (Reg.CPB_CFG)) h w (cpbCfgWrite i r h w) s)
/-- CPB_SEAL_CFG_WRITE (R332): A write of seal configuration, discarded for an out-of-range INTERVAL. -/
def execCpbSealCfgWrite (r : Requester) (h : Half) (w : Word) (s : State) : Answer :=
  done (writeAt r (globalOff (Reg.CPB_SEAL_CFG)) h w (sealCfgWrite r h w) s)
/-- STAGE_OPEN (R341): FOL_CMD operation allocating a staged epoch and starting the opening steps. -/
def execStageOpen (r : Requester) (w : Word) (s : State) : Answer :=
  done (globalCmd Reg.FOL_CMD r (withOp w 1) (folCommand r (withOp w 1)) s)
/-- STAGING_READY (R341): The opening steps complete and Folio enters STAGING. -/
def execStagingReady (s : State) : Answer :=
  done (whenUp (stagingReady) s)
/-- COMMIT (R342): FOL_CMD operation scheduling a commit at time T. -/
def execCommit (r : Requester) (w : Word) (s : State) : Answer :=
  done (globalCmd Reg.FOL_CMD r (withOp w 2) (folCommand r (withOp w 2)) s)
/-- ROLLBACK (R346): FOL_CMD operation scheduling a switch back to the previous epoch at T. -/
def execRollback (r : Requester) (w : Word) (s : State) : Answer :=
  done (globalCmd Reg.FOL_CMD r (withOp w 3) (folCommand r (withOp w 3)) s)
/-- ABORT (R347): FOL_CMD operation closing staging or cancelling a pending switch. -/
def execAbort (r : Requester) (w : Word) (s : State) : Answer :=
  done (globalCmd Reg.FOL_CMD r (withOp w 4) (folCommand r (withOp w 4)) s)
/-- SLICE_ARMED (R342): A slice sequencer loads the new dispatch records and comparator and sets ARMED. -/
def execSliceArmed (i : Fin 16) (s : State) : Answer :=
  done (whenUp (sliceArmed i) s)
/-- ARM_DEADLINE (R339): 20 µs before T any unarmed slice fails the switch and Folio returns to STAGING or IDLE. -/
def execArmDeadline (s : State) : Answer :=
  done (whenUp (armDeadline) s)
/-- FOLIO_SWITCH (R344): Slice time reaches T and the slice rotates its bank roles and active epoch. -/
def execFolioSwitch (i : Fin 16) (s : State) : Answer :=
  done (whenUp (folioSwitch i) s)
/-- SLICE_DRAINED (R345): A slice holds no packet of the old epoch after T + 1 µs and sets DRAINED, ending DRAINING when all have. -/
def execSliceDrained (i : Fin 16) (s : State) : Answer :=
  done (whenUp (sliceDrained i) s)
/-- COHERENCE_CHECK (R349): Every 1 µs the monitor compares slice epochs, time and fence state and raises mismatches. -/
def execCoherenceCheck (s : State) : Answer :=
  done (whenUp (coherenceCheck) s)
/-- FOL_TIME_WRITE (R352): A write of FOL_TIME0 or FOL_TIME1, discarded and counted while PENDING. -/
def execFolTimeWrite (r : Requester) (one : Bool) (h : Half) (w : Word) (s : State) : Answer :=
  done (writeAt r (globalOff (if one then Reg.FOL_TIME1 else Reg.FOL_TIME0)) h w (folTimeWrite r one h w) s)
/-- FOL_SLICE_REG_WRITE (R353): A write of a slice's seed staging registers, discarded outside STAGING. -/
def execFolSliceRegWrite (i : Fin 16) (r : Requester) (k : Fin 5) (h : Half) (w : Word) (s : State) : Answer :=
  done (writeAt r (sliceOff i (Reg.FOL_SEED_CTL + 8 * k.val)) h w (folSliceWrite i r k.val h w) s)
/-- INIT (R358): DRM_CMD operation reading SPD, taking regions and masks and starting training. -/
def execInit (i : Fin 16) (r : Requester) (w : Word) (spd : Option Word) (s : State) : Answer :=
  done (sliceCmd i Reg.DRM_CMD r (withOp w 1) (fun a => drmCommand i r (withOp w 1) spd a) s)
/-- SET_SPEED (R360): DRM_CMD operation changing, or holding pending, the channel speed. -/
def execSetSpeed (i : Fin 16) (r : Requester) (w : Word) (s : State) : Answer :=
  done (sliceCmd i Reg.DRM_CMD r (withOp w 2) (drmCommand i r (withOp w 2) none) s)
/-- DRAM_QUEUE_DRAINED (R360): The controller completes its queued accesses and enters self-refresh for a speed change. -/
def execDramQueueDrained (i : Fin 16) (s : State) : Answer :=
  done (whenUp (dramDrained i) s)
/-- TRAIN_SWEEP_DONE (R359): The training sweep of all ranks completes and the channel becomes READY, FAILED or relocks. -/
def execTrainSweepDone (i : Fin 16) (rd : List (BitVec 128)) (wr : List (BitVec 128)) (s : State) : Answer :=
  done (whenUp (trainDone i rd wr) s)
/-- PHY_RELOCK (R357): The PHY relocks at the pending speed and training restarts. -/
def execPhyRelock (i : Fin 16) (s : State) : Answer :=
  done (whenUp (phyRelock i) s)
/-- DRAM_TRACKING_STEP (R363): Every 128 ms per rank the controller recentres delays and may raise DRM_DRIFT. -/
def execDramTrackingStep (i : Fin 16) (rank : Fin 2) (centres : List (Nat × Nat)) (s : State) : Answer :=
  done (whenUp (trackingStep i rank.val centres) s)
/-- DRAM_REFRESH (R354): A refresh falls due and a same-bank or all-bank refresh is issued. -/
def execDramRefresh (i : Fin 16) (rank : Fin 2) (at_ : Fin 32 × Fin 16) (s : State) : Answer :=
  done (whenUp (dramRefresh i rank.val at_.1.val at_.2.val) s)
/-- ROW_CLOSE_IDLE (R364): A bank idle for CLOSE_IDLE cycles closes its open row. -/
def execRowCloseIdle (i : Fin 16) (rank : Fin 2) (bank : Fin 64) (s : State) : Answer :=
  done (whenUp (rowClose i rank.val bank.val) s)
/-- RANK_POWER_DOWN (R369): A rank idle for PD_IDLE cycles enters power-down. -/
def execRankPowerDown (i : Fin 16) (rank : Fin 2) (s : State) : Answer :=
  done (whenUp (rankPowerDown i rank.val) s)
/-- ARCHIVE_SLOT_WRITTEN (R375): A replay slot write completes and its number becomes findable. -/
def execArchiveSlotWritten (i : Fin 16) (s : State) : Answer :=
  done (whenUp (archiveWritten i) s)
/-- RPL_GROUP_WRITE (R376): A write of an archive group's registers is applied or discarded and counted. -/
def execRplGroupWrite (i : Fin 16) (r : Requester) (g : Fin 256) (one : Bool) (h : Half) (w : Word) (s : State) : Answer :=
  done (writeAt r (sliceOff i ((if one then Reg.RPL_GROUP1 else Reg.RPL_GROUP0) + 8 * g.val)) h w (rplGroupWrite i r g.val one h w) s)

end Sys2Proof.Machine
end

