-- ==== Sys2Proof/Machine/ExecMonitor.lean ====
section
/-!
DEFINITION. The meanings of the command rows of fault units, counters and Tally: one definition per row.
-/
namespace Sys2Proof.Machine
open Sys2Proof

/-- FAULT_RAISE (R437): A fault source rises, setting SEEN and ACTIVE and applying its reaction. -/
def execFaultRaise (unit : Fin 17) (id : Fin 4096) (syn : Nat) (s : State) : Answer :=
  done (faultEvent unit.val id.val syn s)
/-- FAULT_AUTO_LIFT (R444): LIVE has been 0 for QUIET µs with AUTO set and the source is lifted. -/
def execFaultAutoLift (unit : Fin 17) (id : Fin 4096) (s : State) : Answer :=
  done (whenUp (faultAutoLift unit.val id.val) s)
/-- FLT_SRC_WRITE (R445): A write of a source's configuration, FORCE or CLEAR, lifting or refusing as judged. -/
def execFltSrcWrite (r : Requester) (unit : Fin 17) (id : Fin 4096) (h : Half) (w : Word) (s : State) : Answer :=
  done (fltWriteAt r unit.val id.val h w s)
/-- FAULT_INTERRUPT_DEFERRED (R451): The 10 µs interval ends and a deferred fault interrupt is sent. -/
def execFaultInterruptDeferred (unit : Fin 17) (s : State) : Answer :=
  done (whenUp (faultIntDeferred unit.val) s)
/-- FLT_HIST_READ (R450): A read of word 0 of a history entry latches words 1 and 2. -/
def execFltHistRead (r : Requester) (unit : Fin 17) (entry : Fin 64) (h : Half) (s : State) : Answer :=
  done (fltHistAt r unit.val entry.val h s)
/-- PMC_INT_DEFERRED (R456): The 10 µs interval ends and a deferred overflow interrupt is sent. -/
def execPmcIntDeferred (i : Fin 16) (s : State) : Answer :=
  done (whenUp (pmcIntDeferred i) s)
/-- PMC_SMP0_READ (R459): A read of PMC_SMP0 removes the oldest sample record and latches its other words. -/
def execPmcSmp0Read (i : Fin 16) (r : Requester) (h : Half) (s : State) : Answer :=
  done (readAt r (sliceOff i Reg.PMC_SMP) h s)
/-- PMC_CFG_WRITE (R458): A write of a counter configuration, discarded if it sets SAMPLE for an unsampled event. -/
def execPmcCfgWrite (i : Fin 16) (r : Requester) (k : Fin 16) (h : Half) (w : Word) (s : State) : Answer :=
  done (writeAt r (sliceOff i (pmcCfg k.val)) h w (pmcCfgWrite i r k.val h w) s)
/-- TALLY_TICK (R460): At a Tally tick every listed register is latched for a snapshot, or the tick is skipped. -/
def execTallyTick (s : State) : Answer :=
  done (whenUp (tallyTick) s)
/-- TALLY_SNAPSHOT_DONE (R462): A snapshot's values and header are written to host memory and HEAD advances. -/
def execTallySnapshotDone (s : State) : Answer :=
  done (whenUp (tallyDone) s)
/-- TALLY_REG_WRITE (R461): A write of a Tally register, discarded while EN is 1 unless it only clears EN. -/
def execTallyRegWrite (r : Requester) (k : Fin 8192) (h : Half) (w : Word) (s : State) : Answer :=
  done (writeAt r (globalOff (0x90000 + 8 * k.val)) h w (tallyWrite r (0x90000 + 8 * k.val) h w) s)

end Sys2Proof.Machine
end

