-- ==== Sys2Proof/Machine/IhlucPacket.lean ====
section
/-!
DEFINITION. The packet instructions of Ihluc: formats, legality and effects ("Ihluc Instruction Set: Packet Operations",
R161 to R196).
-/
namespace Sys2Proof.Machine
open Sys2Proof

/-- The g registers `n` to `n + k - 1`. -/
def gRegs (n k : Nat) : List Ref := (List.range k).map (fun j => gReg (n + j))
/-- They pass g31 (R169). -/
def pastG31 (n k : Nat) : Bool := decide (32 < n + k)
/-- A key of `k` registers, the first least significant (R169). -/
def Thread.key (th : Thread) (n k : Nat) : Nat := sumNat ((List.range k).map (fun j => (th.get (gReg (n + j))).toNat * 2 ^ (64 * j)))
/-- An asynchronous operation issued under its tag (R163). -/
def startOp (tag : Nat) (o : AsyncOp) (th : Thread) : Thread :=
  { (th.setTag tag .pending) with ops := th.ops ++ [(tag, o)] }
/-- The plan of an asynchronous instruction. -/
def asyncPlan (cls : Nat) (bad : Bool) (fenced : List Nat) (reads : List Ref) (w : Word) (o : AsyncOp) : Plan :=
  { bad := bad, fenced := fenced, reads := reads, writes := o.dests, tag := some (fld w 40 38), cls := cls,
    act := fun t s => (startOp (fld w 40 38) o t, s) }
/-- The Session Record that m3 names, when it is present (R212). -/
def State.srmRecord (s : State) (i : Fin 16) (th : Thread) : Option Nat :=
  let m3 := NMap.get 0 th.m 3
  if bitAt m3 63 then s.presentRecord i th.epoch (fld m3 16 0) else none
/-- The array read of an SRM instruction (Table 18.1). -/
def Plan.srm (p : Plan) (i : Fin 16) (th : Thread) (on : Bool) : Plan :=
  if on && bitAt (NMap.get 0 th.m 3) 63 then
    { p with act := fun t s => p.act t (tblAccess i 0 (fld (NMap.get 0 th.m 3) 16 0) s) }
  else p

-- LKP and WAIT (R165, R169 to R172) --------------------------------------------------------------------------------

def lkpEmPlan (i : Fin 16) (w : Word) (th : Thread) (s : State) : Plan :=
  let x := s.slice i
  let tier := fld w 35 34
  let k := if bitAt w 33 then 5 else 2
  let fenced := if tier = 1 then (if x.nearFenced then [1] else []) else if tier = 2 then (if x.farFenced then [2] else [])
    else (if x.nearFenced && x.farFenced then [1] else [])
  asyncPlan 6 (decide (tier = 3) || decide (fld w 31 0 ≠ 0) || decide (fB w ≠ 0) || decide (fD w = 0) || pastG31 (fA w) k) fenced
    (gRegs (fA w) k) w (.lkpEm tier (bitAt w 33) (bitAt w 32) (th.key (fA w) k) (fD w))
/-- Key registers of an RM width. -/
def rmKeyRegs (rmw : Nat) : Nat := if rmw = 0 then 3 else if rmw = 1 then 5 else 10
def lkpRmPlan (i : Fin 16) (w : Word) (th : Thread) (s : State) : Plan :=
  let rmw := fld w 27 26
  let k := rmKeyRegs rmw
  let bank := fld w 31 28
  let key := th.key (fA w) k % 2 ^ (160 * rmxWidth rmw)
  asyncPlan 6 (decide (rmw = 3) || decide (fld w 35 32 ≠ 0) || decide (fld w 25 0 ≠ 0) || decide (fB w ≠ 0) || decide (fD w = 0) ||
      pastG31 (fA w) k || pastG31 (fD w) 2 || decide (16 < bank + rmxWidth rmw))
    (if (s.slice i).unitFenced .rules then [4] else []) (gRegs (fA w) k) w (.lkpRm bank rmw key (fD w))
def lkpSrPlan (i : Fin 16) (w : Word) (th : Thread) (s : State) : Plan :=
  let a := refOf (bitAt w 25) (fA w)
  asyncPlan 6 (decide (fld w 35 26 ≠ 0) || decide (fld w 24 0 ≠ 0) || decide (fB w ≠ 0) || decide (fD w = 0) || pastG31 (fD w) 4 || badRef a)
    (if (s.slice i).unitFenced .session then [3] else []) [a] w (.lkpSr (fld (th.get a) 16 0) (fD w))
def waitPlan (w : Word) (th : Thread) : Plan :=
  { bad := decide (fld w 55 8 ≠ 0) || decide (fld w 7 0 = 0), cls := 7,
    act := fun t s => (if th.pendingIn (fld w 7 0) then { t with hold := .wait (fld w 7 0) } else t, s) }

-- METER, SEQ, HASH (R173 to R178) ----------------------------------------------------------------------------------

def meterPlan (i : Fin 16) (w : Word) (th : Thread) (p : Packet) (s : State) : Plan :=
  let x := s.slice i
  let srm := bitAt w 37
  let lenr := bitAt w 36
  let idx := if srm then (s.srmRecord i th).map (fun r => fld (recordWord r 0) 31 16) else some (fld (th.get (gReg (fA w))) 15 0)
  let len := if lenr then fld (th.get (gReg (fB w))) 13 0 else p.parse.frameLen
  (asyncPlan 8 ((srm && decide (fA w ≠ 0)) || (!lenr && decide (fB w ≠ 0)) || decide (fld w 34 0 ≠ 0))
    ((if x.unitFenced .meters then [5] else []) ++ (if srm && x.unitFenced .session then [3] else []))
    ((if srm then [mReg 3] else [gReg (fA w)]) ++ (if lenr then [gReg (fB w)] else [])) w
    (.meter idx len (bitAt w 35) (fld (NMap.get 0 th.m 9) 1 0) (fD w))).srm i th srm
def seqPlan (i : Fin 16) (w : Word) (th : Thread) (s : State) : Plan :=
  let x := s.slice i
  let srm := bitAt w 37
  let imm := bitAt w 35
  let idx := if srm then (s.srmRecord i th).map (fun r => fld (recordWord r 0) 47 32) else some (fld (th.get (gReg (fA w))) 15 0)
  let inc := if imm then word (fld w 15 0) else th.get (gReg (fB w))
  (asyncPlan 11 ((srm && decide (fA w ≠ 0)) || (imm && decide (fB w ≠ 0)) || (!imm && decide (fld w 15 0 ≠ 0)) || decide (fld w 34 16 ≠ 0))
    ((if x.unitFenced .seqCtrs then [6] else []) ++ (if srm && x.unitFenced .session then [3] else []))
    ((if srm then [mReg 3] else [gReg (fA w)]) ++ (if imm then [] else [gReg (fB w)])) w
    (.seqAdd idx inc (bitAt w 36) (fD w))).srm i th srm
/-- HASH, fast mode (R177). -/
def hashFastPlan (w : Word) (th : Thread) : Plan :=
  { bad := decide (fld w 40 38 ≠ 0) || decide (fld w 36 0 ≠ 0), reads := [gReg (fA w), gReg (fB w)], writes := [gReg (fD w)],
    cls := 12, lat := 2,
    act := fun t s => (t.put (gReg (fD w)) (word (crc64 (th.get (gReg (fA w))).toNat (th.get (gReg (fB w))).toNat)), s) }
/-- HASH, SHA mode (R178). -/
def hashShaPlan (i : Fin 16) (w : Word) (th : Thread) (p : Packet) (s : State) : Plan :=
  let base := (th.get (gReg (fA w))).toNat + fld w 7 0
  let n := fld w 15 8 + 1
  let last := base + n - 1
  { (asyncPlan 12 (decide (fld w 36 16 ≠ 0) || decide (fB w ≠ 0) || decide (28 < fD w))
      (if (s.slice i).digestFenced then [7] else []) [gReg (fA w)] w
      (.sha ((List.range n).map (fun k => s.header p (base + k))) (fD w))) with
    window := if decide (255 < last) && !bitAt th.tctl 0 then some last else none }

-- The edit list (R179 to R186) -------------------------------------------------------------------------------------

/-- The plan of an instruction that adds one entry of a width at an offset (R179, R181). -/
def entryPlan (cls : Nat) (bad : Bool) (reads : List Ref) (off width : Nat) (e : Edit) (th : Thread) : Plan :=
  { bad := bad || decide (32 ≤ th.edits.length), window := if 256 < off + width then some (off + width - 1) else none,
    reads := reads, cls := cls, act := fun t s => ({ t with edits := t.edits ++ [e] }, s) }
/-- Base and data registers, offset and LEN of an EDIT. -/
def editOff (w : Word) (th : Thread) : Nat := (th.get (gReg (fA w))).toNat + fld w 7 0
def editLen (w : Word) : Nat := fld w 15 8
def badEdit (w : Word) : Bool := decide (fD w ≠ 0) || decide (fld w 35 16 ≠ 0)
def editSetPlan (w : Word) (th : Thread) : Plan :=
  entryPlan 10 (badEdit w || bitAt w 36 || decide (editLen w = 0) || decide (8 < editLen w)) [gReg (fA w), gReg (fB w)]
    (editOff w th) (editLen w) (.set (editOff w th) (editLen w) (th.get (gReg (fB w)))) th
def editInsPlan (w : Word) (th : Thread) : Plan :=
  entryPlan 10 (badEdit w || bitAt w 36 || decide (editLen w = 0) || decide (8 < editLen w)) [gReg (fA w), gReg (fB w)]
    (editOff w th) (editLen w) (.ins (editOff w th) (editLen w) (th.get (gReg (fB w)))) th
def editDelPlan (w : Word) (th : Thread) : Plan :=
  entryPlan 10 (badEdit w || bitAt w 36 || decide (editLen w = 0) || decide (fB w ≠ 0)) [gReg (fA w)]
    (editOff w th) (editLen w) (.del (editOff w th) (editLen w)) th
def editCsumIp4Plan (w : Word) (th : Thread) : Plan :=
  entryPlan 10 (badEdit w || bitAt w 36 || decide (editLen w ≠ 0) || decide (fB w ≠ 0)) [gReg (fA w)]
    (editOff w th) 20 (.csumIp4 (editOff w th)) th
def editCsumL4Plan (w : Word) (th : Thread) : Plan :=
  entryPlan 10 (badEdit w || decide (editLen w ≠ 0)) [gReg (fA w), gReg (fB w)]
    (editOff w th) 2 (.csumL4 (editOff w th) (fld (th.get (gReg (fB w))) 7 0) (bitAt w 36)) th
/-- TRUNC (R183). -/
def editTruncPlan (w : Word) (th : Thread) : Plan :=
  { bad := badEdit w || bitAt w 36 || decide (fA w ≠ 0) || decide (fld w 15 0 ≠ 0), reads := [gReg (fB w)], cls := 10,
    act := fun t s => ({ t with edits := t.edits.take (fld (th.get (gReg (fB w))) 5 0) }, s) }

/-- Offset of a STAMP entry, and what every inserting form requires. -/
def stampOff (w : Word) (th : Thread) : Nat := (th.get (refOf (bitAt w 34) (fA w))).toNat + fld w 7 0
def badStamp (w : Word) : Bool :=
  decide (fD w ≠ 0) || decide (fB w ≠ 0) || decide (fld w 37 36 = 3) || decide (fld w 33 8 ≠ 0) || badRef (refOf (bitAt w 34) (fA w))
/-- The receive capture that m1 and m2 hold. -/
def Thread.capture (th : Thread) : Stamp := stampOfPair (NMap.get 0 th.m 1) (NMap.get 0 th.m 2)
def stampReadNowPlan (i : Fin 16) (w : Word) (s : State) : Plan :=
  { bad := decide (fA w ≠ 0) || decide (fB w ≠ 0) || decide (fld w 37 0 ≠ 0) || decide (fD w = 0) || decide (30 < fD w),
    writes := gRegs (fD w) 2, cls := 9, lat := 4,
    act := fun t s' => ((t.put (gReg (fD w)) (s.sliceStamp i).lo).put (gReg (fD w + 1)) (s.sliceStamp i).hi, s') }
def stampInsRxPlan (w : Word) (th : Thread) : Plan :=
  entryPlan 9 (badStamp w) [refOf (bitAt w 34) (fA w)] (stampOff w th) (stampWidth (fld w 37 36))
    (.stampRx (stampOff w th) (fld w 37 36) (bitAt w 35) th.capture) th
def stampInsTxPlan (w : Word) (th : Thread) : Plan :=
  entryPlan 9 (badStamp w) [refOf (bitAt w 34) (fA w)] (stampOff w th) (stampWidth (fld w 37 36))
    (.stampTx (stampOff w th) (fld w 37 36) (bitAt w 35)) th
def stampCorrPlan (w : Word) (th : Thread) : Plan :=
  entryPlan 9 (badStamp w || decide (fld w 37 35 ≠ 0)) [refOf (bitAt w 34) (fA w)] (stampOff w th) 8
    (.corr (stampOff w th) th.capture) th

-- LEDG, MARK, FRAG (R187 to R190) ----------------------------------------------------------------------------------

def ledgPlan (w : Word) (th : Thread) : Plan :=
  let r := bitAt w 37
  { bad := decide (fD w ≠ 0) || decide (fB w ≠ 0) || decide (fld w 40 38 ≠ 0) || decide (fld w 36 0 ≠ 0) || (!r && decide (fA w ≠ 0)),
    reads := mReg 3 :: (if r then [gReg (fA w)] else []), cls := 13,
    act := fun t s =>
      ({ (t.putMeta 10 (NMap.get 0 t.m 10 ||| 0x100)) with
          ledg := some (fld (if r then th.get (gReg (fA w)) else NMap.get 0 th.m 3) 16 0) }, s) }
def markPlan (w : Word) (th : Thread) : Plan :=
  let r := bitAt w 35
  let v := if r then fld (th.get (gReg (fA w))) 4 0 else fld w 4 0
  let old := NMap.get 0 th.m 9
  let c := if bitAt w 37 then setFld old 4 2 (bitsOf v 4 2) else old
  let o := if bitAt w 36 then setFld c 1 0 (bitsOf v 1 0) else c
  { bad := decide (fD w ≠ 0) || decide (fB w ≠ 0) || decide (fld w 40 38 ≠ 0) || decide (fld w 34 5 ≠ 0) || decide (fld w 37 36 = 0) ||
      (r && decide (fld w 4 0 ≠ 0)) || (!r && decide (fA w ≠ 0)),
    reads := if r then [gReg (fA w)] else [], writes := [mReg 9], cls := 13, act := fun t s => (t.put (mReg 9) o, s) }
/-- The fragment entry that the packet made and that takes a decision (R102, R189). -/
def State.ownFragment (s : State) (i : Fin 16) (n : Nat) : Option (Nat × FragEntry) :=
  (s.frg i).entries.findSome? (fun e => e.2.bind (fun f =>
    if decide (f.maker = n) && (match f.state with
      | .noDecision => false
      | _ => true) then some (e.1, f) else none))
def fragPlan (i : Fin 16) (w : Word) (th : Thread) (p : Packet) (s : State) : Plan :=
  let imm := bitAt w 37
  let pc := if imm then fld w 14 0 else fld (th.get (gReg (fA w))) 14 0
  let arg := fld (th.get (gReg (fB w))) 47 0
  { bad := decide (fld w 40 38 ≠ 0) || decide (fld w 36 15 ≠ 0) || (imm && decide (fA w ≠ 0)) || (!imm && decide (fld w 14 0 ≠ 0)),
    fenced := if (s.slice i).unitFenced .frag then [8] else [], lat := 2, cls := 13,
    reads := gReg (fB w) :: (if imm then [] else [gReg (fA w)]), writes := [gReg (fD w)],
    act := fun t s' =>
      let answer := fun (st : CmdStatus) (s : State) => (t.put (gReg (fD w)) (word st.code), s)
      if !p.parse.has flgFirst then answer .stateRefused s'
      else match (if s'.fragClosed i then none else s'.ownFragment i th.pkt) with
        | none => answer .notFound s'
        | some (k, f) =>
          answer .ok (s'.modFrg i (fun x => x.put k (some { f with state := .decided th.bank pc arg th.epoch }))) }

-- EMIT, PUNT, RPLY (R191 to R194) ----------------------------------------------------------------------------------

/-- One copy added at issue with what it takes from m9, m13 and the edit list (R179, R191). -/
def addCopy (target : Target) (time cut : Bool) (dead : Nat) (barred : NMap Nat) (th : Thread) : Thread :=
  let m9 := NMap.get 0 th.m 9
  let cls := fld m9 4 2
  { th with issued := th.issued + 1,
            copies := th.copies ++ [{ target := target, xcls := if time then 7 else if cls = 7 then 6 else cls, cls := cls,
                                      colour := fld m9 1 0, edits := th.edits, cut := cut, info := NMap.get 0 th.m 13, dead := dead,
                                      barred := barred }] }
/-- The 33rd EMIT, PUNT or RPLY raises cause 0 (R191). -/
def tooMany (th : Thread) : Bool := decide (32 ≤ th.issued)
/-- The target field of an EMIT, and what every kind requires (Table 06.10). -/
def emitTarget (w : Word) (th : Thread) : Nat := if bitAt w 35 then fld (th.get (gReg (fA w))) 15 0 else fld w 15 0
def badEmit (w : Word) (th : Thread) : Bool :=
  decide (fD w ≠ 0) || decide (fB w ≠ 0) || decide (fld w 40 39 ≠ 0) || decide (fld w 34 16 ≠ 0) ||
  (bitAt w 35 && decide (fld w 15 0 ≠ 0)) || (!bitAt w 35 && decide (fA w ≠ 0)) || tooMany th
def emitReads (w : Word) : List Ref := [mReg 9, mReg 13] ++ (if bitAt w 35 then [gReg (fA w)] else [])
/-- The slices that R15 and R23 bar for an EMIT of this slice now, with their reasons. -/
def State.barredSlices (s : State) (i : Fin 16) : NMap Nat :=
  (List.finRange 16).foldl (fun m e => NMap.set 0 m e.val (crossDrop s i e)) []
/-- An EMIT of a target; `slice` is the one slice that a port or a queue names, 16 and above for none.  R15 and R23 are judged at
issue (R192), for a group or a list at each slice. -/
def emitPlan (i : Fin 16) (w : Word) (th : Thread) (s : State) (target : Target) (time cut : Bool) (slice : Option Nat) : Plan :=
  let dead := match slice with
    | some e => if e < 16 then crossDrop s i (sl e) else 0x8A
    | none => 0
  let barred := if slice.isNone then s.barredSlices i else []
  { bad := badEmit w th, reads := emitReads w, cls := 14, act := fun t s => (addCopy target time cut dead barred t, s) }
def emitQueuePlan (i : Fin 16) (w : Word) (th : Thread) (p : Packet) (s : State) : Plan :=
  let q := emitTarget w th
  let e := sl (q / 4096)
  emitPlan i w th s (.queue q) false (cutOk s e (s.queuePort e (q % 4096)) (q % 4096) p.speed) (some (q / 4096))
def emitPortPlan (i : Fin 16) (w : Word) (th : Thread) (p : Packet) (s : State) : Plan :=
  let n := emitTarget w th
  let e := sl (n / 64)
  let q := (fld (s.actEntry e 0 (n % 64)).w0 11 0 + fld (NMap.get 0 th.m 9) 4 2) % 4096
  emitPlan i w th s (.port n) false (cutOk s e (n % 64) q p.speed) (some (n / 64))
def emitMergePlan (i : Fin 16) (w : Word) (th : Thread) (s : State) : Plan :=
  emitPlan i w th s (.merge (emitTarget w th)) true false (some (emitTarget w th / 64))
def emitEqxPlan (i : Fin 16) (w : Word) (th : Thread) (s : State) : Plan := emitPlan i w th s (.eqx (emitTarget w th)) true false none
def emitMcastPlan (i : Fin 16) (w : Word) (th : Thread) (s : State) : Plan := emitPlan i w th s (.mcast (emitTarget w th)) false true none
def puntPlan (w : Word) (th : Thread) : Plan :=
  let r := bitAt w 37
  let ring := if r then fld (th.get (gReg (fA w))) 7 0 else fld w 7 0
  { bad := decide (fD w ≠ 0) || decide (fB w ≠ 0) || decide (fld w 40 38 ≠ 0) || decide (fld w 35 16 ≠ 0) || (r && decide (fld w 7 0 ≠ 0)) ||
      (!r && decide (fA w ≠ 0)) || tooMany th,
    reads := [mReg 9, mReg 13] ++ (if r then [gReg (fA w)] else []), cls := 14,
    act := fun t s => (addCopy (.punt ring (fld w 15 8) (bitAt w 36)) false false 0 [] t, s) }
def rplyPlan (i : Fin 16) (w : Word) (th : Thread) (s : State) : Plan :=
  let m9 := NMap.get 0 th.m 9
  let o : AsyncOp := .rply (fld w 15 0) (fld (th.get (gReg (fA w))) 15 0) (fld (th.get (gReg (fB w))) 31 0) (fld m9 4 2) (fld m9 1 0)
    (NMap.get 0 th.m 13) (fD w)
  { bad := decide (fld w 37 16 ≠ 0) || tooMany th, fenced := if (s.slice i).unitFenced .ddr5 then [9] else [],
    reads := [gReg (fA w), gReg (fB w), mReg 9, mReg 13], writes := o.dests, tag := some (fld w 40 38), cls := 14,
    act := fun t s => (startOp (fld w 40 38) o { t with issued := t.issued + 1 }, s) }

-- DROP, LEARN (R195, R196, R218) -----------------------------------------------------------------------------------

def dropPlan (w : Word) : Plan :=
  { bad := decide (fld w 55 7 ≠ 0), ends := true, cls := 15, act := fun t s => ({ t with hold := .dropping (fld w 7 0) }, s) }
/-- A request enters the learn queue, or is discarded (R218). -/
def learnPost (i : Fin 16) (key : Nat) (result : Word) (s : State) : State :=
  if !bitAt (s.reg i Reg.TBL_CFG) 40 || decide (256 ≤ (s.slice i).tbl.learn.length) then s.count i Reg.TBL_COUNT1 47 32
  else s.modTbl i (fun t => { t with learn := t.learn ++ [(key, result)] })
def learnPlan (i : Fin 16) (w : Word) (th : Thread) (s : State) : Plan :=
  { bad := decide (fD w ≠ 0) || decide (fld w 40 0 ≠ 0) || decide (fA w = 31),
    fenced := if (s.slice i).unitFenced .learn then [10] else [], reads := gRegs (fA w) 2 ++ [gReg (fB w)], cls := 15,
    act := fun t s => (t, learnPost i (th.key (fA w) 2) (th.get (gReg (fB w))) s) }

end Sys2Proof.Machine
end

