-- ==== Sys2Proof/Machine/ExecPacket.lean ====
section
/-!
DEFINITION. The meanings of the command rows of the packet, table and emission instructions of a thread, and the completions of asynchronous operations: one definition per row.
-/
namespace Sys2Proof.Machine
open Sys2Proof

/-- LKP_EM (R170): Instruction starting an exact-match lookup under a tag. -/
def execLkpEm (i : Fin 16) (t : Fin 1024) (f : BitVec 56) (s : State) : Answer :=
  done (issue i t.val (kindWord 0x40 37 36 0 f) (fun th _ s => lkpEmPlan i (kindWord 0x40 37 36 0 f) th s) s)
/-- LKP_RM (R172): Instruction starting a rule matcher search under a tag. -/
def execLkpRm (i : Fin 16) (t : Fin 1024) (f : BitVec 56) (s : State) : Answer :=
  done (issue i t.val (kindWord 0x40 37 36 1 f) (fun th _ s => lkpRmPlan i (kindWord 0x40 37 36 1 f) th s) s)
/-- LKP_SR (R172): Instruction starting a Session Record read under a tag. -/
def execLkpSr (i : Fin 16) (t : Fin 1024) (f : BitVec 56) (s : State) : Answer :=
  done (issue i t.val (kindWord 0x40 37 36 2 f) (fun th _ s => lkpSrPlan i (kindWord 0x40 37 36 2 f) th s) s)
/-- LKP_COMPLETE (R163): A lookup completes, writing its destinations and setting its tag DONE with a status. -/
def execLkpComplete (i : Fin 16) (t : Fin 1024) (tag : Fin 8) (err : Fin 3) (s : State) : Answer :=
  done (whenUp (completeOp i t.val tag.val err.val AsyncOp.isLkp) s)
/-- WAIT (R165): Instruction blocking the thread until no tag of its mask is PENDING. -/
def execWait (i : Fin 16) (t : Fin 1024) (f : BitVec 56) (s : State) : Answer :=
  done (issue i t.val (insWord 0x41 f) (fun th _ _ => waitPlan (insWord 0x41 f) th) s)
/-- METER (R173): Instruction applying the packet to a meter under a tag. -/
def execMeter (i : Fin 16) (t : Fin 1024) (f : BitVec 56) (s : State) : Answer :=
  done (issue i t.val (insWord 0x42 f) (fun th p s => meterPlan i (insWord 0x42 f) th p s) s)
/-- METER_COMPLETE (R278): A meter updates its token state and the colour is written with the tag set DONE. -/
def execMeterComplete (i : Fin 16) (t : Fin 1024) (tag : Fin 8) (s : State) : Answer :=
  done (whenUp (completeOp i t.val tag.val 0 AsyncOp.isMeter) s)
/-- STAMP_READ_NOW (R184): Instruction reading current slice time and bound into d and d+1. -/
def execStampReadNow (i : Fin 16) (t : Fin 1024) (f : BitVec 56) (s : State) : Answer :=
  done (issue i t.val (kindWord 0x43 40 38 0 f) (fun _ _ s => stampReadNowPlan i (kindWord 0x43 40 38 0 f) s) s)
/-- STAMP_INS_RX (R185): Instruction adding an edit that writes the receive capture into the frame. -/
def execStampInsRx (i : Fin 16) (t : Fin 1024) (f : BitVec 56) (s : State) : Answer :=
  done (issue i t.val (kindWord 0x43 40 38 1 f) (fun th _ _ => stampInsRxPlan (kindWord 0x43 40 38 1 f) th) s)
/-- STAMP_INS_TX (R185): Instruction adding an edit that writes each copy's transmit instant into the frame. -/
def execStampInsTx (i : Fin 16) (t : Fin 1024) (f : BitVec 56) (s : State) : Answer :=
  done (issue i t.val (kindWord 0x43 40 38 2 f) (fun th _ _ => stampInsTxPlan (kindWord 0x43 40 38 2 f) th) s)
/-- STAMP_CORR (R186): Instruction adding an edit that adds residence time to a PTP correctionField. -/
def execStampCorr (i : Fin 16) (t : Fin 1024) (f : BitVec 56) (s : State) : Answer :=
  done (issue i t.val (kindWord 0x43 40 38 3 f) (fun th _ _ => stampCorrPlan (kindWord 0x43 40 38 3 f) th) s)
/-- EDIT_SET (R181): Instruction adding an edit that writes bytes of b into the frame. -/
def execEditSet (i : Fin 16) (t : Fin 1024) (f : BitVec 56) (s : State) : Answer :=
  done (issue i t.val (kindWord 0x44 40 37 0 f) (fun th _ _ => editSetPlan (kindWord 0x44 40 37 0 f) th) s)
/-- EDIT_INS (R181): Instruction adding an edit that inserts bytes of b into the frame. -/
def execEditIns (i : Fin 16) (t : Fin 1024) (f : BitVec 56) (s : State) : Answer :=
  done (issue i t.val (kindWord 0x44 40 37 1 f) (fun th _ _ => editInsPlan (kindWord 0x44 40 37 1 f) th) s)
/-- EDIT_DEL (R181): Instruction adding an edit that deletes bytes of the frame. -/
def execEditDel (i : Fin 16) (t : Fin 1024) (f : BitVec 56) (s : State) : Answer :=
  done (issue i t.val (kindWord 0x44 40 37 2 f) (fun th _ _ => editDelPlan (kindWord 0x44 40 37 2 f) th) s)
/-- EDIT_CSUM_IP4 (R181): Instruction adding an edit that recomputes an IPv4 header checksum. -/
def execEditCsumIp4 (i : Fin 16) (t : Fin 1024) (f : BitVec 56) (s : State) : Answer :=
  done (issue i t.val (kindWord 0x44 40 37 3 f) (fun th _ _ => editCsumIp4Plan (kindWord 0x44 40 37 3 f) th) s)
/-- EDIT_CSUM_L4 (R182): Instruction adding an edit that adjusts an L4 checksum for earlier changes. -/
def execEditCsumL4 (i : Fin 16) (t : Fin 1024) (f : BitVec 56) (s : State) : Answer :=
  done (issue i t.val (kindWord 0x44 40 37 4 f) (fun th _ _ => editCsumL4Plan (kindWord 0x44 40 37 4 f) th) s)
/-- EDIT_TRUNC (R183): Instruction cutting the edit list back to b[5:0] entries. -/
def execEditTrunc (i : Fin 16) (t : Fin 1024) (f : BitVec 56) (s : State) : Answer :=
  done (issue i t.val (kindWord 0x44 40 37 5 f) (fun th _ _ => editTruncPlan (kindWord 0x44 40 37 5 f) th) s)
/-- SEQ (R175): Instruction requesting a fetch-add on a sequence counter under a tag, optionally ordered. -/
def execSeq (i : Fin 16) (t : Fin 1024) (f : BitVec 56) (s : State) : Answer :=
  done (issue i t.val (insWord 0x45 f) (fun th _ s => seqPlan i (insWord 0x45 f) th s) s)
/-- SEQ_COMPLETE (R176): A sequence counter performs the fetch-add, once ORD's condition holds, and the tag becomes DONE. -/
def execSeqComplete (i : Fin 16) (t : Fin 1024) (tag : Fin 8) (s : State) : Answer :=
  done (whenUp (completeOp i t.val tag.val 0 AsyncOp.isSeq) s)
/-- HASH_FAST (R177): Instruction computing a CRC-64 of one register synchronously. -/
def execHashFast (i : Fin 16) (t : Fin 1024) (f : BitVec 56) (s : State) : Answer :=
  done (issue i t.val (kindWord 0x46 37 37 0 f) (fun th _ _ => hashFastPlan (kindWord 0x46 37 37 0 f) th) s)
/-- HASH_SHA (R178): Instruction starting a SHA-256 of header bytes on a digest unit under a tag. -/
def execHashSha (i : Fin 16) (t : Fin 1024) (f : BitVec 56) (s : State) : Answer :=
  done (issue i t.val (kindWord 0x46 37 37 1 f) (fun th p s => hashShaPlan i (kindWord 0x46 37 37 1 f) th p s) s)
/-- HASH_SHA_COMPLETE (R178): A digest unit finishes a HASH and writes the digest with the tag set DONE. -/
def execHashShaComplete (i : Fin 16) (t : Fin 1024) (tag : Fin 8) (s : State) : Answer :=
  done (whenUp (completeOp i t.val tag.val 0 AsyncOp.isSha) s)
/-- LEDG (R187): Instruction marking the packet evidential with a record index. -/
def execLedg (i : Fin 16) (t : Fin 1024) (f : BitVec 56) (s : State) : Answer :=
  done (issue i t.val (insWord 0x47 f) (fun th _ _ => ledgPlan (insWord 0x47 f) th) s)
/-- MARK (R188): Instruction writing CLASS or COLOUR of m9. -/
def execMark (i : Fin 16) (t : Fin 1024) (f : BitVec 56) (s : State) : Answer :=
  done (issue i t.val (insWord 0x49 f) (fun th _ _ => markPlan (insWord 0x49 f) th) s)
/-- FRAG (R189): Instruction storing a first fragment's decision in its fragment entry. -/
def execFrag (i : Fin 16) (t : Fin 1024) (f : BitVec 56) (s : State) : Answer :=
  done (issue i t.val (insWord 0x48 f) (fun th p s => fragPlan i (insWord 0x48 f) th p s) s)
/-- EMIT_QUEUE (R192): Instruction adding a copy toward a device-wide subscriber queue. -/
def execEmitQueue (i : Fin 16) (t : Fin 1024) (f : BitVec 56) (s : State) : Answer :=
  done (issue i t.val (kindWord 0x4A 38 36 0 f) (fun th p s => emitQueuePlan i (kindWord 0x4A 38 36 0 f) th p s) s)
/-- EMIT_PORT (R192): Instruction adding a copy toward a port's default queue for its class. -/
def execEmitPort (i : Fin 16) (t : Fin 1024) (f : BitVec 56) (s : State) : Answer :=
  done (issue i t.val (kindWord 0x4A 38 36 1 f) (fun th p s => emitPortPlan i (kindWord 0x4A 38 36 1 f) th p s) s)
/-- EMIT_MERGE (R192): Instruction adding a class 7 copy toward a Ligature merge port. -/
def execEmitMerge (i : Fin 16) (t : Fin 1024) (f : BitVec 56) (s : State) : Answer :=
  done (issue i t.val (kindWord 0x4A 38 36 2 f) (fun th _ s => emitMergePlan i (kindWord 0x4A 38 36 2 f) th s) s)
/-- EMIT_EQX (R192): Instruction adding a class 7 copy toward an Equinox group. -/
def execEmitEqx (i : Fin 16) (t : Fin 1024) (f : BitVec 56) (s : State) : Answer :=
  done (issue i t.val (kindWord 0x4A 38 36 3 f) (fun th _ s => emitEqxPlan i (kindWord 0x4A 38 36 3 f) th s) s)
/-- EMIT_MCAST (R192): Instruction adding a copy toward a multicast list. -/
def execEmitMcast (i : Fin 16) (t : Fin 1024) (f : BitVec 56) (s : State) : Answer :=
  done (issue i t.val (kindWord 0x4A 38 36 4 f) (fun th _ s => emitMcastPlan i (kindWord 0x4A 38 36 4 f) th s) s)
/-- PUNT (R193): Instruction adding a copy toward a host ring of the slice. -/
def execPunt (i : Fin 16) (t : Fin 1024) (f : BitVec 56) (s : State) : Answer :=
  done (issue i t.val (insWord 0x4B f) (fun th _ _ => puntPlan (insWord 0x4B f) th) s)
/-- DROP (R195): Instruction that waits for tags, discards every copy and record, and ends the thread with a program code. -/
def execDrop (i : Fin 16) (t : Fin 1024) (f : BitVec 56) (s : State) : Answer :=
  done (issue i t.val (insWord 0x4C f) (fun _ _ _ => dropPlan (insWord 0x4C f)) s)
/-- RPLY (R194): Instruction fetching a packet from the replay archive under a tag. -/
def execRply (i : Fin 16) (t : Fin 1024) (f : BitVec 56) (s : State) : Answer :=
  done (issue i t.val (insWord 0x4D f) (fun th _ s => rplyPlan i (insWord 0x4D f) th s) s)
/-- RPLY_COMPLETE (R194): The archive read completes, adding a copy on OK or reporting NOT_FOUND or TIMEOUT. -/
def execRplyComplete (i : Fin 16) (t : Fin 1024) (tag : Fin 8) (err : Fin 3) (s : State) : Answer :=
  done (whenUp (completeOp i t.val tag.val err.val AsyncOp.isRply) s)
/-- LEARN (R196): Instruction posting a key and result to the learn queue. -/
def execLearn (i : Fin 16) (t : Fin 1024) (f : BitVec 56) (s : State) : Answer :=
  done (issue i t.val (insWord 0x4E f) (fun th _ s => learnPlan i (insWord 0x4E f) th s) s)

end Sys2Proof.Machine
end

