-- ==== Sys2Proof/Machine/ExecQuill.lean ====
section
/-!
DEFINITION. The meanings of the command rows of the core instructions of a thread: one definition per row.
-/
namespace Sys2Proof.Machine
open Sys2Proof

/-- NOP (R143): Instruction that does nothing. -/
def execNop (i : Fin 16) (t : Fin 1024) (f : BitVec 56) (s : State) : Answer :=
  done (issue i t.val (insWord 0x00 f) (fun _ _ _ => nopPlan (insWord 0x00 f)) s)
/-- ADD (R143): Instruction d := a + b. -/
def execAdd (i : Fin 16) (t : Fin 1024) (f : BitVec 56) (s : State) : Answer :=
  done (issue i t.val (insWord 0x01 f) (fun th _ _ => aluPlan rowAdd (insWord 0x01 f) th) s)
/-- SUB (R143): Instruction d := a − b. -/
def execSub (i : Fin 16) (t : Fin 1024) (f : BitVec 56) (s : State) : Answer :=
  done (issue i t.val (insWord 0x02 f) (fun th _ _ => aluPlan rowSub (insWord 0x02 f) th) s)
/-- AND (R143): Instruction d := a AND b. -/
def execAnd (i : Fin 16) (t : Fin 1024) (f : BitVec 56) (s : State) : Answer :=
  done (issue i t.val (insWord 0x03 f) (fun th _ _ => aluPlan rowAnd (insWord 0x03 f) th) s)
/-- OR (R143): Instruction d := a OR b. -/
def execOr (i : Fin 16) (t : Fin 1024) (f : BitVec 56) (s : State) : Answer :=
  done (issue i t.val (insWord 0x04 f) (fun th _ _ => aluPlan rowOr (insWord 0x04 f) th) s)
/-- XOR (R143): Instruction d := a XOR b. -/
def execXor (i : Fin 16) (t : Fin 1024) (f : BitVec 56) (s : State) : Answer :=
  done (issue i t.val (insWord 0x05 f) (fun th _ _ => aluPlan rowXor (insWord 0x05 f) th) s)
/-- ANDN (R143): Instruction d := a AND NOT b. -/
def execAndn (i : Fin 16) (t : Fin 1024) (f : BitVec 56) (s : State) : Answer :=
  done (issue i t.val (insWord 0x06 f) (fun th _ _ => aluPlan rowAndn (insWord 0x06 f) th) s)
/-- SHL (R143): Instruction shifting a left by b[5:0]. -/
def execShl (i : Fin 16) (t : Fin 1024) (f : BitVec 56) (s : State) : Answer :=
  done (issue i t.val (insWord 0x07 f) (fun th _ _ => aluPlan rowShl (insWord 0x07 f) th) s)
/-- SHR (R143): Instruction shifting a right with zeros in. -/
def execShr (i : Fin 16) (t : Fin 1024) (f : BitVec 56) (s : State) : Answer :=
  done (issue i t.val (insWord 0x08 f) (fun th _ _ => aluPlan rowShr (insWord 0x08 f) th) s)
/-- SAR (R143): Instruction shifting a right with bit 63 copied in. -/
def execSar (i : Fin 16) (t : Fin 1024) (f : BitVec 56) (s : State) : Answer :=
  done (issue i t.val (insWord 0x09 f) (fun th _ _ => aluPlan rowSar (insWord 0x09 f) th) s)
/-- ROL (R143): Instruction rotating a left by b[5:0]. -/
def execRol (i : Fin 16) (t : Fin 1024) (f : BitVec 56) (s : State) : Answer :=
  done (issue i t.val (insWord 0x0A f) (fun th _ _ => aluPlan rowRol (insWord 0x0A f) th) s)
/-- MUL (R143): Instruction d := low 64 bits of a × b. -/
def execMul (i : Fin 16) (t : Fin 1024) (f : BitVec 56) (s : State) : Answer :=
  done (issue i t.val (insWord 0x0B f) (fun th _ _ => aluPlan rowMul (insWord 0x0B f) th) s)
/-- MINU (R143): Instruction d := unsigned minimum of a and b. -/
def execMinu (i : Fin 16) (t : Fin 1024) (f : BitVec 56) (s : State) : Answer :=
  done (issue i t.val (insWord 0x0C f) (fun th _ _ => aluPlan rowMinu (insWord 0x0C f) th) s)
/-- MAXU (R143): Instruction d := unsigned maximum of a and b. -/
def execMaxu (i : Fin 16) (t : Fin 1024) (f : BitVec 56) (s : State) : Answer :=
  done (issue i t.val (insWord 0x0D f) (fun th _ _ => aluPlan rowMaxu (insWord 0x0D f) th) s)
/-- BSWAP (R143): Instruction reversing the low IMM32 bytes of a. -/
def execBswap (i : Fin 16) (t : Fin 1024) (f : BitVec 56) (s : State) : Answer :=
  done (issue i t.val (insWord 0x0E f) (fun th _ _ => aluPlan rowBswap (insWord 0x0E f) th) s)
/-- CLZ (R143): Instruction counting leading zero bits of a. -/
def execClz (i : Fin 16) (t : Fin 1024) (f : BitVec 56) (s : State) : Answer :=
  done (issue i t.val (insWord 0x0F f) (fun th _ _ => aluPlan rowClz (insWord 0x0F f) th) s)
/-- MOV (R143): Instruction d := b. -/
def execMov (i : Fin 16) (t : Fin 1024) (f : BitVec 56) (s : State) : Answer :=
  done (issue i t.val (insWord 0x10 f) (fun th _ _ => aluPlan rowMov (insWord 0x10 f) th) s)
/-- MOVHI (R143): Instruction placing IMM32 in the high half of d over a[31:0]. -/
def execMovhi (i : Fin 16) (t : Fin 1024) (f : BitVec 56) (s : State) : Answer :=
  done (issue i t.val (insWord 0x11 f) (fun th _ _ => aluPlan rowMovhi (insWord 0x11 f) th) s)
/-- CMP (R143): Instruction setting flags from a − b. -/
def execCmp (i : Fin 16) (t : Fin 1024) (f : BitVec 56) (s : State) : Answer :=
  done (issue i t.val (insWord 0x12 f) (fun th _ _ => aluPlan rowCmp (insWord 0x12 f) th) s)
/-- TST (R143): Instruction setting flags from a AND b. -/
def execTst (i : Fin 16) (t : Fin 1024) (f : BitVec 56) (s : State) : Answer :=
  done (issue i t.val (insWord 0x13 f) (fun th _ _ => aluPlan rowTst (insWord 0x13 f) th) s)
/-- EXT (R145): Instruction reading a field from the header window or parse record. -/
def execExt (i : Fin 16) (t : Fin 1024) (f : BitVec 56) (s : State) : Answer :=
  done (issue i t.val (insWord 0x20 f) (fun th p s => extPlan (insWord 0x20 f) th p s) s)
/-- EXTR (R148): Instruction extracting a bit field of a register. -/
def execExtr (i : Fin 16) (t : Fin 1024) (f : BitVec 56) (s : State) : Answer :=
  done (issue i t.val (insWord 0x21 f) (fun th _ _ => extrPlan (insWord 0x21 f) th) s)
/-- INS (R148): Instruction inserting a[WM1:0] into a field of d. -/
def execIns (i : Fin 16) (t : Fin 1024) (f : BitVec 56) (s : State) : Answer :=
  done (issue i t.val (insWord 0x22 f) (fun th _ _ => insPlan (insWord 0x22 f) th) s)
/-- BR (R150): Instruction branching to TARGET. -/
def execBr (i : Fin 16) (t : Fin 1024) (f : BitVec 56) (s : State) : Answer :=
  done (issue i t.val (insWord 0x28 f) (fun _ _ _ => brPlan (insWord 0x28 f)) s)
/-- CALL (R150): Instruction saving PC + 1 in d and branching to TARGET. -/
def execCall (i : Fin 16) (t : Fin 1024) (f : BitVec 56) (s : State) : Answer :=
  done (issue i t.val (insWord 0x29 f) (fun th _ _ => callPlan (insWord 0x29 f) th) s)
/-- JR (R150): Instruction branching to the PC held in a. -/
def execJr (i : Fin 16) (t : Fin 1024) (f : BitVec 56) (s : State) : Answer :=
  done (issue i t.val (insWord 0x2A f) (fun th _ _ => jrPlan (insWord 0x2A f) th) s)
/-- BC (R149): Instruction branching when the flags meet the condition. -/
def execBc (i : Fin 16) (t : Fin 1024) (f : BitVec 56) (s : State) : Answer :=
  done (issue i t.val (insWord 0x2B f) (fun th _ _ => bcPlan (insWord 0x2B f) th) s)
/-- CB (R149): Instruction branching when a and b meet the condition. -/
def execCb (i : Fin 16) (t : Fin 1024) (f : BitVec 56) (s : State) : Answer :=
  done (issue i t.val (insWord 0x2C f) (fun th _ _ => cbPlan (insWord 0x2C f) th) s)
/-- CBI (R149): Instruction branching when a and the immediate meet the condition. -/
def execCbi (i : Fin 16) (t : Fin 1024) (f : BitVec 56) (s : State) : Answer :=
  done (issue i t.val (insWord 0x2D f) (fun th _ _ => cbiPlan (insWord 0x2D f) th) s)
/-- BBIT (R149): Instruction branching when a bit of a equals D. -/
def execBbit (i : Fin 16) (t : Fin 1024) (f : BitVec 56) (s : State) : Answer :=
  done (issue i t.val (insWord 0x2E f) (fun th _ _ => bbitPlan (insWord 0x2E f) th) s)
/-- BT (R149): Instruction branching when a tag meets the test. -/
def execBt (i : Fin 16) (t : Fin 1024) (f : BitVec 56) (s : State) : Answer :=
  done (issue i t.val (insWord 0x2F f) (fun th _ _ => btPlan (insWord 0x2F f) th) s)
/-- LD (R151): Instruction loading from the cluster scratchpad. -/
def execLd (i : Fin 16) (t : Fin 1024) (f : BitVec 56) (s : State) : Answer :=
  done (issue i t.val (insWord 0x30 f) (fun th _ _ => ldPlan i t.val (insWord 0x30 f) th) s)
/-- ST (R151): Instruction storing to the cluster scratchpad. -/
def execSt (i : Fin 16) (t : Fin 1024) (f : BitVec 56) (s : State) : Answer :=
  done (issue i t.val (insWord 0x31 f) (fun th _ _ => stPlan i t.val (insWord 0x31 f) th) s)
/-- SFA (R152): Instruction atomically fetching and adding a scratchpad word. -/
def execSfa (i : Fin 16) (t : Fin 1024) (f : BitVec 56) (s : State) : Answer :=
  done (issue i t.val (insWord 0x32 f) (fun th _ _ => sfaPlan i t.val (insWord 0x32 f) th) s)
/-- CSRR (R153): Instruction reading a thread CSR. -/
def execCsrr (i : Fin 16) (t : Fin 1024) (f : BitVec 56) (s : State) : Answer :=
  done (issue i t.val (insWord 0x38 f) (fun th _ s => csrrPlan i t.val (insWord 0x38 f) th s) s)
/-- CSRW (R153): Instruction writing a thread CSR. -/
def execCsrw (i : Fin 16) (t : Fin 1024) (f : BitVec 56) (s : State) : Answer :=
  done (issue i t.val (insWord 0x39 f) (fun th _ _ => csrwPlan (insWord 0x39 f) th) s)
/-- TRAP (R157): Instruction raising exception cause 5 with a code in m12. -/
def execTrap (i : Fin 16) (t : Fin 1024) (f : BitVec 56) (s : State) : Answer :=
  done (issue i t.val (insWord 0x3C f) (fun _ _ _ => trapPlan (insWord 0x3C f)) s)
/-- END (R155): Instruction that waits for pending tags and ends the thread, committing copies and record. -/
def execEndThread (i : Fin 16) (t : Fin 1024) (f : BitVec 56) (s : State) : Answer :=
  done (issue i t.val (insWord 0x3D f) (fun _ _ _ => endPlan (insWord 0x3D f)) s)

end Sys2Proof.Machine
end

