-- ==== Sys2Proof/Machine/ExecScribe.lean ====
section
/-!
DEFINITION. The meanings of the command rows of Scribe and the board pins: one definition per row.
-/
namespace Sys2Proof.Machine
open Sys2Proof

/-- SCRIBE_BOOT (R412): After a Scribe reset the boot ROM verifies both firmware slots and starts the best valid image. -/
def execScribeBoot (s : State) : Answer :=
  done (scribeBoot s)
/-- SCRIBE_WATCHDOG_EXPIRY (R409): The Scribe's 1 s watchdog expires and the Scribe domain resets. -/
def execScribeWatchdogExpiry (s : State) : Answer :=
  done (scribeWatchdog s)
/-- KEY_DERIVE (R416): The Scribe derives the seal key into the secure scratchpad and SIGNER_READY rises. -/
def execKeyDerive (s : State) : Answer :=
  done (keyDerive s)
/-- TAMPER_PIN (R418): An enabled TAMPER_N input stays low for 1 µs, recording a tamper event and zeroising. -/
def execTamperPin (p : Fin 2 × Bool) (s : State) : Answer :=
  done (tamperPin p.1.val p.2 s)
/-- VOLTAGE_GLITCH (R418): VDD_SCR or the core rail leaves ±10% for 20 ns, recording a tamper event and zeroising. -/
def execVoltageGlitch (s : State) : Answer :=
  done (tamperEvent 3 s)
/-- CLOCK_GLITCH (R418): SCLK departs more than 5% while locked, recording a tamper event and zeroising. -/
def execClockGlitch (s : State) : Answer :=
  done (clockGlitch s)
/-- SEND (R425): SCB_MBX_CMD operation submitting the mailbox message to the Scribe. -/
def execSend (r : Requester) (w : Word) (s : State) : Answer :=
  done (globalCmd Reg.SCB_MBX_CMD r (withOp w 1) (scbCommand r (withOp w 1)) s)
/-- MBX_DATA_WRITE (R434): A write to SCB_MBX_DATA, discarded and counted while BUSY. -/
def execMbxDataWrite (r : Requester) (k : Fin 192) (h : Half) (w : Word) (s : State) : Answer :=
  done (writeAt r (globalOff (Reg.SCB_MBX_DATA + 8 * k.val)) h w (mbxWrite r k.val h w) s)
/-- SCRIBE_MESSAGE_RECEIVE (R427): A Scribe message arrives by UDP or MCTP and is authenticated, queued or discarded. -/
def execScribeMessageReceive (path : Fin 2 × Fin 65536) (bytes : List Byte) (s : State) : Answer :=
  done (if path.1 = 0 then udpArrive path.2.val bytes s else mctpArrive bytes s)
/-- HELLO (R429): Scribe opcode returning BOOT_NONCE, life-cycle state and versions. -/
def execHello (s : State) : Answer :=
  done (serve 0x01 anyPayload opHello s)
/-- REG_READ (R2): Scribe opcode reading registers by offset. -/
def execRegRead (s : State) : Answer :=
  done (serve 0x10 anyPayload opRegRead s)
/-- REG_WRITE (R2): Scribe opcode writing one register by offset. -/
def execRegWrite (s : State) : Answer :=
  done (serve 0x11 anyPayload opRegWrite s)
/-- FAULT_READ (R449): Scribe opcode returning a fault unit's history queue. -/
def execFaultRead (s : State) : Answer :=
  done (serve 0x20 anyPayload opFaultRead s)
/-- CPB_READ (R429): Scribe opcode reading bytes of a Copybook block. -/
def execCpbRead (s : State) : Answer :=
  done (serve 0x30 anyPayload opCpbRead s)
/-- CPB_RELEASE (R331): Scribe opcode running SCRIBE_RELEASE for a slice. -/
def execCpbRelease (s : State) : Answer :=
  done (serve 0x31 anyPayload opCpbRelease s)
/-- SEAL_READ (R327): Scribe opcode reading a seal from the seal buffer. -/
def execSealRead (s : State) : Answer :=
  done (serve 0x32 anyPayload opSealRead s)
/-- CERT_READ (R328): Scribe opcode reading the device certificate. -/
def execCertRead (s : State) : Answer :=
  done (serve 0x33 anyPayload opCertRead s)
/-- LINK_RELEASE (R402): Scribe opcode running RELEASE for a link. -/
def execLinkRelease (s : State) : Answer :=
  done (serve 0x40 anyPayload opLinkRelease s)
/-- LC_TRANSITION_FIELD (R415): Scribe opcode moving PROVISIONED to FIELD and burning the management key. -/
def execLcTransitionField (s : State) : Answer :=
  done (serve 0x50 (targets 2) opField s)
/-- LC_TRANSITION_RETURNED (R415): Scribe opcode moving the device to RETURNED and erasing its keys. -/
def execLcTransitionReturned (s : State) : Answer :=
  done (serve 0x50 (targets 3) opReturned s)
/-- TAMPER_CLEAR (R419): Scribe opcode acknowledging one tamper event in OTP. -/
def execTamperClear (low : BitVec 2) (s : State) : Answer :=
  done (serve 0x51 anyPayload (opTamperClear low.toNat) s)
/-- PROVISION (R415): Scribe opcode drawing and burning the device seed and deriving the seal key. -/
def execProvision (s : State) : Answer :=
  done (serve 0x52 anyPayload opProvision s)
/-- CERT_WRITE (R415): Scribe opcode burning the device certificate and moving to PROVISIONED. -/
def execCertWrite (s : State) : Answer :=
  done (serve 0x53 anyPayload opCertWrite s)
/-- NOTIFY_SET (R430): Scribe opcode setting the NOTIFY destination and class mask. -/
def execNotifySet (s : State) : Answer :=
  done (serve 0x60 anyPayload opNotifySet s)
/-- FW_WRITE (R414): Scribe opcode writing the idle firmware slot or the microcode region. -/
def execFwWrite (s : State) : Answer :=
  done (serve 0x70 anyPayload opFwWrite s)
/-- FW_COMMIT_SVN (R414): Scribe opcode raising MIN_SVN to the running image's SVN. -/
def execFwCommitSvn (s : State) : Answer :=
  done (serve 0x71 anyPayload opCommitSvn s)
/-- MCU_RELOAD (R413): Scribe opcode reloading microcode into EMPTY or HALTED sequencers. -/
def execMcuReload (s : State) : Answer :=
  done (serve 0x72 anyPayload opMcuReload s)
/-- SCRIBE_RESET (R409): Scribe opcode that responds and then resets the Scribe domain. -/
def execScribeReset (s : State) : Answer :=
  done (scribeResetOp s)
/-- SET_ENDPOINT_ID (R424): MCTP control command assigning the endpoint's EID. -/
def execSetEndpointId (op : Fin 256) (eid : Fin 256) (s : State) : Answer :=
  done (setEid op.val eid.val s)
/-- GET_ENDPOINT_ID (R424): MCTP control command returning the endpoint's EID. -/
def execGetEndpointId (s : State) : Answer :=
  done (getEid s)
/-- GET_MCTP_VERSION_SUPPORT (R424): MCTP control command returning supported versions. -/
def execGetMctpVersionSupport (s : State) : Answer :=
  done (mctpVersion s)
/-- GET_MESSAGE_TYPE_SUPPORT (R424): MCTP control command returning supported message types. -/
def execGetMessageTypeSupport (s : State) : Answer :=
  done (mctpTypes s)
/-- GET_VENDOR_DEFINED_MSG_SUPPORT (R424): MCTP control command returning vendor-defined message support. -/
def execGetVendorDefinedMsgSupport (s : State) : Answer :=
  done (mctpVendor s)
/-- ARP_REQUEST (R423): The management Ethernet answers an ARP request. -/
def execArpRequest (mac : List Byte) (ip : List Byte) (target : List Byte) (s : State) : Answer :=
  done (arpReply mac ip target s)
/-- ECHO_REQUEST (R423): The management Ethernet answers an ICMP or ICMPv6 echo request. -/
def execEchoRequest (v6 : Bool × List Byte) (body : List Byte) (s : State) : Answer :=
  done (echoReply v6.1 v6.2 body s)
/-- NEIGHBOUR_DISCOVERY (R423): The management Ethernet answers IPv6 neighbour discovery. -/
def execNeighbourDiscovery (target : List Byte × List Byte) (s : State) : Answer :=
  done (neighbourReply target.1 target.2 s)
/-- ALERT_RESPONSE (R430): The Scribe answers the SMBus Alert Response Address with its address. -/
def execAlertResponse (s : State) : Answer :=
  done (alertResponse s)
/-- APPLY (R433): PMX_CMD operation checking and applying the staged pin and timer assignment. -/
def execApply (r : Requester) (w : Word) (s : State) : Answer :=
  done (globalCmd Reg.PMX_CMD r (withOp w 1) (pmxCommand r (withOp w 1)) s)
/-- PPS_OUT_PULSE (R432): At each whole TAI second a PPS_OUT pin drives its pulse. -/
def execPpsOutPulse (f : Fin 2) (s : State) : Answer :=
  done (ppsOut f.val s)
/-- GATE_TRIG_PULSE (R432): At each gate list cycle start a GATE_TRIG pin drives its pulse. -/
def execGateTrigPulse (g : Fin 4) (s : State) : Answer :=
  done (gateTrig g.val s)

end Sys2Proof.Machine
end

