-- ==== Sys2Proof/Machine/ExecSystem.lean ====
section
/-!
DEFINITION. The meanings of the command rows of registers, slice power, the crossbar map, clocks, reset and power: one definition per row.
-/
namespace Sys2Proof.Machine
open Sys2Proof

/-- REGISTER_WRITE (R2): A write to a register that has no row of its own, judged for width, alignment, requester and reserved fields. -/
def execRegisterWrite (r : Requester) (off : Nat) (size : Nat) (data : Word) (s : State) : Answer :=
  done (regWrite r off size data s)
/-- RC_FIELD_READ (R6): A read of an RC field returns its value and clears it, counting an event of the same cycle after the clear. -/
def execRcFieldRead (r : Requester) (off : Nat) (size : Nat) (s : State) : Answer :=
  done (regRead r off size s)
/-- ENTER_RETENTION (R17): SLC_CMD operation that starts moving an ACTIVE slice with no enabled port into RETENTION. -/
def execEnterRetention (i : Fin 16) (r : Requester) (w : Word) (s : State) : Answer :=
  done (sliceCmd i Reg.SLC_CMD r (withOp w 1) (slcCommand i r (withOp w 1)) s)
/-- RETENTION_ENTERED (R17): After draining packets and closing its Copybook block, the slice completes ENTER_RETENTION with OK. -/
def execRetentionEntered (i : Fin 16) (s : State) : Answer :=
  done (whenUp (retentionEntered i) s)
/-- EXIT_RETENTION (R18): SLC_CMD operation that starts waking a slice from RETENTION. -/
def execExitRetention (i : Fin 16) (r : Requester) (w : Word) (s : State) : Answer :=
  done (sliceCmd i Reg.SLC_CMD r (withOp w 2) (slcCommand i r (withOp w 2)) s)
/-- EXIT_RETENTION_DONE (R18): After memory wake and missed Folio commits are taken, the slice becomes ACTIVE and EXIT_RETENTION completes with OK. -/
def execExitRetentionDone (i : Fin 16) (s : State) : Answer :=
  done (whenUp (exitRetentionDone i) s)
/-- XBR_PART_MAP_WRITE (R26): A write of the partition map is accepted as a new map or discarded while APPLY_PENDING is 1. -/
def execXbrPartMapWrite (r : Requester) (h : Half) (w : Word) (s : State) : Answer :=
  done (writeAt r (globalOff (Reg.XBR_PART_MAP)) h w (partMapWrite r h w) s)
/-- XBR_APPLY_DONE (R25): The last cell accepted under the previous map leaves the crossbar and APPLY_PENDING clears. -/
def execXbrApplyDone (s : State) : Answer :=
  done (whenUp (xbrApplyDone) s)
/-- ROOT_PLL_LOSS (R36): The root PLL loses lock, a fatal fault that idles transmitters, de-asserts HEALTH_N and holds the core in reset. -/
def execRootPllLoss (s : State) : Answer :=
  done (rootPllLoss s)
/-- SCRIBE_PLL_LOSS (R37): The Scribe PLL loses lock, resetting the Scribe domain and zeroising the secure scratchpad. -/
def execScribePllLoss (s : State) : Answer :=
  done (scribePllLoss s)
/-- GLB_HEALTH_WRITE (R90): A write of GLB_HEALTH arms or de-asserts HEALTH_N and restarts the watchdog. -/
def execGlbHealthWrite (r : Requester) (h : Half) (w : Word) (s : State) : Answer :=
  done (writeAt r (globalOff (Reg.GLB_HEALTH)) h w (healthWrite r h w) s)
/-- HEALTH_WATCHDOG_EXPIRY (R91): No ARM = 1 write arrives within WDOG_MS and HEALTH_N de-asserts. -/
def execHealthWatchdogExpiry (s : State) : Answer :=
  done (watchdogExpiry s)
/-- VDD_SCR_POWER_UP (R466): VDD_SCR reaches tolerance and the Scribe domain powers on. -/
def execVddScrPowerUp (straps : Word) (s : State) : Answer :=
  done (vddScrUp straps s)
/-- PWR_OK_RISE (R463): PWR_OK rises, core straps are latched and the root PLL may lock. -/
def execPwrOkRise (straps : Word) (s : State) : Answer :=
  done (pwrOkRise straps s)
/-- PWR_OK_FALL (R464): PWR_OK falls and the core goes to OFF with transmitters idle. -/
def execPwrOkFall (s : State) : Answer :=
  done (pwrOkFall s)
/-- CORE_RAIL_LOW (R464): A core rail falls below its minimum while PWR_OK is high, raising CORE_SUPPLY. -/
def execCoreRailLow (rail : Fin 4096) (s : State) : Answer :=
  done (coreRailLow rail.val s)
/-- ROOT_PLL_LOCK (R468): With power good the root PLL locks and the core moves from OFF to HELD. -/
def execRootPllLock (s : State) : Answer :=
  done (rootPllLock s)
/-- RESET_N (R466): RESET_N held low for 1 µs causes a device reset. -/
def execResetN (straps : Word) (s : State) : Answer :=
  done (resetN straps s)
/-- START (R469): GLB_RST_CMD operation starting the core from HELD. -/
def execStart (r : Requester) (w : Word × Bool) (s : State) : Answer :=
  done (rstWrite r (withOp w.1 1) { s with coolEnough := w.2 })
/-- START_COMPLETE (R470): Arrays are cleared, time started and microcode loaded, and the core reaches UP. -/
def execStartComplete (s : State) : Answer :=
  done (startComplete s)
/-- CORE_RESET (R471): GLB_RST_CMD operation resetting the core domain to HELD. -/
def execCoreReset (r : Requester) (w : Word) (s : State) : Answer :=
  done (rstWrite r (withOp w 2) s)
/-- DEVICE_RESET (R471): GLB_RST_CMD operation resetting the core and resampling straps. -/
def execDeviceReset (r : Requester) (w : Word) (s : State) : Answer :=
  done (rstWrite r (withOp w 3) s)
/-- AUTO_START (R475): With AUTO_START strapped the Scribe writes START once START_READY and the thermal check hold. -/
def execAutoStart (s : State) : Answer :=
  done (autoStart s)
/-- THERMAL_TRIP (R487): A sensor reads above 115 °C for 10 µs and the fatal source THERMAL_TRIP rises. -/
def execThermalTrip (sensor : Fin 17) (s : State) : Answer :=
  done (thermalTrip sensor.val s)

end Sys2Proof.Machine
end

