-- ==== Sys2Proof/Machine/ExecTables.lean ====
section
/-!
DEFINITION. The meanings of the command rows of the forwarding tables, the rule matcher and the packet buffer: one definition per row.
-/
namespace Sys2Proof.Machine
open Sys2Proof

/-- INSERT (R215): TBL_CMD operation inserting an entry by the cuckoo insertion procedure. -/
def execInsert (i : Fin 16) (r : Requester) (rd : Word × Fin 3) (s : State) : Answer :=
  done (sliceCmd i Reg.TBL_CMD r (withOp rd.1 1) (tblCommand i r (withOp rd.1 1) rd.2.val) s)
/-- DELETE (R215): TBL_CMD operation deleting the entry with a key and visibility. -/
def execDelete (i : Fin 16) (r : Requester) (rd : Word × Fin 3) (s : State) : Answer :=
  done (sliceCmd i Reg.TBL_CMD r (withOp rd.1 2) (tblCommand i r (withOp rd.1 2) rd.2.val) s)
/-- UPDATE (R215): TBL_CMD operation replacing the result of an entry. -/
def execUpdate (i : Fin 16) (r : Requester) (rd : Word × Fin 3) (s : State) : Answer :=
  done (sliceCmd i Reg.TBL_CMD r (withOp rd.1 3) (tblCommand i r (withOp rd.1 3) rd.2.val) s)
/-- LOOKUP (R215): TBL_CMD operation finding a key in both tiers and returning its entry and location. -/
def execLookup (i : Fin 16) (r : Requester) (rd : Word × Fin 3) (s : State) : Answer :=
  done (sliceCmd i Reg.TBL_CMD r (withOp rd.1 4) (tblCommand i r (withOp rd.1 4) rd.2.val) s)
/-- READ_SLOT (R215): TBL_CMD operation reading one slot or Session Record. -/
def execReadSlot (i : Fin 16) (r : Requester) (rd : Word × Fin 3) (s : State) : Answer :=
  done (sliceCmd i Reg.TBL_CMD r (withOp rd.1 5) (tblCommand i r (withOp rd.1 5) rd.2.val) s)
/-- WRITE_SLOT (R216): TBL_CMD operation writing or erasing one slot or a staging Session Record. -/
def execWriteSlot (i : Fin 16) (r : Requester) (rd : Word × Fin 3) (s : State) : Answer :=
  done (sliceCmd i Reg.TBL_CMD r (withOp rd.1 6) (tblCommand i r (withOp rd.1 6) rd.2.val) s)
/-- FLUSH_STASH (R210): TBL_CMD operation starting a background pass that re-inserts stash entries. -/
def execFlushStash (i : Fin 16) (r : Requester) (w : Word) (s : State) : Answer :=
  done (sliceCmd i Reg.TBL_CMD r (withOp w 7) (tblCommand i r (withOp w 7) 0) s)
/-- FLUSH_STASH_PASS_END (R210): The background stash flush pass ends and FLUSH_NEAR or FLUSH_FAR clears. -/
def execFlushStashPassEnd (i : Fin 16) (far : Bool × Fin 3) (s : State) : Answer :=
  done (whenUp (flushPass i far.1 far.2.val) s)
/-- DIGEST_SET (R215): TBL_CMD operation setting a segment's expected digest. -/
def execDigestSet (i : Fin 16) (r : Requester) (w : Word) (s : State) : Answer :=
  done (sliceCmd i Reg.TBL_CMD r (withOp w 8) (tblCommand i r (withOp w 8) 0) s)
/-- DIGEST_READ (R215): TBL_CMD operation reading a segment's computed and expected digest. -/
def execDigestRead (i : Fin 16) (r : Requester) (w : Word) (s : State) : Answer :=
  done (sliceCmd i Reg.TBL_CMD r (withOp w 9) (tblCommand i r (withOp w 9) 0) s)
/-- MIGRATION_END (R205): A seed migration of a tier finishes moving entries and clears MIG_NEAR or MIG_FAR. -/
def execMigrationEnd (i : Fin 16) (far : Bool × Fin 3) (s : State) : Answer :=
  done (whenUp (migrationEnd i far.1 far.2.val) s)
/-- LEARN_REQUEST_PROCESS (R219): The learn engine takes one request and refreshes, inserts or refuses, posting an event. -/
def execLearnRequestProcess (i : Fin 16 × Fin 3) (s : State) : Answer :=
  done (whenUp (learnProcess i.1 i.2.val) s)
/-- SWEEP_PASS_START (R221): At each SWEEP_PERIOD the sweeper flips parity and starts a pass, counting an overrun if one runs. -/
def execSweepPassStart (i : Fin 16) (s : State) : Answer :=
  done (whenUp (sweepPassStart i) s)
/-- SWEEP_ENTRY (R221): The sweeper examines one entry, correcting ECC, aging learned entries and accumulating digests. -/
def execSweepEntry (i : Fin 16) (far : Bool) (err : Fin 3) (hit : Bool) (s : State) : Answer :=
  done (whenUp (sweepEntry i far err.val hit) s)
/-- SWEEP_PASS_END (R226): A sweeper pass ends and segment digests are compared or skipped. -/
def execSweepPassEnd (i : Fin 16) (far : Bool) (s : State) : Answer :=
  done (whenUp (sweepPassEnd i far) s)
/-- ECC_WRITEBACK (R224): The sequencer writes back a corrected single-bit error within 10 µs. -/
def execEccWriteback (i : Fin 16) (s : State) : Answer :=
  done (whenUp (eccWriteback i) s)
/-- READ_ROW (R240): RMX_CMD operation reading one row of a copy. -/
def execReadRow (i : Fin 16) (r : Requester) (w : Word) (err : Fin 3) (s : State) : Answer :=
  done (sliceCmd i Reg.RMX_CMD r (withOp w 1) (rmxCommand i r (withOp w 1) err.val) s)
/-- WRITE_ROW (R238): RMX_CMD operation writing one staging row with its group states. -/
def execWriteRow (i : Fin 16) (r : Requester) (w : Word) (s : State) : Answer :=
  done (sliceCmd i Reg.RMX_CMD r (withOp w 2) (rmxCommand i r (withOp w 2) 0) s)
/-- RMX_COPY (R237): RMX_CMD COPY making staging rows and bank configuration equal to active. -/
def execRmxCopy (i : Fin 16) (r : Requester) (w : Word) (s : State) : Answer :=
  done (sliceCmd i Reg.RMX_CMD r (withOp w 3) (rmxCommand i r (withOp w 3) 0) s)
/-- CLEAR_BANK (R237): RMX_CMD operation zeroing every staging row of a bank. -/
def execClearBank (i : Fin 16) (r : Requester) (w : Word) (s : State) : Answer :=
  done (sliceCmd i Reg.RMX_CMD r (withOp w 4) (rmxCommand i r (withOp w 4) 0) s)
/-- READ_CFG (R237): RMX_CMD operation reading RMX_BANK and RMX_SIGSEL of any copy. -/
def execReadCfg (i : Fin 16) (r : Requester) (w : Word) (s : State) : Answer :=
  done (sliceCmd i Reg.RMX_CMD r (withOp w 5) (rmxCommand i r (withOp w 5) 0) s)
/-- RMX_CFG_WRITE (R239): A write of RMX_BANK or RMX_SIGSEL goes to staging or is discarded outside STAGING. -/
def execRmxCfgWrite (i : Fin 16) (r : Requester) (sig : Bool) (b : Fin 16) (h : Half) (w : Word) (s : State) : Answer :=
  done (writeAt r (sliceOff i ((if sig then Reg.RMX_SIGSEL else Reg.RMX_BANK) + 8 * b.val)) h w (rmxCfgWrite i r sig b.val h w) s)
/-- RMX_SCRUB_PASS (R241): Every 10 ms the sequencer scrubs all rows of the three copies, correcting or fencing errors. -/
def execRmxScrubPass (i : Fin 16) (errs : List (Nat × Nat × Bool)) (overrun : Bool) (s : State) : Answer :=
  done (whenUp (rmxScrub i errs overrun) s)
/-- ALLOC (R254): BPM_CMD operation taking a buffer from the smallest fitting pool. -/
def execAlloc (i : Fin 16) (r : Requester) (w : Word) (s : State) : Answer :=
  done (sliceCmd i Reg.BPM_CMD r (withOp w 1) (pausesAfter i (bpmCommand i r (withOp w 1))) s)
/-- FREE (R256): BPM_CMD operation freeing a pool buffer after range, double-free and owner checks. -/
def execFree (i : Fin 16) (r : Requester) (w : Word) (s : State) : Answer :=
  done (sliceCmd i Reg.BPM_CMD r (withOp w 2) (pausesAfter i (bpmCommand i r (withOp w 2))) s)
/-- QUERY (R264): BPM_CMD operation reporting a cell's state, owner and link. -/
def execQuery (i : Fin 16) (r : Requester) (w : Word) (s : State) : Answer :=
  done (sliceCmd i Reg.BPM_CMD r (withOp w 3) (pausesAfter i (bpmCommand i r (withOp w 3))) s)
/-- POOL_FORMAT (R255): BPM_CMD operation rebuilding the three pool free lists from BPM_POOL_CFG. -/
def execPoolFormat (i : Fin 16) (r : Requester) (w : Word) (s : State) : Answer :=
  done (sliceCmd i Reg.BPM_CMD r (withOp w 4) (pausesAfter i (bpmCommand i r (withOp w 4))) s)
/-- BANK_RETAIN (R262): BPM_CMD operation setting a general bank DRAINING. -/
def execBankRetain (i : Fin 16) (r : Requester) (w : Word) (s : State) : Answer :=
  done (sliceCmd i Reg.BPM_CMD r (withOp w 5) (pausesAfter i (bpmCommand i r (withOp w 5))) s)
/-- BANK_WAKE (R262): BPM_CMD operation returning a DRAINING or retained bank toward ACTIVE. -/
def execBankWake (i : Fin 16) (r : Requester) (w : Word) (s : State) : Answer :=
  done (sliceCmd i Reg.BPM_CMD r (withOp w 6) (pausesAfter i (bpmCommand i r (withOp w 6))) s)
/-- BANK_DRAINED (R262): A DRAINING bank holds no allocated or quarantined cell and enters RETENTION. -/
def execBankDrained (i : Fin 16) (b : Fin 16) (s : State) : Answer :=
  done (whenUp (bankDrained i b.val) s)
/-- BANK_WAKE_DONE (R262): A waking bank finishes its 2 µs wake with a rebuilt free list and becomes ACTIVE. -/
def execBankWakeDone (i : Fin 16) (s : State) : Answer :=
  done (whenUp (pausesAfter i (bankWakeDone i)) s)
/-- FREELIST_REBUILD (R250): A broken free list finishes its rebuild and its bank or pool returns to allocation. -/
def execFreelistRebuild (i : Fin 16) (k : Fin 17) (s : State) : Answer :=
  done (whenUp (pausesAfter i (freelistRebuild i k.val)) s)
/-- POOL_FORMAT_DONE (R255): POOL_FORMAT finishes rebuilding the pool free lists and pool requests stop finding their pools empty. -/
def execPoolFormatDone (i : Fin 16) (s : State) : Answer :=
  done (whenUp (formatDone i) s)
/-- TABLE_COMMAND_TIMEOUT (R217): A Far table command that could not start within 1 ms returns TIMEOUT before its first write. -/
def execTableCommandTimeout (i : Fin 16) (s : State) : Answer :=
  done (whenUp (tblTimeout i) s)

end Sys2Proof.Machine
end

