-- ==== Sys2Proof/Machine/ExecTime.lean ====
section
/-!
DEFINITION. The meanings of the command rows of time: one definition per row.
-/
namespace Sys2Proof.Machine
open Sys2Proof

/-- TIME_MARKER (R61): The central reference issues a 1 µs marker and each slice measures skew and updates its skew term, CHECK_VALID and ALARM. -/
def execTimeMarker (lost : BitVec 16) (late : List Nat) (s : State) : Answer :=
  done (whenUp (markerIssue lost late) s)
/-- CHECK_MISSED (R61): A marker not received 40 ns after issue clears CHECK_VALID and raises TBU_CHECK_MISSED. -/
def execCheckMissed (i : Fin 16) (s : State) : Answer :=
  done (whenUp (checkMissed i) s)
/-- TOD_LOAD (R67): TRF_CMD operation that schedules loading the operand time and bound into device time. -/
def execTodLoad (r : Requester) (w : Word) (s : State) : Answer :=
  done (globalCmd Reg.TRF_CMD r (withOp w 1) (trfCmd r (withOp w 1)) s)
/-- TOD_LOAD_APPLY (R67): At the first marker 100 ns after TOD_LOAD all time units take the loaded time as a step. -/
def execTodLoadApply (s : State) : Answer :=
  done (whenUp (todStep) s)
/-- ENTER_HOLDOVER (R68): TRF_CMD operation that moves the servo from ACQUIRING or LOCKED to HOLDOVER. -/
def execEnterHoldover (r : Requester) (w : Word) (s : State) : Answer :=
  done (globalCmd Reg.TRF_CMD r (withOp w 2) (trfCmd r (withOp w 2)) s)
/-- FREERUN (R68): TRF_CMD operation that sends the servo to FREERUN. -/
def execFreerun (r : Requester) (w : Word) (s : State) : Answer :=
  done (globalCmd Reg.TRF_CMD r (withOp w 3) (trfCmd r (withOp w 3)) s)
/-- FREERUN_APPLY (R58): At the next 1 µs marker all bounds become unbounded after a FREERUN command. -/
def execFreerunApply (s : State) : Answer :=
  done (whenUp (freerunApply) s)
/-- TRF_OFFSET_WRITE (R51): A PTP offset sample is written and accepted into the servo or discarded. -/
def execTrfOffsetWrite (r : Requester) (h : Half) (w : Word) (s : State) : Answer :=
  done (writeAt r (globalOff (Reg.TRF_OFFSET)) h w (offsetWrite r h w) s)
/-- PPS_EDGE (R50): A rising edge on PPS_IN yields one offset sample for the servo. -/
def execPpsEdge (interp : Fin 11) (s : State) : Answer :=
  done (whenUp (ppsEdge interp.val) s)
/-- SERVO_STEP_APPLY (R55): At the next 1 µs marker after a stepping sample the central reference and all time base units step by −e. -/
def execServoStepApply (s : State) : Answer :=
  done (whenUp (servoStep) s)
/-- REF_LOSS_TIMEOUT (R497): The loss timer of the selected reference expires and the servo enters HOLDOVER with TIME_REF_LOST. -/
def execRefLossTimeout (s : State) : Answer :=
  done (whenUp (refLoss) s)
/-- FREQ_MEASURE (R53): Each 1 ms the servo measures CCLK against the frequency source and recomputes the addend. -/
def execFreqMeasure (f : Int) (s : State) : Answer :=
  done (whenUp (freqMeasure f) s)
/-- FREQ_SRC_LOSS (R53): The selected frequency source is lost, raising TIME_FREQ_LOST with the last f_src kept. -/
def execFreqSrcLoss (s : State) : Answer :=
  done (whenUp (freqLoss true) s)
/-- TRF_CTRL_WRITE (R497): A write of TRF_CTRL changes the reference, restarting its loss timer, or deselects a frequency source and loads integ. -/
def execTrfCtrlWrite (r : Requester) (h : Half) (w : Word) (s : State) : Answer :=
  done (writeAt r (globalOff (Reg.TRF_CTRL)) h w (trfCtrlWrite r h w) s)
/-- TRF_BOUND_CFG_WRITE (R58): A write of bound terms raises terms at once and schedules lowered terms for the next marker. -/
def execTrfBoundCfgWrite (r : Requester) (h : Half) (w : Word) (s : State) : Answer :=
  done (writeAt r (globalOff (Reg.TRF_BOUND_CFG)) h w (boundCfgWrite r h w) s)
/-- BOUND_LOWER_APPLY (R58): A lowered bound term takes effect at the next 1 µs marker. -/
def execBoundLowerApply (s : State) : Answer :=
  done (whenUp (boundLower) s)
/-- TIME0_READ (R66): A read of TRF_TIME0 or TBU_TIME0 latches the whole time and bound for the upper register. -/
def execTime0Read (r : Requester) (unit : Option (Fin 16)) (h : Half) (s : State) : Answer :=
  done (time0At r unit h s)
/-- FREQ_SRC_RETURN (R53): A lost 10 MHz or SyncE frequency source returns, and the TIME_FREQ_LOST condition stops holding. -/
def execFreqSrcReturn (s : State) : Answer :=
  done (whenUp (freqLoss false) s)

end Sys2Proof.Machine
end

