-- ==== Sys2Proof/Machine/Dispatch.lean ====
section
/-!
DEFINITION. From a command to its meaning: one arm per row of the opcode table.
-/
namespace Sys2Proof.Machine
open Sys2Proof

def exec (i : Instr) (s : State) : Host.Outcome State Fault Refusal :=
  match i with
  | .registerWrite r off size data => Sys2Proof.Machine.execRegisterWrite r off size data s
  | .rcFieldRead r off size => Sys2Proof.Machine.execRcFieldRead r off size s
  | .enterRetention sl r w => Sys2Proof.Machine.execEnterRetention sl r w s
  | .retentionEntered sl => Sys2Proof.Machine.execRetentionEntered sl s
  | .exitRetention sl r w => Sys2Proof.Machine.execExitRetention sl r w s
  | .exitRetentionDone sl => Sys2Proof.Machine.execExitRetentionDone sl s
  | .xbrPartMapWrite r h w => Sys2Proof.Machine.execXbrPartMapWrite r h w s
  | .xbrApplyDone => Sys2Proof.Machine.execXbrApplyDone s
  | .rootPllLoss => Sys2Proof.Machine.execRootPllLoss s
  | .scribePllLoss => Sys2Proof.Machine.execScribePllLoss s
  | .frameStart sl l interp => Sys2Proof.Machine.execFrameStart sl l interp s
  | .frameCellReceived sl l bytes => Sys2Proof.Machine.execFrameCellReceived sl l bytes s
  | .frameEnd sl l tail pcs corrected uncorrectable frags => Sys2Proof.Machine.execFrameEnd sl l tail pcs corrected uncorrectable frags s
  | .parseComplete sl l len => Sys2Proof.Machine.execParseComplete sl l len s
  | .fragWaitRelease sl => Sys2Proof.Machine.execFragWaitRelease sl s
  | .packetStart sl c => Sys2Proof.Machine.execPacketStart sl c s
  | .workSteal sl thief victim => Sys2Proof.Machine.execWorkSteal sl thief victim s
  | .icacheFill sl c => Sys2Proof.Machine.execIcacheFill sl c s
  | .runLimitExpiry sl t => Sys2Proof.Machine.execRunLimitExpiry sl t s
  | .restorerHandOn sl l => Sys2Proof.Machine.execRestorerHandOn sl l s
  | .egressArrival sl src cls => Sys2Proof.Machine.execEgressArrival sl src cls s
  | .portFrameBoundary sl l => Sys2Proof.Machine.execPortFrameBoundary sl l s
  | .transmitComplete sl l => Sys2Proof.Machine.execTransmitComplete sl l s
  | .timeMarker lost late => Sys2Proof.Machine.execTimeMarker lost late s
  | .checkMissed sl => Sys2Proof.Machine.execCheckMissed sl s
  | .todLoad r w => Sys2Proof.Machine.execTodLoad r w s
  | .todLoadApply => Sys2Proof.Machine.execTodLoadApply s
  | .enterHoldover r w => Sys2Proof.Machine.execEnterHoldover r w s
  | .freerun r w => Sys2Proof.Machine.execFreerun r w s
  | .freerunApply => Sys2Proof.Machine.execFreerunApply s
  | .trfOffsetWrite r h w => Sys2Proof.Machine.execTrfOffsetWrite r h w s
  | .ppsEdge interp => Sys2Proof.Machine.execPpsEdge interp s
  | .servoStepApply => Sys2Proof.Machine.execServoStepApply s
  | .refLossTimeout => Sys2Proof.Machine.execRefLossTimeout s
  | .freqMeasure f => Sys2Proof.Machine.execFreqMeasure f s
  | .freqSrcLoss => Sys2Proof.Machine.execFreqSrcLoss s
  | .trfCtrlWrite r h w => Sys2Proof.Machine.execTrfCtrlWrite r h w s
  | .trfBoundCfgWrite r h w => Sys2Proof.Machine.execTrfBoundCfgWrite r h w s
  | .boundLowerApply => Sys2Proof.Machine.execBoundLowerApply s
  | .time0Read r unit h => Sys2Proof.Machine.execTime0Read r unit h s
  | .enable sl l r w => Sys2Proof.Machine.execEnable sl l r w s
  | .disable sl l r w => Sys2Proof.Machine.execDisable sl l r w s
  | .linkUp sl l deskew => Sys2Proof.Machine.execLinkUp sl l deskew s
  | .linkDown sl l => Sys2Proof.Machine.execLinkDown sl l s
  | .calValidRise sl l => Sys2Proof.Machine.execCalValidRise sl l s
  | .prtCalAdjWrite sl l r h w => Sys2Proof.Machine.execPrtCalAdjWrite sl l r h w s
  | .pauseFrameReceived sl l pfc quanta => Sys2Proof.Machine.execPauseFrameReceived sl l pfc quanta s
  | .pauseExpiry sl l => Sys2Proof.Machine.execPauseExpiry sl l s
  | .pauseFrameRepeat sl l => Sys2Proof.Machine.execPauseFrameRepeat sl l s
  | .preemptVerify sl l good => Sys2Proof.Machine.execPreemptVerify sl l good s
  | .glbHealthWrite r h w => Sys2Proof.Machine.execGlbHealthWrite r h w s
  | .healthWatchdogExpiry => Sys2Proof.Machine.execHealthWatchdogExpiry s
  | .frgFlush sl r w => Sys2Proof.Machine.execFrgFlush sl r w s
  | .programStoreWrite sl r bank n h w => Sys2Proof.Machine.execProgramStoreWrite sl r bank n h w s
  | .spadWindowAccess sl r c n h data => Sys2Proof.Machine.execSpadWindowAccess sl r c n h data s
  | .pgmTrapWrite sl r h w => Sys2Proof.Machine.execPgmTrapWrite sl r h w s
  | .seqMicroword sl ecc => Sys2Proof.Machine.execSeqMicroword sl ecc s
  | .seqTrap sl cause => Sys2Proof.Machine.execSeqTrap sl cause s
  | .nop sl t f => Sys2Proof.Machine.execNop sl t f s
  | .add sl t f => Sys2Proof.Machine.execAdd sl t f s
  | .sub sl t f => Sys2Proof.Machine.execSub sl t f s
  | .and sl t f => Sys2Proof.Machine.execAnd sl t f s
  | .or sl t f => Sys2Proof.Machine.execOr sl t f s
  | .xor sl t f => Sys2Proof.Machine.execXor sl t f s
  | .andn sl t f => Sys2Proof.Machine.execAndn sl t f s
  | .shl sl t f => Sys2Proof.Machine.execShl sl t f s
  | .shr sl t f => Sys2Proof.Machine.execShr sl t f s
  | .sar sl t f => Sys2Proof.Machine.execSar sl t f s
  | .rol sl t f => Sys2Proof.Machine.execRol sl t f s
  | .mul sl t f => Sys2Proof.Machine.execMul sl t f s
  | .minu sl t f => Sys2Proof.Machine.execMinu sl t f s
  | .maxu sl t f => Sys2Proof.Machine.execMaxu sl t f s
  | .bswap sl t f => Sys2Proof.Machine.execBswap sl t f s
  | .clz sl t f => Sys2Proof.Machine.execClz sl t f s
  | .mov sl t f => Sys2Proof.Machine.execMov sl t f s
  | .movhi sl t f => Sys2Proof.Machine.execMovhi sl t f s
  | .cmp sl t f => Sys2Proof.Machine.execCmp sl t f s
  | .tst sl t f => Sys2Proof.Machine.execTst sl t f s
  | .ext sl t f => Sys2Proof.Machine.execExt sl t f s
  | .extr sl t f => Sys2Proof.Machine.execExtr sl t f s
  | .ins sl t f => Sys2Proof.Machine.execIns sl t f s
  | .br sl t f => Sys2Proof.Machine.execBr sl t f s
  | .call sl t f => Sys2Proof.Machine.execCall sl t f s
  | .jr sl t f => Sys2Proof.Machine.execJr sl t f s
  | .bc sl t f => Sys2Proof.Machine.execBc sl t f s
  | .cb sl t f => Sys2Proof.Machine.execCb sl t f s
  | .cbi sl t f => Sys2Proof.Machine.execCbi sl t f s
  | .bbit sl t f => Sys2Proof.Machine.execBbit sl t f s
  | .bt sl t f => Sys2Proof.Machine.execBt sl t f s
  | .ld sl t f => Sys2Proof.Machine.execLd sl t f s
  | .st sl t f => Sys2Proof.Machine.execSt sl t f s
  | .sfa sl t f => Sys2Proof.Machine.execSfa sl t f s
  | .csrr sl t f => Sys2Proof.Machine.execCsrr sl t f s
  | .csrw sl t f => Sys2Proof.Machine.execCsrw sl t f s
  | .trap sl t f => Sys2Proof.Machine.execTrap sl t f s
  | .endThread sl t f => Sys2Proof.Machine.execEndThread sl t f s
  | .lkpEm sl t f => Sys2Proof.Machine.execLkpEm sl t f s
  | .lkpRm sl t f => Sys2Proof.Machine.execLkpRm sl t f s
  | .lkpSr sl t f => Sys2Proof.Machine.execLkpSr sl t f s
  | .lkpComplete sl t tag err => Sys2Proof.Machine.execLkpComplete sl t tag err s
  | .wait sl t f => Sys2Proof.Machine.execWait sl t f s
  | .meter sl t f => Sys2Proof.Machine.execMeter sl t f s
  | .meterComplete sl t tag => Sys2Proof.Machine.execMeterComplete sl t tag s
  | .stampReadNow sl t f => Sys2Proof.Machine.execStampReadNow sl t f s
  | .stampInsRx sl t f => Sys2Proof.Machine.execStampInsRx sl t f s
  | .stampInsTx sl t f => Sys2Proof.Machine.execStampInsTx sl t f s
  | .stampCorr sl t f => Sys2Proof.Machine.execStampCorr sl t f s
  | .editSet sl t f => Sys2Proof.Machine.execEditSet sl t f s
  | .editIns sl t f => Sys2Proof.Machine.execEditIns sl t f s
  | .editDel sl t f => Sys2Proof.Machine.execEditDel sl t f s
  | .editCsumIp4 sl t f => Sys2Proof.Machine.execEditCsumIp4 sl t f s
  | .editCsumL4 sl t f => Sys2Proof.Machine.execEditCsumL4 sl t f s
  | .editTrunc sl t f => Sys2Proof.Machine.execEditTrunc sl t f s
  | .seq sl t f => Sys2Proof.Machine.execSeq sl t f s
  | .seqComplete sl t tag => Sys2Proof.Machine.execSeqComplete sl t tag s
  | .hashFast sl t f => Sys2Proof.Machine.execHashFast sl t f s
  | .hashSha sl t f => Sys2Proof.Machine.execHashSha sl t f s
  | .hashShaComplete sl t tag => Sys2Proof.Machine.execHashShaComplete sl t tag s
  | .ledg sl t f => Sys2Proof.Machine.execLedg sl t f s
  | .mark sl t f => Sys2Proof.Machine.execMark sl t f s
  | .frag sl t f => Sys2Proof.Machine.execFrag sl t f s
  | .emitQueue sl t f => Sys2Proof.Machine.execEmitQueue sl t f s
  | .emitPort sl t f => Sys2Proof.Machine.execEmitPort sl t f s
  | .emitMerge sl t f => Sys2Proof.Machine.execEmitMerge sl t f s
  | .emitEqx sl t f => Sys2Proof.Machine.execEmitEqx sl t f s
  | .emitMcast sl t f => Sys2Proof.Machine.execEmitMcast sl t f s
  | .punt sl t f => Sys2Proof.Machine.execPunt sl t f s
  | .drop sl t f => Sys2Proof.Machine.execDrop sl t f s
  | .rply sl t f => Sys2Proof.Machine.execRply sl t f s
  | .rplyComplete sl t tag err => Sys2Proof.Machine.execRplyComplete sl t tag err s
  | .learn sl t f => Sys2Proof.Machine.execLearn sl t f s
  | .insert sl r w => Sys2Proof.Machine.execInsert sl r w s
  | .delete sl r w => Sys2Proof.Machine.execDelete sl r w s
  | .update sl r w => Sys2Proof.Machine.execUpdate sl r w s
  | .lookup sl r rd => Sys2Proof.Machine.execLookup sl r rd s
  | .readSlot sl r rd => Sys2Proof.Machine.execReadSlot sl r rd s
  | .writeSlot sl r w => Sys2Proof.Machine.execWriteSlot sl r w s
  | .flushStash sl r w => Sys2Proof.Machine.execFlushStash sl r w s
  | .flushStashPassEnd sl far => Sys2Proof.Machine.execFlushStashPassEnd sl far s
  | .digestSet sl r w => Sys2Proof.Machine.execDigestSet sl r w s
  | .digestRead sl r w => Sys2Proof.Machine.execDigestRead sl r w s
  | .migrationEnd sl far => Sys2Proof.Machine.execMigrationEnd sl far s
  | .learnRequestProcess sl => Sys2Proof.Machine.execLearnRequestProcess sl s
  | .sweepPassStart sl => Sys2Proof.Machine.execSweepPassStart sl s
  | .sweepEntry sl far err hit => Sys2Proof.Machine.execSweepEntry sl far err hit s
  | .sweepPassEnd sl far => Sys2Proof.Machine.execSweepPassEnd sl far s
  | .eccWriteback sl => Sys2Proof.Machine.execEccWriteback sl s
  | .readRow sl r w err => Sys2Proof.Machine.execReadRow sl r w err s
  | .writeRow sl r w => Sys2Proof.Machine.execWriteRow sl r w s
  | .rmxCopy sl r w => Sys2Proof.Machine.execRmxCopy sl r w s
  | .clearBank sl r w => Sys2Proof.Machine.execClearBank sl r w s
  | .readCfg sl r w => Sys2Proof.Machine.execReadCfg sl r w s
  | .rmxCfgWrite sl r sig b h w => Sys2Proof.Machine.execRmxCfgWrite sl r sig b h w s
  | .rmxScrubPass sl errs overrun => Sys2Proof.Machine.execRmxScrubPass sl errs overrun s
  | .alloc sl r w => Sys2Proof.Machine.execAlloc sl r w s
  | .free sl r w => Sys2Proof.Machine.execFree sl r w s
  | .query sl r w => Sys2Proof.Machine.execQuery sl r w s
  | .poolFormat sl r w => Sys2Proof.Machine.execPoolFormat sl r w s
  | .bankRetain sl r w => Sys2Proof.Machine.execBankRetain sl r w s
  | .bankWake sl r w => Sys2Proof.Machine.execBankWake sl r w s
  | .bankDrained sl b => Sys2Proof.Machine.execBankDrained sl b s
  | .bankWakeDone sl => Sys2Proof.Machine.execBankWakeDone sl s
  | .freelistRebuild sl k => Sys2Proof.Machine.execFreelistRebuild sl k s
  | .schRead sl r w => Sys2Proof.Machine.execSchRead sl r w s
  | .schWrite sl r w => Sys2Proof.Machine.execSchWrite sl r w s
  | .schCopy sl r w => Sys2Proof.Machine.execSchCopy sl r w s
  | .gclSwitch sl r w => Sys2Proof.Machine.execGclSwitch sl r w s
  | .gclCancel sl r w => Sys2Proof.Machine.execGclCancel sl r w s
  | .gclSwitchTime sl => Sys2Proof.Machine.execGclSwitchTime sl s
  | .gateBoundary sl l => Sys2Proof.Machine.execGateBoundary sl l s
  | .mclRead sl r w => Sys2Proof.Machine.execMclRead sl r w s
  | .mclWrite sl r w => Sys2Proof.Machine.execMclWrite sl r w s
  | .mergeEntryDue sl l => Sys2Proof.Machine.execMergeEntryDue sl l s
  | .ligCfgWrite sl r l h w => Sys2Proof.Machine.execLigCfgWrite sl r l h w s
  | .schedule r w => Sys2Proof.Machine.execSchedule r w s
  | .cancel r w => Sys2Proof.Machine.execCancel r w s
  | .seedSwitch => Sys2Proof.Machine.execSeedSwitch s
  | .seedErase sl => Sys2Proof.Machine.execSeedErase sl s
  | .eqxRead sl r w => Sys2Proof.Machine.execEqxRead sl r w s
  | .eqxWrite sl r w => Sys2Proof.Machine.execEqxWrite sl r w s
  | .eqxReleaseStart sl l => Sys2Proof.Machine.execEqxReleaseStart sl l s
  | .mergeReportArrival sl => Sys2Proof.Machine.execMergeReportArrival sl s
  | .reportWaitExpiry sl => Sys2Proof.Machine.execReportWaitExpiry sl s
  | .sealTick => Sys2Proof.Machine.execSealTick s
  | .sealSigned => Sys2Proof.Machine.execSealSigned s
  | .blockCloseDone sl => Sys2Proof.Machine.execBlockCloseDone sl s
  | .blockDrainDma sl errs => Sys2Proof.Machine.execBlockDrainDma sl errs s
  | .scribeRelease sl r w => Sys2Proof.Machine.execScribeRelease sl r w s
  | .cpbCfgWrite sl r h w => Sys2Proof.Machine.execCpbCfgWrite sl r h w s
  | .cpbSealCfgWrite r h w => Sys2Proof.Machine.execCpbSealCfgWrite r h w s
  | .stageOpen r w => Sys2Proof.Machine.execStageOpen r w s
  | .stagingReady => Sys2Proof.Machine.execStagingReady s
  | .commit r w => Sys2Proof.Machine.execCommit r w s
  | .rollback r w => Sys2Proof.Machine.execRollback r w s
  | .abort r w => Sys2Proof.Machine.execAbort r w s
  | .sliceArmed sl => Sys2Proof.Machine.execSliceArmed sl s
  | .armDeadline => Sys2Proof.Machine.execArmDeadline s
  | .folioSwitch sl => Sys2Proof.Machine.execFolioSwitch sl s
  | .sliceDrained sl => Sys2Proof.Machine.execSliceDrained sl s
  | .coherenceCheck => Sys2Proof.Machine.execCoherenceCheck s
  | .folTimeWrite r one h w => Sys2Proof.Machine.execFolTimeWrite r one h w s
  | .folSliceRegWrite sl r k h w => Sys2Proof.Machine.execFolSliceRegWrite sl r k h w s
  | .init sl r w spd => Sys2Proof.Machine.execInit sl r w spd s
  | .setSpeed sl r w => Sys2Proof.Machine.execSetSpeed sl r w s
  | .dramQueueDrained sl => Sys2Proof.Machine.execDramQueueDrained sl s
  | .trainSweepDone sl rd wr => Sys2Proof.Machine.execTrainSweepDone sl rd wr s
  | .phyRelock sl => Sys2Proof.Machine.execPhyRelock sl s
  | .dramTrackingStep sl rank centres => Sys2Proof.Machine.execDramTrackingStep sl rank centres s
  | .dramRefresh sl rank at_ => Sys2Proof.Machine.execDramRefresh sl rank at_ s
  | .rowCloseIdle sl rank bank => Sys2Proof.Machine.execRowCloseIdle sl rank bank s
  | .rankPowerDown sl rank => Sys2Proof.Machine.execRankPowerDown sl rank s
  | .archiveSlotWritten sl => Sys2Proof.Machine.execArchiveSlotWritten sl s
  | .rplGroupWrite sl r g one h w => Sys2Proof.Machine.execRplGroupWrite sl r g one h w s
  | .hostRequest pf bar addr len data err => Sys2Proof.Machine.execHostRequest pf bar addr len data err s
  | .msixAccess pf off len data => Sys2Proof.Machine.execMsixAccess pf off len data s
  | .winWrite r w => Sys2Proof.Machine.execWinWrite r w s
  | .winRead r w => Sys2Proof.Machine.execWinRead r w s
  | .winFlushDone => Sys2Proof.Machine.execWinFlushDone s
  | .setOwner r w => Sys2Proof.Machine.execSetOwner r w s
  | .release r w => Sys2Proof.Machine.execRelease r w s
  | .rngCfgWrite sl r q h w => Sys2Proof.Machine.execRngCfgWrite sl r q h w s
  | .rngTailWrite sl r q h w => Sys2Proof.Machine.execRngTailWrite sl r q h w s
  | .rxItemDeliver sl q => Sys2Proof.Machine.execRxItemDeliver sl q s
  | .txDescriptorProcess sl q => Sys2Proof.Machine.execTxDescriptorProcess sl q s
  | .ringCoalesceTimeout sl q => Sys2Proof.Machine.execRingCoalesceTimeout sl q s
  | .completionReceived l tag status data => Sys2Proof.Machine.execCompletionReceived l tag status data s
  | .completionTimeout tag => Sys2Proof.Machine.execCompletionTimeout tag s
  | .quarantineExpiry tag => Sys2Proof.Machine.execQuarantineExpiry tag s
  | .tagsExhausted sl q => Sys2Proof.Machine.execTagsExhausted sl q s
  | .linkFreeze l pf cause => Sys2Proof.Machine.execLinkFreeze l pf cause s
  | .functionLevelReset pf => Sys2Proof.Machine.execFunctionLevelReset pf s
  | .linkReset l => Sys2Proof.Machine.execLinkReset l s
  | .scribeBoot => Sys2Proof.Machine.execScribeBoot s
  | .scribeWatchdogExpiry => Sys2Proof.Machine.execScribeWatchdogExpiry s
  | .keyDerive => Sys2Proof.Machine.execKeyDerive s
  | .tamperPin p => Sys2Proof.Machine.execTamperPin p s
  | .voltageGlitch => Sys2Proof.Machine.execVoltageGlitch s
  | .clockGlitch => Sys2Proof.Machine.execClockGlitch s
  | .send r w => Sys2Proof.Machine.execSend r w s
  | .mbxDataWrite r k h w => Sys2Proof.Machine.execMbxDataWrite r k h w s
  | .scribeMessageReceive path bytes => Sys2Proof.Machine.execScribeMessageReceive path bytes s
  | .hello => Sys2Proof.Machine.execHello s
  | .regRead => Sys2Proof.Machine.execRegRead s
  | .regWrite => Sys2Proof.Machine.execRegWrite s
  | .faultRead => Sys2Proof.Machine.execFaultRead s
  | .cpbRead => Sys2Proof.Machine.execCpbRead s
  | .cpbRelease => Sys2Proof.Machine.execCpbRelease s
  | .sealRead => Sys2Proof.Machine.execSealRead s
  | .certRead => Sys2Proof.Machine.execCertRead s
  | .linkRelease => Sys2Proof.Machine.execLinkRelease s
  | .lcTransitionField => Sys2Proof.Machine.execLcTransitionField s
  | .lcTransitionReturned => Sys2Proof.Machine.execLcTransitionReturned s
  | .tamperClear low => Sys2Proof.Machine.execTamperClear low s
  | .provision => Sys2Proof.Machine.execProvision s
  | .certWrite => Sys2Proof.Machine.execCertWrite s
  | .notifySet => Sys2Proof.Machine.execNotifySet s
  | .fwWrite => Sys2Proof.Machine.execFwWrite s
  | .fwCommitSvn => Sys2Proof.Machine.execFwCommitSvn s
  | .mcuReload => Sys2Proof.Machine.execMcuReload s
  | .scribeReset => Sys2Proof.Machine.execScribeReset s
  | .setEndpointId op eid => Sys2Proof.Machine.execSetEndpointId op eid s
  | .getEndpointId => Sys2Proof.Machine.execGetEndpointId s
  | .getMctpVersionSupport => Sys2Proof.Machine.execGetMctpVersionSupport s
  | .getMessageTypeSupport => Sys2Proof.Machine.execGetMessageTypeSupport s
  | .getVendorDefinedMsgSupport => Sys2Proof.Machine.execGetVendorDefinedMsgSupport s
  | .arpRequest mac ip target => Sys2Proof.Machine.execArpRequest mac ip target s
  | .echoRequest v6 body => Sys2Proof.Machine.execEchoRequest v6 body s
  | .neighbourDiscovery target => Sys2Proof.Machine.execNeighbourDiscovery target s
  | .alertResponse => Sys2Proof.Machine.execAlertResponse s
  | .apply r w => Sys2Proof.Machine.execApply r w s
  | .ppsOutPulse f => Sys2Proof.Machine.execPpsOutPulse f s
  | .gateTrigPulse g => Sys2Proof.Machine.execGateTrigPulse g s
  | .faultRaise unit id syn => Sys2Proof.Machine.execFaultRaise unit id syn s
  | .faultAutoLift unit id => Sys2Proof.Machine.execFaultAutoLift unit id s
  | .fltSrcWrite r unit id h w => Sys2Proof.Machine.execFltSrcWrite r unit id h w s
  | .faultInterruptDeferred unit => Sys2Proof.Machine.execFaultInterruptDeferred unit s
  | .fltHistRead r unit entry h => Sys2Proof.Machine.execFltHistRead r unit entry h s
  | .pmcIntDeferred sl => Sys2Proof.Machine.execPmcIntDeferred sl s
  | .pmcSmp0Read sl r h => Sys2Proof.Machine.execPmcSmp0Read sl r h s
  | .pmcCfgWrite sl r k h w => Sys2Proof.Machine.execPmcCfgWrite sl r k h w s
  | .tallyTick => Sys2Proof.Machine.execTallyTick s
  | .tallySnapshotDone => Sys2Proof.Machine.execTallySnapshotDone s
  | .tallyRegWrite r k h w => Sys2Proof.Machine.execTallyRegWrite r k h w s
  | .vddScrPowerUp straps => Sys2Proof.Machine.execVddScrPowerUp straps s
  | .pwrOkRise straps => Sys2Proof.Machine.execPwrOkRise straps s
  | .pwrOkFall => Sys2Proof.Machine.execPwrOkFall s
  | .coreRailLow rail => Sys2Proof.Machine.execCoreRailLow rail s
  | .rootPllLock => Sys2Proof.Machine.execRootPllLock s
  | .resetN straps => Sys2Proof.Machine.execResetN straps s
  | .start r w => Sys2Proof.Machine.execStart r w s
  | .startComplete => Sys2Proof.Machine.execStartComplete s
  | .coreReset r w => Sys2Proof.Machine.execCoreReset r w s
  | .deviceReset r w => Sys2Proof.Machine.execDeviceReset r w s
  | .autoStart => Sys2Proof.Machine.execAutoStart s
  | .thermalTrip sensor => Sys2Proof.Machine.execThermalTrip sensor s
  | .shaperEligible sl l => Sys2Proof.Machine.execShaperEligible sl l s
  | .frgFlushDone sl => Sys2Proof.Machine.execFrgFlushDone sl s
  | .poolFormatDone sl => Sys2Proof.Machine.execPoolFormatDone sl s
  | .fragmentEntryExpiry sl place => Sys2Proof.Machine.execFragmentEntryExpiry sl place s
  | .tableCommandTimeout sl => Sys2Proof.Machine.execTableCommandTimeout sl s
  | .pcieLinkUp l width speed flit => Sys2Proof.Machine.execPcieLinkUp l width speed flit s
  | .pcieLinkDown l => Sys2Proof.Machine.execPcieLinkDown l s
  | .configurationRequest pf off data => Sys2Proof.Machine.execConfigurationRequest pf off data s
  | .freqSrcReturn => Sys2Proof.Machine.execFreqSrcReturn s

end Sys2Proof.Machine
end

