-- ==== Sys2Proof/Safety.lean ====
section
/-!
DEFINITION. What counts as a sound state of the device between two commands, and what no run may undo.
-/
namespace Sys2Proof.Machine
open Sys2Proof

/-- Between two commands no fault reaction waits (R442), and the fabric remembers writes of the PCLK cycle in progress alone (R406). -/
def State.Settled (s : State) : Prop := s.due = [] ∧ ∀ x ∈ s.writes, x.cycle = s.uptime / 4

/-- The one-time programmable state of the Scribe: minimum security version, life cycle, device seed, management key, tamper
thermometers (R413, R416, R419, Table 16.2). -/
structure Otp where
  minSvn : Nat
  lc     : Nat
  seed   : Option Nat
  mgmt   : Option (List Byte)
  tampers : Nat
  acked  : Nat
  deriving DecidableEq, Repr
def Scribe.otp (c : Scribe) : Otp :=
  { minSvn := c.minSvn, lc := c.lc, seed := c.seed, mgmt := c.mgmt, tampers := c.tampers, acked := c.acked }
/-- A sound OTP: a life-cycle state of Table 16.2; no key left in RETURNED; a management key in FIELD alone; 32 thermometer
bits, of which no more are acknowledged than are burnt (R419). -/
def Otp.Sound (o : Otp) : Prop :=
  o.lc ≤ 3 ∧ (o.lc = 3 → o.seed = none) ∧ (o.mgmt.isSome → o.lc = 2) ∧ o.acked ≤ o.tampers ∧ o.tampers ≤ 32
/-- OTP bits are burnt, never cleared: `b` can follow `a`. -/
def Otp.Follows (a b : Otp) : Prop := a.minSvn ≤ b.minSvn ∧ a.lc ≤ b.lc ∧ a.tampers ≤ b.tampers ∧ a.acked ≤ b.acked

/-- What no command but those of the Scribe's own opcodes touches: the queue, time as cycles, the OTP. -/
def State.lasting (s : State) : List Instr × Nat × Otp := (s.pending, s.uptime, s.scribe.otp)

end Sys2Proof.Machine
end

