-- ==== Sys2Proof/WellFormed.lean ====
section
/-!
DEFINITION. Which commands the outside world can give: the operands whose type is wider than what the spec lets them be.
The meanings are total all the same: a command that is not well formed still has a next state.
-/
namespace Sys2Proof

/-- A register access lies within the 128 MiB of BAR0 and has 1 to 8 bytes (Table 20.1). -/
def regAccessOk (off size : Nat) : Bool := decide (0 < size) && decide (size ≤ 8) && decide (off + size ≤ 0x8000000)
/-- A PCI Express memory request moves 1 to 4,096 bytes. -/
def transferOk (len : Nat) (data : Option (List Byte)) : Bool :=
  match data with
  | some bs => decide (0 < bs.length) && decide (bs.length ≤ 4096)
  | none => decide (0 < len) && decide (len ≤ 4096)

/-- A well-formed command. -/
def Instr.wf : Instr → Bool
  | .registerWrite _ off size _ => regAccessOk off size
  | .rcFieldRead _ off size => regAccessOk off size
  | .frameCellReceived _ _ bytes => decide (bytes.length = 128)
  | .frameEnd _ _ tail _ _ _ _ => decide (tail.length ≤ 128)
  | .parseComplete _ _ len => decide (len < 16384)
  | .timeMarker _ late => decide (late.length ≤ 16)
  | .pauseFrameReceived _ _ pfc quanta => decide (quanta.length = if pfc.isSome then 8 else 1) && quanta.all (fun q => decide (q < 65536))
  | .rmxScrubPass _ errs _ => errs.all (fun e => decide (e.1 < 3) && decide (e.2.1 < 32768))
  | .trainSweepDone _ rd wr => decide (rd.length ≤ 20) && decide (wr.length ≤ 20)
  | .dramTrackingStep _ _ centres => decide (centres.length = 10) && centres.all (fun c => decide (c.1 < 128) && decide (c.2 < 128))
  | .hostRequest _ _ addr len data _ => decide (addr < 2 ^ 64) && transferOk len data
  | .msixAccess _ _ len data => transferOk len data
  | .completionReceived _ _ _ data => decide (data.length ≤ 16384)
  | .arpRequest mac ip target => decide (mac.length = 6) && decide (ip.length = 4) && decide (target.length = 4)
  | .neighbourDiscovery target => decide (target.1.length = 16) && decide (target.2.length = 16)
  | .echoRequest v6 _ => decide (v6.2.length = if v6.1 then 16 else 4)
  | .faultRaise _ _ syn => decide (syn < 2 ^ 32)
  | .enterRetention .. | .retentionEntered .. | .exitRetention .. | .exitRetentionDone .. | .xbrPartMapWrite ..
  | .xbrApplyDone | .rootPllLoss | .scribePllLoss | .frameStart .. | .fragWaitRelease .. | .packetStart ..
  | .workSteal .. | .icacheFill .. | .runLimitExpiry .. | .restorerHandOn .. | .egressArrival ..
  | .portFrameBoundary .. | .transmitComplete .. | .checkMissed .. | .todLoad .. | .todLoadApply | .enterHoldover ..
  | .freerun .. | .freerunApply | .trfOffsetWrite .. | .ppsEdge .. | .servoStepApply | .refLossTimeout
  | .freqMeasure .. | .freqSrcLoss | .trfCtrlWrite .. | .trfBoundCfgWrite .. | .boundLowerApply | .time0Read ..
  | .enable .. | .disable .. | .linkUp .. | .linkDown .. | .calValidRise .. | .prtCalAdjWrite .. | .pauseExpiry ..
  | .pauseFrameRepeat .. | .preemptVerify .. | .glbHealthWrite .. | .healthWatchdogExpiry | .frgFlush ..
  | .programStoreWrite .. | .spadWindowAccess .. | .pgmTrapWrite .. | .seqMicroword .. | .seqTrap .. | .nop ..
  | .add .. | .sub .. | .and .. | .or .. | .xor .. | .andn .. | .shl .. | .shr .. | .sar .. | .rol .. | .mul ..
  | .minu .. | .maxu .. | .bswap .. | .clz .. | .mov .. | .movhi .. | .cmp .. | .tst .. | .ext .. | .extr ..
  | .ins .. | .br .. | .call .. | .jr .. | .bc .. | .cb .. | .cbi .. | .bbit .. | .bt .. | .ld .. | .st .. | .sfa ..
  | .csrr .. | .csrw .. | .trap .. | .endThread .. | .lkpEm .. | .lkpRm .. | .lkpSr .. | .lkpComplete .. | .wait ..
  | .meter .. | .meterComplete .. | .stampReadNow .. | .stampInsRx .. | .stampInsTx .. | .stampCorr .. | .editSet ..
  | .editIns .. | .editDel .. | .editCsumIp4 .. | .editCsumL4 .. | .editTrunc .. | .seq .. | .seqComplete ..
  | .hashFast .. | .hashSha .. | .hashShaComplete .. | .ledg .. | .mark .. | .frag .. | .emitQueue .. | .emitPort ..
  | .emitMerge .. | .emitEqx .. | .emitMcast .. | .punt .. | .drop .. | .rply .. | .rplyComplete .. | .learn ..
  | .insert .. | .delete .. | .update .. | .lookup .. | .readSlot .. | .writeSlot .. | .flushStash ..
  | .flushStashPassEnd .. | .digestSet .. | .digestRead .. | .migrationEnd .. | .learnRequestProcess ..
  | .sweepPassStart .. | .sweepEntry .. | .sweepPassEnd .. | .eccWriteback .. | .readRow .. | .writeRow ..
  | .rmxCopy .. | .clearBank .. | .readCfg .. | .rmxCfgWrite .. | .alloc .. | .free .. | .query .. | .poolFormat ..
  | .bankRetain .. | .bankWake .. | .bankDrained .. | .bankWakeDone .. | .freelistRebuild .. | .schRead ..
  | .schWrite .. | .schCopy .. | .gclSwitch .. | .gclCancel .. | .gclSwitchTime .. | .gateBoundary .. | .mclRead ..
  | .mclWrite .. | .mergeEntryDue .. | .ligCfgWrite .. | .schedule .. | .cancel .. | .seedSwitch | .seedErase ..
  | .eqxRead .. | .eqxWrite .. | .eqxReleaseStart .. | .mergeReportArrival .. | .reportWaitExpiry .. | .sealTick
  | .sealSigned | .blockCloseDone .. | .blockDrainDma .. | .scribeRelease .. | .cpbCfgWrite .. | .cpbSealCfgWrite ..
  | .stageOpen .. | .stagingReady | .commit .. | .rollback .. | .abort .. | .sliceArmed .. | .armDeadline
  | .folioSwitch .. | .sliceDrained .. | .coherenceCheck | .folTimeWrite .. | .folSliceRegWrite .. | .init ..
  | .setSpeed .. | .dramQueueDrained .. | .phyRelock .. | .dramRefresh .. | .rowCloseIdle .. | .rankPowerDown ..
  | .archiveSlotWritten .. | .rplGroupWrite .. | .winWrite .. | .winRead .. | .winFlushDone | .setOwner ..
  | .release .. | .rngCfgWrite .. | .rngTailWrite .. | .rxItemDeliver .. | .txDescriptorProcess ..
  | .ringCoalesceTimeout .. | .completionTimeout .. | .quarantineExpiry .. | .tagsExhausted .. | .linkFreeze ..
  | .functionLevelReset .. | .linkReset .. | .scribeBoot | .scribeWatchdogExpiry | .keyDerive | .tamperPin ..
  | .voltageGlitch | .clockGlitch | .send .. | .mbxDataWrite .. | .scribeMessageReceive .. | .hello | .regRead
  | .regWrite | .faultRead | .cpbRead | .cpbRelease | .sealRead | .certRead | .linkRelease | .lcTransitionField
  | .lcTransitionReturned | .tamperClear .. | .provision | .certWrite | .notifySet | .fwWrite | .fwCommitSvn
  | .mcuReload | .scribeReset | .setEndpointId .. | .getEndpointId | .getMctpVersionSupport | .getMessageTypeSupport
  | .getVendorDefinedMsgSupport | .alertResponse | .apply .. | .ppsOutPulse .. | .gateTrigPulse ..
  | .faultAutoLift .. | .fltSrcWrite .. | .faultInterruptDeferred .. | .fltHistRead .. | .pmcIntDeferred ..
  | .pmcSmp0Read .. | .pmcCfgWrite .. | .tallyTick | .tallySnapshotDone | .tallyRegWrite .. | .vddScrPowerUp ..
  | .pwrOkRise .. | .pwrOkFall | .coreRailLow .. | .rootPllLock | .resetN .. | .start .. | .startComplete
  | .coreReset .. | .deviceReset .. | .autoStart | .thermalTrip .. | .shaperEligible .. | .frgFlushDone ..
  | .poolFormatDone .. | .fragmentEntryExpiry .. | .tableCommandTimeout .. | .pcieLinkUp .. | .pcieLinkDown ..
  | .configurationRequest .. | .freqSrcReturn => true

end Sys2Proof
end

