-- ==== Sys2Proof/Certificates/Slice0/Obligations.lean ====
section
/-!
DEFINITION. The statements for the provers.  First the words they share, then the machine's own rules, then the command
families in the table's order.
-/
namespace Sys2Proof.Claims
open Sys2Proof Sys2Proof.Machine

/-- No fault reaction waits and the fabric remembers no write: the device between two commands that follow no write in the same PCLK cycle. -/
structure Calm (s : State) : Prop where
  due  : s.due = []
  free : s.writes = []
/-- The same with the core UP. -/
structure Ready (s : State) : Prop extends Calm s where
  up : s.core = .up
/-- The state in which the fabric has just taken a write: what it remembers until the PCLK cycle ends (R406). -/
def took (r : Requester) (off : Nat) (h : Half) (w : Word) (s : State) : State :=
  { s with writes := { r := r, off := off, h := h, w := w, cycle := s.uptime / 4 } :: s.writes }
/-- A command of slice `i`'s command register at `o`, taken, whose effect on the slice is `f`: nothing else changes. -/
def sliceTook (i : Fin 16) (o : Nat) (r : Requester) (w : Word) (f : Slice → Slice) (s : State) : State :=
  took r (sliceOff i o) .both w (s.modSlice i f)
/-- The command answers a next state of which `p` holds. -/
def Answers (c : Instr) (s : State) (p : State → Prop) : Prop := ∃ t, exec c s = .next t ∧ p t
/-- The command's own effect leaves a state of which `p` holds; then the fault reactions that it brought about take effect. -/
def Effect (c : Instr) (s : State) (p : State → Prop) : Prop := ∃ u, exec c s = .next (settle u) ∧ p u
/-- Every slice but `i` is as before. -/
def OthersKept (i : Fin 16) (s t : State) : Prop := ∀ j, j ≠ i → t.slice j = s.slice j
/-- The two states differ in their slices alone, and in what the fabric remembers. -/
def GlobalsKept (s t : State) : Prop := { t with slices := s.slices, writes := s.writes } = s
/-- A finished command register: its status, not busy. -/
def finished (st : CmdStatus) : CmdReg := { busy := false, status := st }
/-- A running command register. -/
def running : CmdReg := { busy := true, status := .busy }

end Sys2Proof.Claims

open Sys2Proof Sys2Proof.Machine Sys2Proof.Claims

-- The machine ------------------------------------------------------------------------------------------------------

/-- A step takes the command at the front of the queue and runs exactly it on the state with the rest of the queue. -/
def Obligations.StepTakesTheFrontCommand : Prop :=
  ∀ (s : State) (c : Instr) (rest : List Instr), s.pending = c :: rest → step s = exec c { s with pending := rest }

/-- With no command waiting one cycle of the core clock passes (DESIGN CHOICE, log entry 1): uptime advances by one, the queue
stays empty, and no fault reaction is left. -/
def Obligations.IdleStepIsOneCycle : Prop :=
  ∀ s : State, s.pending = [] → ∃ t, step s = .next t ∧ t.uptime = s.uptime + 1 ∧ t.pending = [] ∧ t.due = []

/-- After reset the core is held, every slice is in RETENTION (R16) with its sequencer EMPTY and its channel OFF, the servo runs
free, Folio is IDLE in epoch 0, no ring runs, HEALTH_N is not armed, and nothing is queued.  Values the spec does not give are
the model's (log 3). -/
def Obligations.ResetState : Prop :=
  State.reset.core = .held ∧ State.reset.pending = [] ∧ State.reset.due = [] ∧ State.reset.arm = false ∧
  State.reset.trf.servo = .freerun ∧ State.reset.fol.state = .idle ∧ State.reset.fol.active = 0 ∧ State.reset.fol.prevValid = false ∧
  ∀ i, (State.reset.slice i).pwr = .retention ∧ (State.reset.slice i).seq.state = .empty ∧ (State.reset.slice i).dram.state = .off ∧
    (State.reset.slice i).rings = [] ∧ (State.reset.slice i).packets = [] ∧ (State.reset.slice i).threads = []

/-- The reset state is settled, and its OTP is sound. -/
def Obligations.ResetIsSound : Prop := State.reset.Settled ∧ State.reset.scribe.otp.Sound

/-- From a settled state, whatever the step does, no fault reaction is left waiting and the fabric remembers at most the write just taken (R442, R406). -/
def Obligations.EveryStepSettles : Prop := ∀ s t : State, s.Settled → step s = .next t → t.Settled

/-- Every step keeps the OTP sound: a legal life-cycle state, no seed in RETURNED, a management key in FIELD alone, never more
tamper events acknowledged than burnt, at most 32 burnt. -/
def Obligations.EveryStepKeepsTheOtpSound : Prop :=
  ∀ s t : State, s.scribe.otp.Sound → step s = .next t → t.scribe.otp.Sound

/-- OTP bits are burnt and never cleared: no step lowers MIN_SVN, the life-cycle state or a tamper thermometer. -/
def Obligations.NoStepUnburnsOtp : Prop := ∀ s t : State, s.scribe.otp.Sound → step s = .next t → s.scribe.otp.Follows t.scribe.otp

/-- Every command completes: on every state, with every operand, `exec` answers a next state; and a step with a command waiting uses up
that command and no time. -/
def Obligations.EveryCommandAnswers : Prop :=
  (∀ (c : Instr) (s : State), ∃ t, exec c s = .next t) ∧
  ∀ (s : State) (c : Instr) (rest : List Instr), s.pending = c :: rest →
    ∃ t, step s = .next t ∧ t.pending = rest ∧ t.uptime = s.uptime

-- Registers, slice power, the crossbar map, clocks, reset and power ------------------------------------------------------

/-- R3, R410: a 32-bit write to either half of a command register is discarded and starts nothing: nothing changes, but that the Scribe
learns FENCED of a register that does not answer. -/
def Sys2Proof.Claims.HalfWriteStartsNoCommand : Prop :=
  ∀ (s : State) (r : Requester) (off : Nat) (w : Word), Calm s → off % 4 = 0 → isCommand (off / 8 * 8) = true →
    exec (.registerWrite r off 4 w) s = .next (if s.refusesScribe r (off / 8 * 8) then s.emit (.fenced (off / 8 * 8)) else s)

/-- R2, R385: an access of another width or alignment is performed on no register.  Of the Scribe, a write changes nothing and a read answers 0;
of a PF, both are host requests without a translation: UNMAPPED counts them, and the read is answered with Unsupported Request. -/
def Sys2Proof.Claims.MisalignedAccessTouchesNothing : Prop :=
  ∀ (s : State) (off size : Nat) (w : Word), Calm s → (size = 8 → off % 8 ≠ 0) → (size = 4 → off % 4 ≠ 0) →
    exec (.registerWrite .scribe off size w) s = .next s ∧
    exec (.rcFieldRead .scribe off size) s = .next (s.emit (.readData .scribe off 0)) ∧
    ∀ p : Fin 16,
      exec (.registerWrite (.pf p) off size w) s = .next (s.gcount Reg.HST_COUNT2 63 32) ∧
      exec (.rcFieldRead (.pf p) off size) s = .next (refuseRead p.val 1 (s.gcount Reg.HST_COUNT2 63 32))
/-- R2, R3, R385: half writes of command registers, and accesses of another width or alignment, reach no register and start nothing. -/
def Obligations.AccessWidths : Prop := Claims.HalfWriteStartsNoCommand ∧ Claims.MisalignedAccessTouchesNothing


/-- Slice registers that software writes, each with the bits of its fields: FRG_CFG, DSP_CFG, TBL_CFG, DRM_CFG, FLT_INT_CFG, PMC_CTRL. -/
def Sys2Proof.Claims.plainWritable : List (Nat × Word) :=
  [(0x20100, 0x7fff03ffffff), (0x1000, 0xffff00007fff03ff), (0x40048, 0xffff010100ff0000), (0xe0000, 0xffffffffffffffff),
   (0xf0020, 0x800007ff00000000), (0x100000, 0xc00007ff00000001)]
/-- Slice registers whose 64 bits a read clears: SLC_REFUSED, TBU_COUNT, FRG_COUNT0 and 1, DSP_COUNT0 and 1, PGM_COUNT0 and 1,
TBL_COUNT0 and 1, RMX_COUNT0 to 2, BPM_COUNT0 and 1, SCH_COUNT0, CPB_COUNT0 and 1, DRM_COUNT0 and 1. -/
def Sys2Proof.Claims.clearedByRead : List Nat :=
  [0x18, 0xc0020, 0x20118, 0x20120, 0x1010, 0x1018, 0x2008, 0x2010, 0x40080, 0x40088, 0x41050, 0x41058, 0x41060, 0x80048, 0x80050,
   0x90038, 0xd0060, 0xd0068, 0xe00d0, 0xe00d8]
/-- Global registers that software writes: TRF_OPERAND0 and 1, TRF_SERVO_CFG, LIG_SEED_TIME0 and 1, DFLT_INT_CFG. -/
def Sys2Proof.Claims.plainGlobals : List (Nat × Word) :=
  [(0x30018, 0xffffffffffffffff), (0x30020, 0xffffffff), (0x30030, 0xffffffffffffffff), (0x30108, 0xffffffffffffffff), (0x30110, 0xffffffff),
   (0x80020, 0x800007ff00000000)]
/-- Global registers whose 64 bits a read clears: XBR_PART_DROP0, FOL_COUNT, CPB_SEAL_COUNT, HST_COUNT0 to 2, TLY_COUNT, GLB_REFUSED. -/
def Sys2Proof.Claims.globalsCleared : List Nat := [0x20100, 0x40028, 0x51018, 0x10080, 0x10088, 0x10090, 0x90028, 0x68]
/-- An access of 4 or 8 bytes, aligned to its size, covers part `h` of the register: its offset and size, and the bits that it covers. -/
def Sys2Proof.Claims.access (h : Half) (off : Nat) : Nat × Nat × Word :=
  match h with
  | .both => (off, 8, 0xffffffffffffffff)
  | .low => (off, 4, 0xffffffff)
  | .high => (off + 4, 4, 0xffffffff00000000)
/-- What a write of `w` by an access of part `h` brings to the register: 32 bits of a half access in their half. -/
def Sys2Proof.Claims.carried (h : Half) (w : Word) : Word :=
  match h with
  | .both => w
  | .low => w &&& 0xffffffff
  | .high => w <<< 32
/-- What an access of part `h` reads of a register that holds `w`. -/
def Sys2Proof.Claims.returned (h : Half) (w : Word) : Word :=
  match h with
  | .both => w
  | .low => w &&& 0xffffffff
  | .high => w >>> 32
/-- R2, R5, R6: REGISTER_WRITE of 8 bytes or of one half, by the slice's owner PF or the Scribe, changes the writable bits of the part that
it covers and nothing else, and by another requester nothing; so does one of a global register by the device-owner PF or the
Scribe.  RC_FIELD_READ by one that may write answers the part read and clears it, one of another register answers and clears nothing,
and a read by a PF that may read alone clears nothing.  A half read clears its half alone (log 25). -/
def Obligations.RegisterAccess : Prop :=
  ∀ (s : State) (i : Fin 16) (r : Requester) (h : Half) (w : Word), Ready s →
    (∀ p ∈ plainWritable, let a := access h (sliceOff i p.1)
      let m := p.2 &&& a.2.2
      exec (.registerWrite r a.1 a.2.1 w) s = .next
        (if s.sliceWriter i r then took r (sliceOff i p.1) h (carried h w) (s.setReg i p.1 ((s.reg i p.1 &&& ~~~m) ||| (carried h w &&& m))) else s)) ∧
    (∀ p ∈ plainGlobals, let a := access h (globalOff p.1)
      let m := p.2 &&& a.2.2
      exec (.registerWrite r a.1 a.2.1 w) s = .next
        (if s.globalWriter r then took r (globalOff p.1) h (carried h w) (s.setGreg p.1 ((s.greg p.1 &&& ~~~m) ||| (carried h w &&& m))) else s)) ∧
    (∀ o ∈ clearedByRead, let a := access h (sliceOff i o)
      (s.sliceWriter i r = true → exec (.rcFieldRead r a.1 a.2.1) s = .next
        ((s.setReg i o (s.reg i o &&& ~~~a.2.2)).emit (.readData r a.1 (returned h (s.reg i o))))) ∧
      (s.sliceWriter i r = false → s.globalWriter r = true → exec (.rcFieldRead r a.1 a.2.1) s = .next (s.emit (.readData r a.1 (returned h (s.reg i o)))))) ∧
    (∀ o ∈ globalsCleared, let a := access h (globalOff o)
      exec (.rcFieldRead r a.1 a.2.1) s = .next
        ((if s.globalWriter r then s.setGreg o (s.greg o &&& ~~~a.2.2) else s).emit (.readData r a.1 (returned h (s.greg o))))) ∧
    (∀ p ∈ plainWritable, s.mayReadSlice i r = true → let a := access h (sliceOff i p.1)
      exec (.rcFieldRead r a.1 a.2.1) s = .next (s.emit (.readData r a.1 (returned h (s.reg i p.1))))) ∧
    (∀ p ∈ plainGlobals, let a := access h (globalOff p.1)
      exec (.rcFieldRead r a.1 a.2.1) s = .next (s.emit (.readData r a.1 (returned h (s.greg p.1)))))

/-- R16 to R18: SLC_CMD written by the owner PF or the Scribe on a slice whose SLC_CMD is not busy: ENTER_RETENTION of an ACTIVE
slice with no enabled port starts, EXIT_RETENTION of a slice in RETENTION starts, any other is refused and counted in SLC_REFUSED. -/
def Sys2Proof.Claims.SlicePowerCommands : Prop :=
  ∀ (s : State) (i : Fin 16) (r : Requester) (w : Word), Ready s → s.sliceWriter i r = true → (s.slice i).slcCmd.busy = false →
    ((s.slice i).pwr = .active → (s.slice i).anyPort = false →
      exec (.enterRetention i r w) s = .next (sliceTook i Reg.SLC_CMD r (withOp w 1) (fun x => { x with pwr := .entering, slcCmd := running }) s)) ∧
    ((s.slice i).pwr = .retention →
      exec (.exitRetention i r w) s = .next (sliceTook i Reg.SLC_CMD r (withOp w 2) (fun x => { x with pwr := .leaving, slcCmd := running }) s)) ∧
    ((s.slice i).pwr ≠ .active ∨ (s.slice i).anyPort = true →
      Answers (.enterRetention i r w) s (fun t => (t.slice i).pwr = (s.slice i).pwr ∧ (t.slice i).slcCmd = finished .stateRefused ∧
        t.reg i Reg.SLC_REFUSED = satAdd (s.reg i Reg.SLC_REFUSED) 63 0 1 ∧ OthersKept i s t)) ∧
    ((s.slice i).pwr ≠ .retention →
      Answers (.exitRetention i r w) s (fun t => (t.slice i).pwr = (s.slice i).pwr ∧ (t.slice i).slcCmd = finished .stateRefused ∧
        t.reg i Reg.SLC_REFUSED = satAdd (s.reg i Reg.SLC_REFUSED) 63 0 1 ∧ OthersKept i s t))

/-- R17, R18, R323, R361: an entering slice that holds nothing, and toward which nothing moves, is in RETENTION and its command completes
with OK once its records are written and its blocks closed, or when its channel is not READY, for which it never waits (log 121), and
goes on entering before that; a leaving slice becomes ACTIVE and its command completes with OK.  Neither happens in another power
state. -/
def Sys2Proof.Claims.SlicePowerCompletes : Prop :=
  ∀ (s : State) (i : Fin 16), s.core = .up →
    ((s.slice i).pwr = .entering → (s.slice i).holdsNone = true → (∀ y ∈ s.slices.toList, y.sendsTo i.val = false) →
      (((cpbRetention i s).cpb i).atRest = true ∨ ((cpbRetention i s).slice i).farReady = false →
        Effect (.retentionEntered i) s (fun u => (u.slice i).pwr = .retention ∧ (u.slice i).slcCmd = finished .ok)) ∧
      (((cpbRetention i s).cpb i).atRest = false → ((cpbRetention i s).slice i).farReady = true → Effect (.retentionEntered i) s (fun u => (u.slice i).pwr = .entering))) ∧
    ((s.slice i).pwr = .leaving →
      Effect (.exitRetentionDone i) s (fun u => (u.slice i).pwr = .active ∧ (u.slice i).slcCmd = finished .ok)) ∧
    ((s.slice i).pwr ≠ .entering → Calm s → exec (.retentionEntered i) s = .next s) ∧
    ((s.slice i).pwr ≠ .leaving → Calm s → exec (.exitRetentionDone i) s = .next s)
/-- R16 to R18: the power states of a slice: the commands of SLC_CMD, and their completion. -/
def Obligations.SlicePower : Prop := Claims.SlicePowerCommands ∧ Claims.SlicePowerCompletes


/-- R26: a write of XBR_PART_MAP while APPLY_PENDING is 1 is discarded and increments REFUSED; only the device-owner PF and the
Scribe may write; a write of one half keeps the other half, and the whole map applies as one write. -/
def Obligations.PartitionMapWrites : Prop :=
  ∀ (s : State) (r : Requester) (h : Half) (w : Word), Ready s →
    exec (.xbrPartMapWrite r h w) s = .next
      (if s.globalWriter r then took r (globalOff Reg.XBR_PART_MAP) h w
        (if s.xbrPending then { s with xbrRefused := min (s.xbrRefused + 1) 65535 }
        else { s.setGreg Reg.XBR_PART_MAP ((s.greg Reg.XBR_PART_MAP &&& ~~~ halfMask h) ||| (w &&& halfMask h)) with xbrPending := true })
      else s)

/-- R25: XBR_APPLY_DONE ends the wait of a map write and changes nothing else. -/
def Obligations.PartitionMapApplies : Prop :=
  ∀ s : State, Ready s → exec .xbrApplyDone s = .next { s with xbrPending := false }

/-- R90, R91: a write of ARM = 1 by the device owner or the Scribe arms HEALTH_N and starts the watchdog again, one of ARM = 0
de-asserts it; the watchdog expires only while ARM is 1 and WDOG_MS is not 0, when no ARM = 1 write came for WDOG_MS ms, and
expiry touches neither the slices nor the core's state. -/
def Sys2Proof.Claims.HealthAndWatchdog : Prop :=
  ∀ s : State,
    (∀ (r : Requester) (h : Half) (w : Word), Ready s → s.globalWriter r = true → h ≠ .high →
      Answers (.glbHealthWrite r h w) s (fun t => t.arm = bitAt w 0 ∧ t.wdogMs = fld w 31 16 ∧
        (bitAt w 0 = true → t.armedAt = s.uptime) ∧ t.slices = s.slices ∧ t.core = s.core)) ∧
    (Calm s → s.arm = true → s.wdogMs ≠ 0 → s.armedAt + s.wdogMs * 1500000 ≤ s.uptime →
      Answers .healthWatchdogExpiry s (fun t => t.arm = false ∧ t.wdogExpired = true ∧ t.slices = s.slices ∧ t.core = s.core)) ∧
    (Calm s → (s.arm = false ∨ s.wdogMs = 0 ∨ s.uptime < s.armedAt + s.wdogMs * 1500000) → exec .healthWatchdogExpiry s = .next s)

/-- The cause that a reset of cause `c` leaves in LAST_CAUSE: with a reset of the same cycle before it, the lower of both (R476). -/
def Sys2Proof.Claims.causeAfter (s : State) (c : Nat) : Nat := if s.resetAt = some s.uptime then min s.lastCause c else c
/-- The resets counted after one more: causes of one cycle are one reset. -/
def Sys2Proof.Claims.resetsAfter (s : State) : Nat := if s.resetAt = some s.uptime then s.coreResets else min (s.coreResets + 1) 65535
/-- R36, R38, R464, R465, R468: what the supply, the clocks and the straps do to the core.  A lost root PLL is counted and leaves
the core OFF, as does a fall of PWR_OK, after which it holds no lock (log 76); the PLL locks only with power good, its reference present
and no lock held, and then takes the core from OFF to HELD when its rails are in tolerance (log 128); otherwise a lock changes nothing; a
rise of PWR_OK alone leaves the core OFF.  Unless the core is UP the DDR5 outputs hold RESET_N low and nothing else driven (R491). -/
def Sys2Proof.Claims.PowerAndClockEvents : Prop :=
  ∀ s : State, Calm s →
    (s.rootLock.isSome = true → s.core ≠ .off →
      Answers .rootPllLoss s (fun t => t.core = .off ∧ t.rootLock = none ∧ t.rootLoss = min (s.rootLoss + 1) 65535 ∧
        t.rootLossSeen = true ∧ t.arm = false ∧ t.lastCause = causeAfter s 5 ∧ t.rstCmd.busy = false)) ∧
    (s.pwrOk = true → s.core ≠ .off → Answers .pwrOkFall s (fun t => t.core = .off ∧ t.pwrOk = false ∧ t.rootLock = none ∧ t.arm = false)) ∧
    (∀ pins, s.pwrOk = false → Answers (.pwrOkRise pins) s (fun t => t.pwrOk = true ∧ t.core = s.core ∧
      t.straps = (s.straps &&& 0x6000) ||| (pins &&& 0x9F03))) ∧
    (s.pwrOk = true → s.refPresent = true → s.rootLock = none → s.core = .off →
      exec .rootPllLock s = .next { s with rootLock := some s.uptime, core := if s.railsOk then .held else .off }) ∧
    (s.pwrOk = true → s.refPresent = true → s.rootLock = none → s.core ≠ .off →
      exec .rootPllLock s = .next { s with rootLock := some s.uptime }) ∧
    (s.pwrOk = false ∨ s.refPresent = false ∨ s.rootLock.isSome = true → exec .rootPllLock s = .next s) ∧
    (s.core = .up ↔ s.ddrPin true = none) ∧ (s.core = .up ↔ s.ddrPin false = none) ∧ (s.core ≠ .up → s.ddrPin true = some .low ∧ s.ddrPin false = some .highZ) ∧
    (∀ pins, s.core ≠ .off → Answers (.resetN pins) s (fun t => t.core = .held ∧ t.lastCause = causeAfter s 2 ∧
      t.straps = (s.straps &&& 0x6000) ||| (pins &&& 0x9F03) ∧ ∀ i, (t.slice i).pwr = .retention)) ∧
    (∀ pins, Answers (.vddScrPowerUp pins) s (fun t => t.core = .off ∧ t.pwrOk = false ∧ t.scribeLock = false ∧ t.straps = pins &&& 0x6000 ∧
      t.scribe.otp = s.scribe.otp ∧ t.scribe.booted = false)) ∧
    Answers .scribePllLoss s (fun t => t.scribeLock = false ∧ t.scribe.booted = false ∧ t.signer.ready = false ∧ t.scribe.keyLoaded = false ∧
      t.core = s.core ∧ t.slices = s.slices ∧ t.scribe.otp = s.scribe.otp)
/-- R36, R38, R90, R91, R464, R465, R468: HEALTH_N and its watchdog, and what supply, clocks and straps do to the core. -/
def Obligations.PowerAndHealth : Prop := Claims.HealthAndWatchdog ∧ Claims.PowerAndClockEvents


/-- R437, R464, R487: a rail that falls low, and a sensor past the trip limit, raise the fatal sources CORE_SUPPLY and
THERMAL_TRIP, which hold the core in reset: every slice is back in RETENTION, LAST_CAUSE names the source (7, 6), HEALTH_N is
de-asserted; the rail stays out of tolerance until the next rise of PWR_OK (log 128).  The sources are not merged with a rise of the
same PCLK cycle, nor active already. -/
def Sys2Proof.Claims.FatalEventsResetTheCore : Prop :=
  ∀ s : State, Calm s → s.core ≠ .off →
    (∀ rail, s.pwrOk = true → s.src 16 0xE02 = { reaction := 3 } →
      Answers (.coreRailLow rail) s (fun t => t.core = .held ∧ t.lastCause = causeAfter s 7 ∧ t.arm = false ∧ (t.src 16 0xE02).seen = true ∧ t.railsOk = false ∧
        ∀ i, (t.slice i).pwr = .retention)) ∧
    (∀ sensor, s.src 16 0xE01 = { reaction := 3 } →
      Answers (.thermalTrip sensor) s (fun t => t.core = .held ∧ t.lastCause = causeAfter s 6 ∧ t.arm = false ∧ (t.src 16 0xE01).seen = true ∧
        t.coolEnough = false ∧ ∀ i, (t.slice i).pwr = .retention))

/-- R468 to R471, R475: START with its conditions met takes the core to STARTING and runs, and is refused otherwise: when START_READY is
0, when a sensor is less than 10 °C below its limit, which the row's operand says (log 32), or while a rail is out of tolerance (log 128);
START_COMPLETE takes it UP with its command OK and its cycles counted from now, each slice keeping its owner; CORE_RESET and DEVICE_RESET
take it to HELD (causes 8 and 3) from every state but OFF; AUTO_START starts it when strapped.  A host PF gets PERMISSION for a
DEVICE_RESET. -/
def Sys2Proof.Claims.StartAndReset : Prop :=
  ∀ (s : State) (r : Requester) (w : Word), Calm s →
    (s.globalWriter r = true → s.startReady = true → s.railsOk = true → s.rstCmd.busy = false →
      Answers (.start r (w, true)) s (fun t => t.core = .starting ∧ t.rstCmd = running ∧ t.slices = s.slices)) ∧
    (∀ cool, s.globalWriter r = true → s.core ≠ .off → (s.startReady = false ∨ cool = false ∨ s.railsOk = false) → s.rstCmd.busy = false →
      Answers (.start r (w, cool)) s (fun t => t.core = s.core ∧ t.rstCmd = finished .stateRefused ∧ t.slices = s.slices ∧
        t.greg Reg.GLB_REFUSED = satAdd (s.greg Reg.GLB_REFUSED) 15 0 1)) ∧
    (s.core = .starting → Effect .startComplete s (fun u => u.core = .up ∧ u.rstCmd = finished .ok ∧ u.cycle0 = s.uptime ∧
      u.trf = {} ∧ ∀ i, (u.slice i).pwr = .retention ∧ (u.slice i).owner = (s.slice i).owner)) ∧
    (s.globalWriter r = true → s.core ≠ .off → Answers (.coreReset r w) s (fun t => t.core = .held ∧ t.rstCmd = finished .ok ∧
      t.lastCause = causeAfter s 8 ∧ t.coreResets = resetsAfter s ∧ t.arm = false ∧ t.straps = s.straps ∧ ∀ i, (t.slice i).pwr = .retention)) ∧
    (s.core ≠ .off → Answers (.deviceReset .scribe w) s (fun t => t.core = .held ∧ t.rstCmd = finished .ok ∧ t.lastCause = causeAfter s 3 ∧
      t.straps = (s.straps &&& 0x6000) ||| (s.strapPins &&& 0x9F03))) ∧
    (∀ p, s.core ≠ .off → s.rstCmd.busy = false → Answers (.deviceReset (.pf p) w) s (fun t => t.core = s.core ∧ t.rstCmd = finished .permission)) ∧
    (bitAt s.straps 15 = true → s.startReady = true → s.railsOk = true → s.fatalReset = false → s.rstCmd.busy = false →
      Answers .autoStart s (fun t => t.core = .starting ∧ t.rstCmd = running))
/-- R437, R464, R468 to R471, R475, R487: fatal events reset the core; the core resets, starts and comes up on command. -/
def Obligations.CoreResets : Prop := Claims.FatalEventsResetTheCore ∧ Claims.StartAndReset

-- Frames, ports, fragments, clusters, sequencers -------------------------------------------------------------------------

/-- R81, R82, R57, R63, R99: a delimiter on a lane that receives and holds no frame makes a packet that carries the capture: slice
time plus the interpolation, less RX_DELAY, with the capture bound of R57.  No other slice changes. -/
def Sys2Proof.Claims.FrameStartCaptures : Prop :=
  ∀ (s : State) (i : Fin 16) (l : Fin 64) (interp : Fin 11), Ready s → s.receives i l.val = true → (s.lane i l.val).rx = none →
    Answers (.frameStart i l interp) s (fun t => t.nextId = s.nextId + 1 ∧ (t.lane i l.val).rx = some s.nextId ∧ OthersKept i s t ∧
      ∃ p, t.packet i s.nextId = some p ∧ p.frame = s.nextId ∧ p.lane = l.val ∧ p.parCfg = s.reg i Reg.PAR_CFG ∧ p.alarm = (s.slice i).tbu.alarm ∧
        p.capture = stampOf (((s.sliceT i + interp.val : Nat) : Int) - (s.lane i l.val).rxDelay s.uptime).toNat (s.captureBound i l.val))

/-- R75, R247: 128 further bytes of the frame in reception follow its bytes; at its end the frame is whole, and bad exactly when it
is shorter than 64 bytes, longer than MAX_LEN, fails its FCS, has a PCS error or overlaps an uncorrectable codeword. -/
def Sys2Proof.Claims.FrameCellsAndEnd : Prop :=
  ∀ (s : State) (i : Fin 16) (l : Fin 64) (n : Nat), s.core = .up → (s.lane i l.val).rx = some n →
    (∀ bytes : List Byte, bytes.length = 128 →
      Effect (.frameCellReceived i l bytes) s (fun u => (u.frame n).bytes = (s.frame n).bytes ++ bytes)) ∧
    (∀ (tail : List Byte) (pcs : Bool) (cor unc frags : Nat), (s.slice i).cpb.waiting = [] →
      Effect (.frameEnd i l tail pcs cor unc frags) s (fun u =>
        (u.frame n).bytes = (s.frame n).bytes ++ tail.take 128 ∧ (u.frame n).done = true ∧
        ((u.frame n).bad = true ↔
          ((u.frame n).bytes.length < 64 ∨ fld (s.lane i l.val).cfg 29 16 < (u.frame n).bytes.length ∨
           ofBytesLE ((u.frame n).bytes.drop ((u.frame n).bytes.length - 4)) ≠ crc32 ((u.frame n).bytes.take ((u.frame n).bytes.length - 4)) ∨
           pcs = true ∨ 0 < unc))))
/-- R57, R63, R75, R81, R82, R247: a frame starts with its capture, its cells arrive, and it ends good or bad. -/
def Obligations.FramesArrive : Prop := Claims.FrameStartCaptures ∧ Claims.FrameCellsAndEnd


/-- R92 to R97: the parse record of a frame of `len` bytes (FCS excluded), by the headers of Table 03.12 in its first 256 bytes: where it ends, at which flag of Table 03.14 it stops, and what of Table 03.13
it holds by then.  The window of a short frame ends with the frame, FCS excluded, and an empty window after an L4 header leaves PAYLOAD_OFF 0: the model's choices (log 15). -/
def Sys2Proof.Claims.ParseRecords : Prop :=
  ∀ (cfg : Word) (bytes : List Byte) (len : Nat),
    let h := padTo 256 bytes
    let u8 := fun (o : Nat) => (byteAt h o).toNat
    let be := fun (o n : Nat) => ofBytesBE (slice h o n)
    let lim := min len 256
    let ty := be 12 2
    let base : ParseRec := { ethType := ty, frameLen := len % 65536 }
    let pay := fun (o : Nat) (r : ParseRec) => if o < lim then { r with flags := r.flags + 2 ^ 20, payOff := o, payLen := min (lim - o) 255 } else r
    let is := fun (r : ParseRec) => parseFrame cfg bytes len = r
    (lim < 14 → is { flags := 2 ^ 21, frameLen := len % 65536 }) ∧
    (14 ≤ lim →
      (ty < 0x600 → is { flags := 2 ^ 23, frameLen := len % 65536 }) ∧
      (0x600 ≤ ty → (∀ t ∈ [0x8100, 0x88A8, 0x8847, 0x8848, 0x0800, 0x86DD, 0x0806, 0x88F7], ty ≠ t) → is { base with flags := 2 ^ 23 }) ∧
      -- tags: one before a type that is not recognised, and a third one
      (ty = 0x8100 ∨ ty = 0x88A8 →
        (lim < 18 → is { base with flags := 2 ^ 21 }) ∧
        (18 ≤ lim → let t1 := be 16 2
          ((∀ t ∈ [0x8100, 0x88A8, 0x8847, 0x8848, 0x0800, 0x86DD, 0x0806, 0x88F7], t1 ≠ t) → is { base with flags := 1 + 2 ^ 23, vlan0 := be 14 2, ethType := t1 }) ∧
          (22 ≤ lim → t1 = 0x8100 ∨ t1 = 0x88A8 → be 20 2 = 0x8100 ∨ be 20 2 = 0x88A8 →
            is { base with flags := 2 + 2 ^ 24, vlan0 := be 14 2, vlan1 := be 18 2, ethType := be 20 2 }))) ∧
      -- MPLS: a label before a header that is not recognised, and a fifth one
      (ty = 0x8847 ∨ ty = 0x8848 →
        (19 ≤ lim → u8 16 % 2 = 1 → u8 18 / 16 ≠ 4 → u8 18 / 16 ≠ 6 → is { base with flags := 4 + 2 ^ 23, mpls := 14 }) ∧
        (30 ≤ lim → u8 16 % 2 = 0 → u8 20 % 2 = 0 → u8 24 % 2 = 0 → u8 28 % 2 = 0 → is { base with flags := 16 + 2 ^ 24, mpls := 14 })) ∧
      (ty = 0x0806 → 22 ≤ lim → 22 + 2 * (u8 18 + u8 19) ≤ lim → is { base with flags := 2 ^ 15, oL3 := 14 }) ∧
      (ty = 0x88F7 → 48 ≤ lim → is (pay 14 { base with flags := 2 ^ 16 })) ∧
      -- IPv4, with its header checksum, fragments and transports
      (∀ ihl, ty = 0x0800 → u8 14 = 64 + ihl → ihl < 16 → 34 ≤ lim →
        (ihl < 5 → is { base with flags := 2 ^ 23 }) ∧
        (5 ≤ ihl → 14 + 4 * ihl ≤ lim →
          let o := 14 + 4 * ihl
          let l3 := 2 ^ 5 + (if 5 < ihl then 2 ^ 7 else 0)
          let bad := if onesSum (slice h 14 (4 * ihl)) = 0xFFFF then 0 else 2 ^ 22
          let r : Nat → ParseRec := fun f => { base with flags := l3 + bad + f, oL3 := 14, ipProto := u8 23 }
          let w := be 20 2
          (w % 2 ^ 13 ≠ 0 → is { r (2 ^ 10 + w / 2 ^ 13 % 2 * 2 ^ 28) with fragId := be 18 2, fragOff := w % 2 ^ 13 }) ∧
          (w % 2 ^ 13 = 0 → w / 2 ^ 13 % 2 = 1 → u8 23 = 1 → o + 8 ≤ lim →
            is (pay (o + 8) { r (2 ^ 10 + 2 ^ 11 + 2 ^ 28 + 2 ^ 14) with oL4 := o, fragId := be 18 2 })) ∧
          (w % 2 ^ 14 = 0 →
            (u8 23 ≠ 1 → u8 23 ≠ 6 → u8 23 ≠ 17 → u8 23 ≠ 47 → u8 23 ≠ 58 → is (r (2 ^ 23))) ∧
            (u8 23 = 1 → o + 8 ≤ lim → is (pay (o + 8) { r (2 ^ 14) with oL4 := o })) ∧
            (u8 23 = 6 → o + 20 ≤ lim → let d := u8 (o + 12) / 16
              (d < 5 → is (r (2 ^ 23))) ∧
              (5 ≤ d → o + 4 * d ≤ lim → is (pay (o + 4 * d) { r (2 ^ 13) with oL4 := o, l4src := be o 2, l4dst := be (o + 2) 2 }))) ∧
            (u8 23 = 17 →
              (lim < o + 8 → is (r (2 ^ 21))) ∧
              (o + 8 ≤ lim → let u : Nat → ParseRec := fun f => { r (2 ^ 12 + f) with oL4 := o, l4src := be o 2, l4dst := be (o + 2) 2 }
                (be (o + 2) 2 ≠ fld cfg 15 0 → be (o + 2) 2 ≠ 319 → be (o + 2) 2 ≠ 320 → is (pay (o + 8) (u 0))) ∧
                (be (o + 2) 2 = fld cfg 15 0 → o + 16 ≤ lim →
                  (bitAt cfg 16 = false → is (pay (o + 8) { u (2 ^ 17) with tunnel := o + 8 })) ∧
                  (bitAt cfg 16 = true → be (o + 28) 2 = 0x0806 → o + 38 ≤ lim → o + 38 + 2 * (u8 (o + 34) + u8 (o + 35)) ≤ lim →
                    is (pay (o + 8) { u 0 with flags := bad + 2 ^ 15 + 2 ^ 17 + 2 ^ 19, tunnel := o + 8, iL2 := o + 16, iL3 := o + 30 }))))) ∧
            (u8 23 = 47 → o + 4 ≤ lim → be o 2 = 0 → bitAt cfg 32 = false → is { r (2 ^ 18) with tunnel := o })))) ∧
      -- IPv6, its extension headers and its fragments
      (ty = 0x86DD → 54 ≤ lim →
        (u8 14 / 16 ≠ 6 → is { base with flags := 2 ^ 23 }) ∧
        (u8 14 / 16 = 6 → let r : ParseRec := { base with flags := 2 ^ 6, oL3 := 14 }
          (u8 20 = 58 → 62 ≤ lim → is (pay 62 { r with flags := 2 ^ 6 + 2 ^ 14, ipProto := 58, oL4 := 54 })) ∧
          (let e := 54 + 8 * (u8 55 + 1)
           u8 20 = 0 → 62 ≤ lim → e ≤ lim →
            (u8 54 = 58 → e + 8 ≤ lim → is (pay (e + 8) { r with flags := 2 ^ 6 + 2 ^ 8 + 2 ^ 14, ipProto := 58, oL4 := e })) ∧
            (u8 54 = 59 → is { r with flags := 2 ^ 6 + 2 ^ 8 + 2 ^ 23, ipProto := 59 })) ∧
          (u8 20 = 44 → 62 ≤ lim → let w := be 56 2
            (w / 8 ≠ 0 → is { r with flags := 2 ^ 6 + 2 ^ 8 + 2 ^ 10 + w % 2 * 2 ^ 28, ipProto := u8 54, fragId := be 58 4, fragOff := w / 8 }) ∧
            (w / 8 = 0 → w % 2 = 0 → u8 54 = 59 → is { r with flags := 2 ^ 6 + 2 ^ 8 + 2 ^ 23, ipProto := 59, fragId := be 58 4 })))))
/-- R98, R111, R112: the oldest frame of a port whose header window is complete, no fragment and not preempted, takes the port's next sequence number
and, with room there, the tail of its home cluster's queue. -/
def Sys2Proof.Claims.ParsedFramesQueue : Prop :=
  ∀ (s : State) (i : Fin 16) (l : Fin 64) (len n : Nat) (rest : List Nat) (p : Packet), Ready s →
    (s.lane i l.val).unparsed = n :: rest → s.packet i n = some p → p.lane = l.val → p.alarm = false →
    ((s.frame n).done = true ∨ (256 ≤ (s.frame n).bytes.length ∧ (s.frame n).parts = false)) → ((s.slice i).cluster (l.val / 4)).queue.length < 128 →
    let r := parseFrame p.parCfg (s.frame n).bytes (if (s.frame n).done then (s.frame n).bytes.length - 4 else len)
    r.has flgFirst = false → r.has flgFragment = false →
    Answers (.parseComplete i l len) s (fun t =>
      (t.lane i l.val).unparsed = rest ∧ (t.lane i l.val).seqNext = ((s.lane i l.val).seqNext + 1) % 2 ^ 32 ∧
      ((t.slice i).cluster (l.val / 4)).queue = ((s.slice i).cluster (l.val / 4)).queue ++ [n] ∧
      (∃ q, t.packet i n = some q ∧ q.seq = (s.lane i l.val).seqNext ∧ q.parsed = true ∧ q.parse = r) ∧ OthersKept i s t)
/-- R92 to R98, R111, R112: the parse record of a frame, and the queue that a parsed frame joins. -/
def Obligations.ParseCompleteDispatches : Prop := Claims.ParseRecords ∧ Claims.ParsedFramesQueue

/-- R113, R132, R136, R116 to R118: the head of a queue that lost none in this cycle starts on the free thread with its packet's entry point, or DEFAULT_PC
as it is now where it names none, with its bank and epoch, RUN_LIMIT as it is now, its capture in m1 and m2 and no g register set, once thread, restorer entry and
cluster allow it; an idle cluster one or two away that no nearer one precedes takes an unpinned head that has waited past its threshold in the same way. -/
def Obligations.ThreadsStart : Prop :=
  ∀ (s : State) (i : Fin 16) (n t : Nat) (rest : List Nat) (p : Packet), Ready s → s.packet i n = some p →
    (∀ c : Fin 16, ((s.slice i).cluster c.val).queue = n :: rest → (s.slice i).freeThread c.val = some t → s.canStart i c.val p = true →
      s.lostHead i c.val = false → Answers (.packetStart i c) s (fun u => ((u.slice i).cluster c.val).queue = rest ∧ OthersKept i s u ∧
        ∃ th, u.thread i t = some th ∧ th.pkt = n ∧ th.pc = (if p.deflt then fld (s.reg i Reg.DSP_CFG) 30 16 else p.pc) ∧ th.bank = p.bank ∧ th.epoch = p.epoch ∧
          th.limit = max 256 (fld (s.reg i Reg.DSP_CFG) 63 48) ∧ th.g = [] ∧ th.capture = stampOfPair p.capture.lo p.capture.hi ∧ th.hold = .none)) ∧
    (∀ thief victim : Fin 16, thief ≠ victim → ((s.slice i).cluster victim.val).queue = n :: rest → (s.slice i).freeThread thief.val = some t →
      1 ≤ ringDistance thief.val victim.val → ringDistance thief.val victim.val ≤ 2 → s.idleCluster i thief.val = true →
      s.canStart i thief.val p = true → s.lostHead i victim.val = false → s.stealBeaten i thief.val victim.val p = false →
      p.pinned = false → ((s.slice i).cluster victim.val).thresh ≠ 0 →
      ((s.slice i).cluster victim.val).headAt + ((s.slice i).cluster victim.val).thresh < s.uptime →
      Answers (.workSteal i thief victim) s (fun u => ((u.slice i).cluster victim.val).queue = rest ∧ OthersKept i s u ∧
        ∃ th, u.thread i t = some th ∧ th.pkt = n ∧ th.pc = (if p.deflt then fld (s.reg i Reg.DSP_CFG) 30 16 else p.pc) ∧ th.bank = p.bank ∧ th.hold = .none))

/-- R126, R115, R132: a line that arrives is cached and releases a thread that waits for it; a thread that has run RUN_LIMIT cycles, as it was at its start, is
ended, and one that has not runs on unchanged. -/
def Obligations.CacheFillAndRunLimit : Prop :=
  ∀ (s : State) (i : Fin 16), Ready s →
    (∀ (c : Fin 16) (line t : Nat) (th : Thread), ((s.slice i).cluster c.val).misses = [(line, t)] → s.thread i t = some th →
      Answers (.icacheFill i c) s (fun u => ((u.slice i).cluster c.val).cached line = true ∧ ((u.slice i).cluster c.val).misses = [] ∧
        u.thread i t = some { th with hold := .none } ∧ OthersKept i s u)) ∧
    (∀ (t : Fin 1024) (th : Thread), s.thread i t.val = some th →
      (th.limit ≤ th.ran s.cycle → Effect (.runLimitExpiry i t) s (fun u => u.thread i t.val = none)) ∧
      (th.ran s.cycle < th.limit → exec (.runLimitExpiry i t) s = .next s))

/-- R121, R30: the packet whose turn it is, its thread ended, hands its copies on, one for another slice to the tail of that slice's virtual output queue,
and keeps no restorer entry; with nothing to hand on
and nothing retired ahead of it, its port's turn moves to the next number.  A crossing that may go leaves the head of its virtual
output queue. -/
def Sys2Proof.Claims.HandsOn : Prop :=
  ∀ (s : State) (i : Fin 16), s.core = .up →
    (∀ (l : Fin 64) (n : Nat) (p : Packet) (cs : List Copy), s.turnPacket i l.val = some (n, p) → p.committed = some cs →
      (cs.any Copy.isPunt = true → (s.frame p.frame).done = true) →
      Effect (.restorerHandOn i l) s (fun u => ∀ q, u.packet i n = some q → q.committed = some [] ∧ q.entry = false)) ∧
    (∀ (l : Fin 64) (n : Nat) (p : Packet), s.turnPacket i l.val = some (n, p) → s.packet i n = some p → p.committed = some [] →
      (s.frame p.frame).bad = false → (s.lane i l.val).doneAhead = [] → 0 < p.leaving →
      Effect (.restorerHandOn i l) s (fun u => (u.lane i l.val).turn = ((s.lane i l.val).turn + 1) % 2 ^ 32)) ∧
    (∀ (l : Fin 64) (n : Nat) (p : Packet) (c : Copy) (e : Fin 16), s.turnPacket i l.val = some (n, p) → p.committed = some [c] → c.slices = [e.val] → e ≠ i →
      (∃ g, c.target = .queue g ∨ c.target = .port g ∨ c.target = .merge g) → crossDrop s i e = 0 → (s.frame p.frame).bad = false → (s.frame p.frame).cutOff = false →
      (NMap.get [] (s.slice i).eg.voq (8 * e.val + c.xcls)).any (fun y => y.takes (crossOf i n p c)) = false →
      Effect (.restorerHandOn i l) s (fun u => NMap.get [] (u.slice i).eg.voq (8 * e.val + c.xcls) =
        NMap.get [] (s.slice i).eg.voq (8 * e.val + c.xcls) ++ [crossOf i n p c])) ∧
    (∀ (src : Fin 16) (cls : Fin 8) (x : Cross) (rest : List Cross),
      NMap.get [] (s.slice src).eg.voq (8 * i.val + cls.val) = x :: rest →
      ((s.frame x.frame).done = true ∨ x.copy.cut = true ∨ x.copy.isReplay = true) →
      Effect (.egressArrival i src cls) s (fun u => NMap.get [] (u.slice src).eg.voq (8 * i.val + cls.val) = rest))

/-- No port of the slice may start a frame now, and no queue that is no longer valid holds a copy. -/
def Sys2Proof.Claims.Still (e : Fin 16) (s : State) : Prop :=
  (∀ k, (s.lane e k).enabled = true → (s.lane e k).paused s.uptime = true ∧ ((s.sch e).port k).tx = none) ∧
  ∀ q, ((s.sch e).queue q).copies ≠ [] → s.queueValid e q = true
/-- Queue `q` takes a copy of this colour (R267 to R269): it is valid, its port is up and named, and its depth in cells is below the limit. -/
def Sys2Proof.Claims.Admits (s : State) (e : Fin 16) (q colour : Nat) : Prop :=
  let k := s.queuePort e q
  let w := (s.actEntry e 2 q).w2
  s.queueValid e q = true ∧ (s.slice e).namesPort k = true ∧ (s.lane e k).enabled = true ∧ (s.lane e k).linkUp = true ∧
  sumNat (((s.sch e).queue q).copies.map (·.cells)) < (if colour = 0 then fld w 63 48 else if colour = 1 then fld w 47 32 else fld w 31 16)
/-- The copy of a crossed packet, held in chain `key` for port `k` (R29, R247, R269, R270): its frame, edits, class, cells and wire length. -/
def Sys2Proof.Claims.CopyOf (s : State) (e : Fin 16) (x : Cross) (key k : Nat) (c : EgCopy) : Prop :=
  let n := (s.frame x.frame).bytes.length - 4
  c.frame = x.frame ∧ c.inbound = true ∧ c.chain = key ∧ c.port = k ∧ c.edits = x.copy.edits ∧ c.cls = x.copy.cls ∧
  c.cells = max 1 (cellsFor n) ∧ c.len = editedLen x.copy.edits n + 4 + fld (s.actEntry e 0 k).w0 23 16 ∧ c.capture = x.capture
/-- R29, R247, R267, R269, R288, R301, R499: a whole packet with one copy that crosses takes one chain of cells at the egress slice, one cell for each
128 bytes, and makes one copy for the member of its target: at the tail of the queue, in the merge queue of the port, in the Equinox
queue of the group's member, or in the default queue of the list's member; without a member it is dropped and counted. -/
def Sys2Proof.Claims.CrossingMakesCopies : Prop :=
  ∀ (s s2 : State) (e src : Fin 16) (cls : Fin 8) (x : Cross) (rest : List Cross) (cells : List Nat), s.core = .up → Still e s →
    NMap.get [] (s.slice src).eg.voq (8 * e.val + cls.val) = x :: rest → x.more = [] → x.copy.isReplay = false → (s.frame x.frame).done = true →
    (s.frame x.frame).cutOff = false → (s.frame x.frame).bad = false → crossDrop s src e = 0 → s.packetBroken src x.pkt = false →
    (s.slice e).chainOf x.frame = none →
    let n := max 1 (ceilDiv (s.frame x.frame).bytes.length 128)
    let s1 := s.modEg src (fun g => { g with voq := NMap.set [] g.voq (8 * e.val + cls.val) rest })
    takeCells e (decide (cls.val = 7)) n [] (countCells src e cls.val n (epochSplit e x.epoch s1)) = (some cells, s2) →
    let chained := fun (u : State) => cells.length = n ∧ u.inbound e s2.nextId = { frame := x.frame, cells := cells, refs := 1 }
    let queued := fun (q : Nat) (u : State) => chained u ∧ ∃ c, ((u.sch e).queue q).copies = ((s.sch e).queue q).copies ++ [c] ∧ CopyOf s e x s2.nextId (s.queuePort e q) c
    (∀ q, x.copy.target = .queue q → Admits s e (q % 4096) x.copy.colour → Effect (.egressArrival e src cls) s (queued (q % 4096))) ∧
    (∀ p, x.copy.target = .merge p → bitAt (s.ligCfg e (p % 64)) 63 = true → portTargetDrop s e (p % 64) = none →
      ((s.sch e).port (p % 64)).merge.length < 8192 →
      Effect (.egressArrival e src cls) s (fun u => chained u ∧ ((u.sch e).port (p % 64)).merge.length = ((s.sch e).port (p % 64)).merge.length + 1 ∧
        ∃ c ∈ ((u.sch e).port (p % 64)).merge, CopyOf s e x s2.nextId (p % 64) c ∧ c.dueAt = s.sliceT e ∧ c.rank = x.copy.rank)) ∧
    (∀ g k, x.copy.target = .eqx g → s.members e (.eqx g) = [k] → portTargetDrop s e k = none → ((s.sch e).port k).eqx.length < 256 →
      Effect (.egressArrival e src cls) s (fun u => chained u ∧ ((u.sch e).port k).eqx.length = ((s.sch e).port k).eqx.length + 1 ∧
        ∃ c ∈ ((u.sch e).port k).eqx, CopyOf s e x s2.nextId k c ∧ c.release = x.copy.release ∧ c.group = g)) ∧
    (∀ m k, x.copy.target = .mcast m → s.members e (.mcast m) = [k] → portTargetDrop s e k = none →
      let q := (fld (s.actEntry e 0 k).w0 11 0 + x.copy.cls) % 4096
      Admits s e q x.copy.colour → Effect (.egressArrival e src cls) s (fun u => queued q u ∧ u.reg e Reg.MCL_COUNT = satAdd (s.reg e Reg.MCL_COUNT) 63 32 1)) ∧
    (∀ m, x.copy.target = .mcast m → s.members e (.mcast m) = [] →
      Effect (.egressArrival e src cls) s (fun u => u.reg e Reg.MCL_COUNT = satAdd (s.reg e Reg.MCL_COUNT) 31 0 1 ∧
        ∀ q, ((u.sch e).queue q).copies = ((s.sch e).queue q).copies)) ∧
    (∀ g, x.copy.target = .eqx g → s.members e (.eqx g) = [] →
      Effect (.egressArrival e src cls) s (fun u => u.reg e Reg.EQX_COUNT = satAdd (s.reg e Reg.EQX_COUNT) 31 16 1))
/-- R29, R30, R121, R124, R247, R267 to R269, R288, R301, R499: a packet hands its copies on in its turn, and what a crossing leaves and makes. -/
def Obligations.HandOnAndCrossing : Prop := Claims.HandsOn ∧ Claims.CrossingMakesCopies

/-- The port sends this copy. -/
def Sys2Proof.Claims.Sends (i : Fin 16) (k : Nat) (c : EgCopy) (u : State) : Prop := ∃ x, ((u.sch i).port k).tx = some x ∧ x.copy = c
/-- The copy can be sent: its frame is good, no cell of its chain is quarantined, and its edits fit. -/
def Sys2Proof.Claims.Sendable (s : State) (i : Fin 16) (k : Nat) (c : EgCopy) : Prop :=
  c.badFrame s i = false ∧ (s.slice i).bpm.chainBad (c.cellList s i) = false ∧ ∀ st, editProblem s i k st c = none
/-- R273, R305: what an idle, running port starts at a frame boundary, its tags first brought up to date: an Equinox copy that is ready; else a due merge
entry, else the hierarchy's selection, each where the guard of the next release does not hold it.  A merge entry falling due, a shaper becoming eligible and a
gate boundary start an idle port in the same order. -/
def Obligations.PortStarts : Prop :=
  ∀ (s : State) (i : Fin 16) (l : Fin 64) (c : EgCopy), s.core = .up → ((s.sch i).port l.val).tx = none →
    let r := refreshTags i s
    (r.lane i l.val).enabled = true → (r.lane i l.val).linkUp = true → (r.lane i l.val).paused r.uptime = false →
    ((r.sch i).port l.val).tx = none → Sendable r i l.val c →
    (r.eqxReady i l.val = some c ∨
     (r.eqxReady i l.val = none ∧ r.mergeReady i l.val = some c ∧ eqxGuard r i l.val none c.len ≠ .hold) ∨
     (r.eqxReady i l.val = none ∧ r.mergeReady i l.val = none ∧
      ∃ v q rest, r.portPick i l.val = some (v, q) ∧ ((r.sch i).queue q).copies = c :: rest ∧
        eqxGuard r i l.val (some (r.queuePrio i q)) c.len ≠ .hold)) →
    ∀ cmd ∈ [Instr.portFrameBoundary i l, .mergeEntryDue i l, .shaperEligible i l, .gateBoundary i l], Effect cmd s (Sends i l.val c)

/-- R73, R247, R303: a frame that has wholly left ends its transmission, and with it the DISABLE that waited for it; an Equinox copy that is ready starts at its release on an idle port. -/
def Obligations.TransmissionsEndAndRelease : Prop :=
  ∀ (s : State) (i : Fin 16) (l : Fin 64), s.core = .up →
    (∀ x : Tx, ((s.sch i).port l.val).tx = some x → x.copy.whole s = true → (s.lane i l.val).enabled = true →
      Effect (.transmitComplete i l) s (fun u => ((u.sch i).port l.val).tx = none)) ∧
    (∀ x : Tx, ((s.sch i).port l.val).tx = some x → x.copy.whole s = true → (s.lane i l.val).enabled = false → (s.lane i l.val).draining = true →
      (s.lane i l.val).cmd = running → ((s.sch i).port l.val).preempted = none →
      Effect (.transmitComplete i l) s (fun u => ((u.sch i).port l.val).tx = none ∧ (u.lane i l.val).draining = false ∧ (u.lane i l.val).cmd = finished .ok)) ∧
    (∀ c : EgCopy, ((s.sch i).port l.val).tx = none → (s.lane i l.val).enabled = true → (s.lane i l.val).linkUp = true →
      s.eqxReady i l.val = some c → Sendable s i l.val c → Effect (.eqxReleaseStart i l) s (Sends i l.val c))

/-- R71 to R73: ENABLE of a legal, free and unfenced port of an ACTIVE slice takes PRT_CFG and PRT_PREEMPT as they are written and
completes with OK, the link still down; a PRT_CFG that names no mode is BAD_ARG; DISABLE takes an enabled port out of service, running on while
a frame of it is in transmission, for which its link stays, and is refused on another. -/
def Obligations.PortCommands : Prop :=
  ∀ (s : State) (i : Fin 16) (l : Fin 64) (r : Requester) (w : Word), Ready s → s.sliceWriter i r = true → (s.lane i l.val).cmd.busy = false →
    (badEnable s i l.val = false → (∀ j ∈ enableLanes s i l.val, s.unitFenced i (.port j) = false ∧ (s.slice i).portOf j = none ∧ (s.slice i).drainOf j = none) →
      (s.slice i).pwr = .active →
      Answers (.enable i l r w) s (fun t => (t.lane i l.val).enabled = true ∧ (t.lane i l.val).cfg = s.reg i (prt Reg.PRT_CFG l.val) ∧
        (t.lane i l.val).preCfg = s.reg i (prt Reg.PRT_PREEMPT l.val) ∧ (t.lane i l.val).linkUp = false ∧
        (t.lane i l.val).cmd = finished .ok ∧ OthersKept i s t)) ∧
    (badEnable s i l.val = true → exec (.enable i l r w) s = .next (sliceTook i (prt Reg.PRT_CMD l.val) r (withOp w 1)
      (fun x => x.modLane l.val (fun y => { y with cmd := finished .badArg })) s)) ∧
    ((s.lane i l.val).enabled = true → Effect (.disable i l r w) s (fun u => (u.lane i l.val).enabled = false ∧
      (u.lane i l.val).linkUp = ((s.lane i l.val).linkUp && ((u.sch i).port l.val).tx.isSome) ∧ (u.lane i l.val).calValid = false ∧ (u.lane i l.val).draining = ((u.sch i).port l.val).tx.isSome ∧
      (u.lane i l.val).cmd = if ((u.sch i).port l.val).tx.isSome then running else finished .ok)) ∧
    ((s.lane i l.val).enabled = false → Answers (.disable i l r w) s (fun t => (t.lane i l.val).cmd = finished .stateRefused ∧
      (t.lane i l.val).enabled = false ∧ OthersKept i s t))

/-- R72, R74, R80, R85, R87: what link and calibration events do to a port.  LINK_UP rises only on an enabled port without one, falls
only where it stands; CAL_VALID rises one microsecond after it; an adjustment by the owner is kept beside the one it replaces;
a verify exchange sets PREEMPT_ACTIVE as it ends. -/
def Sys2Proof.Claims.LinkEvents : Prop :=
  ∀ (s : State) (i : Fin 16) (l : Fin 64), Ready s →
    (∀ d, (s.lane i l.val).enabled = true → (s.lane i l.val).linkUp = false →
      Answers (.linkUp i l d) s (fun t => (t.lane i l.val).linkUp = true ∧ (t.lane i l.val).linkUpAt = s.uptime ∧
        (t.lane i l.val).calValid = false ∧ OthersKept i s t)) ∧
    (∀ d, (s.lane i l.val).enabled = false ∨ (s.lane i l.val).linkUp = true → exec (.linkUp i l d) s = .next s) ∧
    ((s.lane i l.val).enabled = true ∨ (s.lane i l.val).draining = true → (s.lane i l.val).linkUp = true →
      Effect (.linkDown i l) s (fun u => (u.lane i l.val).linkUp = false ∧ (u.lane i l.val).calValid = false ∧
        (u.lane i l.val).preempt = false ∧ ((u.sch i).port l.val).tx = none)) ∧
    ((s.lane i l.val).enabled = true → (s.lane i l.val).linkUp = true → (s.lane i l.val).linkUpAt + 1500 ≤ s.uptime →
      exec (.calValidRise i l) s = .next (s.modLane i l.val (fun x => { x with calValid := true }))) ∧
    (∀ r h w, s.sliceWriter i r = true → Answers (.prtCalAdjWrite i l r h w) s (fun t =>
      (t.lane i l.val).adj = mergeWrite (s.lane i l.val).adj w h 0xFFFFFFFFFFFF ∧ (t.lane i l.val).adjAt = some s.uptime ∧
      (t.lane i l.val).adjPrev = (s.lane i l.val).adjNow s.uptime ∧ OthersKept i s t)) ∧
    (∀ good, (s.lane i l.val).enabled = true → (s.lane i l.val).linkUp = true → bitAt (s.lane i l.val).cfg 8 = true →
      bitAt (s.lane i l.val).preCfg 10 = false →
      exec (.preemptVerify i l good) s = .next (s.modLane i l.val (fun x => { x with preempt := good })))

/-- R77, R79: on a receiving port in the mode of the frame that sends a frame now, an 802.3x PAUSE holds it for its quanta of 512 bit times, 0 quanta
not at all; a pause that has run out ends; while the port asks for pause and half its quanta have passed since a priority was last sent, a pause frame
with its quanta is sent again for the priorities that are due, and for no other. -/
def Sys2Proof.Claims.PauseFrames : Prop :=
  ∀ (s : State) (i : Fin 16) (l : Fin 64), s.core = .up →
    (∀ q, s.receives i l.val = true → fld (s.lane i l.val).cfg 7 6 = 1 → ((s.sch i).port l.val).tx.isSome = true →
      Effect (.pauseFrameReceived i l none [q]) s (fun u => (u.lane i l.val).pauseUntil =
        if q % 65536 = 0 then none else some (s.uptime + (s.lane i l.val).quantaCycles (q % 65536)))) ∧
    (∀ t, (s.lane i l.val).pauseUntil = some t → ((s.sch i).port l.val).tx.isSome = true →
      Effect (.pauseExpiry i l) s (fun u => (u.lane i l.val).pauseUntil = if t ≤ s.uptime then none else some t)) ∧
    (∀ again : Nat, again < 256 → (∀ p, p < 8 → (again.testBit p = true ↔ (s.lane i l.val).asking.testBit p = true ∧
        2 * NMap.get 0 (s.lane i l.val).askedAt p + (s.lane i l.val).quantaCycles (fld (s.reg i (prt Reg.PRT_PAUSE l.val)) 15 0) ≤ 2 * s.uptime)) → Calm s →
      (again ≠ 0 → Answers (.pauseFrameRepeat i l) s (fun t => OthersKept i s t ∧
        (∀ p, p < 8 → NMap.get 0 (t.lane i l.val).askedAt p = if again.testBit p then s.uptime else NMap.get 0 (s.lane i l.val).askedAt p) ∧
        t.out = .pause (64 * i.val + l.val) (if fld (s.lane i l.val).cfg 7 6 = 2 then again else 0)
          (fld (s.reg i (prt Reg.PRT_PAUSE l.val)) 15 0) :: s.out)) ∧
      (again = 0 → exec (.pauseFrameRepeat i l) s = .next s))
/-- R72, R74, R77, R79, R80, R85, R87: what link, calibration and pause events do to a port. -/
def Obligations.LinksAndPause : Prop := Claims.LinkEvents ∧ Claims.PauseFrames


/-- R102, R103, R107, R108: FLUSH empties a fragment table in which nothing waits and runs until FRG_FLUSH_DONE; an entry expires at its
creation time plus LIFETIME and not before; a fragment that waits
for an entry now decided leaves the wait list for its home queue, with the entry's bank, entry point, argument and epoch. -/
def Obligations.FragmentTable : Prop :=
  ∀ (s : State) (i : Fin 16), Ready s →
    (∀ r w, s.sliceWriter i r = true → (s.frg i).cmd.busy = false → (s.frg i).waiting = [] →
      exec (.frgFlush i r w) s = .next (sliceTook i Reg.FRG_CMD r (withOp w 1)
        (fun x => { x with frg := { cmd := running, entries := [], waiting := [] } }) s)) ∧
    ((s.frg i).cmd.busy = true → exec (.frgFlushDone i) s = .next (s.modSlice i (fun x => { x with frg := { x.frg with cmd := finished .ok } }))) ∧
    (∀ (k : Fin 4096) (e : FragEntry), (s.frg i).entry k.val = some e →
      (e.created + e.life ≤ s.sliceT i → exec (.fragmentEntryExpiry i k) s =
        .next (s.modSlice i (fun x => { x with frg := x.frg.put k.val (some { e with expired := true }) }))) ∧
      (s.sliceT i < e.created + e.life → exec (.fragmentEntryExpiry i k) s = .next s)) ∧
    (∀ (n k : Nat) (p : Packet) (e : FragEntry) (b pc arg ep : Nat), (s.frg i).waiting = [(n, k)] → s.packet i n = some p → (s.frg i).entry k = some e →
      e.state = .decided b pc arg ep → s.fragClosed i = false → p.capture.t16 < e.created + e.life →
      (s.frg i).find (fragKey (padTo 256 (s.frame p.frame).bytes) p.parse) = some k →
      ((s.slice i).cluster (p.lane / 4)).queue.length < 128 →
      Answers (.fragWaitRelease i) s (fun t => (t.frg i).waiting = [] ∧ ((t.slice i).cluster (p.lane / 4)).queue = ((s.slice i).cluster (p.lane / 4)).queue ++ [n] ∧
        ∃ q, t.packet i n = some q ∧ q.pc = pc ∧ q.deflt = false ∧ q.bank = b ∧ q.fragArg = arg ∧ q.epoch = ep))

/-- R125, R160, R128, R337: in STAGING the owner writes the staging program bank and the staging half of PGM_TRAP, the roles of a slice in RETENTION being those
of the switches that it has recorded; a program write anywhere else
is discarded and counted; the scratchpad window writes and reads a word for the owner. -/
def Obligations.ProgramAndScratchpadWindows : Prop :=
  ∀ (s : State) (i : Fin 16) (r : Requester) (h : Half) (w : Word), Ready s → s.sliceWriter i r = true →
    (∀ (bank : Fin 2) (n : Fin 32768), s.inStaging = true → bank.val ≠ (s.slice i).fol.settled.bank →
      Answers (.programStoreWrite i r bank n h w) s (fun t =>
        (t.slice i).instr bank.val n.val = mergeWrite ((s.slice i).instr bank.val n.val) w h 0xFFFFFFFFFFFFFFFF ∧ OthersKept i s t ∧
        (∀ (b : Fin 2) (m : Fin 32768), ¬ (b = bank ∧ m = n) → (t.slice i).instr b.val m.val = (s.slice i).instr b.val m.val))) ∧
    (∀ (bank : Fin 2) (n : Fin 32768), s.inStaging = false ∨ bank.val = (s.slice i).fol.settled.bank →
      exec (.programStoreWrite i r bank n h w) s = .next (took r (sliceOff i (0x200000 + 0x40000 * bank.val + 8 * n.val)) h w
        (s.count i Reg.DSP_COUNT1 15 0))) ∧
    (s.inStaging = true → (s.slice i).fol.settled.bank = 0 → h = .high → Answers (.pgmTrapWrite i r h w) s (fun t =>
      fld (t.reg i Reg.PGM_TRAP) 46 32 = fld w 46 32 ∧ bitAt (t.reg i Reg.PGM_TRAP) 48 = bitAt w 48 ∧
      fld (t.reg i Reg.PGM_TRAP) 31 0 = fld (s.reg i Reg.PGM_TRAP) 31 0)) ∧
    (∀ (c : Fin 16) (n : Fin 8192), Answers (.spadWindowAccess i r c n .both (some w)) s (fun t =>
      ((t.slice i).cluster c.val).spadRead (8 * n.val) 8 = w.toNat ∧ OthersKept i s t)) ∧
    (∀ (c : Fin 16) (n : Fin 8192), exec (.spadWindowAccess i r c n .both none) s =
      .next (s.emit (.readData r (sliceOff i (0x300000 + 0x10000 * c.val + 8 * n.val))
        (word (((s.slice i).cluster c.val).spadRead (8 * n.val) 8)))))

/-- R134: a running sequencer with no trap waiting runs the microword at its PC as its sequence field says: next word, jump, call with
the return address pushed, return to it, and the return from a trap, which restores PC, stack depth and flags; a trap that it may take saves them and enters at
the cause's word; a cause 0 to 3 raised while it handles a trap halts it. -/
def Obligations.SequencerSteps : Prop :=
  ∀ (s : State) (i : Fin 16), Ready s → (s.slice i).seq.state = .running →
    ((s.slice i).seq.pending = 0 →
      Answers (.seqMicroword i 0) s (fun t =>
        let q := (s.slice i).seq
        (bitsOf q.word 243 240 = 0 → (t.slice i).seq.pc = (q.pc + 1) % 4096 ∧ (t.slice i).seq.stack = q.stack ∧ (t.slice i).seq.depth = q.depth) ∧
        (bitsOf q.word 243 240 = 1 → (t.slice i).seq.pc = bitsOf q.word 255 244 ∧ (t.slice i).seq.stack = q.stack ∧ (t.slice i).seq.depth = q.depth) ∧
        (bitsOf q.word 243 240 = 3 → q.depth < 8 → (t.slice i).seq.pc = bitsOf q.word 255 244 ∧ (t.slice i).seq.depth = q.depth + 1 ∧
          ∀ k, NMap.get 0 (t.slice i).seq.stack k = if k = q.depth then (q.pc + 1) % 4096 else NMap.get 0 q.stack k) ∧
        (bitsOf q.word 243 240 = 4 → 0 < q.depth → (t.slice i).seq.pc = NMap.get 0 q.stack (q.depth - 1) ∧ (t.slice i).seq.depth = q.depth - 1 ∧
          (t.slice i).seq.stack = q.stack) ∧
        (bitsOf q.word 243 240 = 6 → (t.slice i).seq.pc = q.savedPc ∧ (t.slice i).seq.depth = q.savedDepth ∧ (t.slice i).seq.flags = q.savedFlags ∧
          (t.slice i).seq.inTrap = false ∧ (t.slice i).seq.stack = q.stack))) ∧
    (∀ c : Fin 16, (s.slice i).seq.inTrap = false → (s.slice i).seq.pending = 0 →
      Answers (.seqTrap i c) s (fun t => (t.slice i).seq.pc = c.val ∧ (t.slice i).seq.inTrap = true ∧
        (t.slice i).seq.savedPc = (s.slice i).seq.pc ∧ (t.slice i).seq.savedFlags = (s.slice i).seq.flags ∧ (t.slice i).seq.savedDepth = (s.slice i).seq.depth ∧
        (t.slice i).seq.lastCause = c.val ∧ (t.slice i).seq.state = .running ∧ OthersKept i s t)) ∧
    (∀ c : Fin 16, c.val ≤ 3 → (s.slice i).seq.inTrap = true → Effect (.seqTrap i c) s (fun u => (u.slice i).seq.state = .halted))

-- Time --------------------------------------------------------------------------------------------------------------------

/-- R66: a read of either half of TRF_TIME0 or of a slice's TBU_TIME0 latches the whole time and bound, and TRF_TIME1 or TBU_TIME1 then
returns the latched upper bits; any requester that may read a TBU register is its slice's owner, the device owner or the Scribe. -/
def Obligations.TimeReadsLatch : Prop :=
  ∀ (s : State) (r : Requester) (h : Half), Ready s →
    exec (.time0Read r none h) s = .next ({ s with trf := { s.trf with time1 := s.centralStamp.hi } }.emit
      (.readData r (globalOff Reg.TRF_TIME0 + if h = Half.high then 4 else 0) (partOf h s.centralStamp.lo))) ∧
    exec (.rcFieldRead r (globalOff Reg.TRF_TIME1) 8) s = .next (s.emit (.readData r (globalOff Reg.TRF_TIME1) s.trf.time1)) ∧
    ∀ i : Fin 16, s.mayReadSlice i r = true →
      exec (.time0Read r (some i) h) s = .next ((s.modSlice i (fun x => { x with tbu := { x.tbu with time1 := (s.sliceStamp i).hi } })).emit
        (.readData r (sliceOff i Reg.TBU_TIME0 + if h = Half.high then 4 else 0) (partOf h (s.sliceStamp i).lo))) ∧
      exec (.rcFieldRead r (sliceOff i Reg.TBU_TIME1) 8) s = .next (s.emit (.readData r (sliceOff i Reg.TBU_TIME1) (s.slice i).tbu.time1))

/-- R65, R67, R68, R40: TRF_CMD by the device owner or the Scribe, not busy.  TOD_LOAD of a well-formed operand is accepted in FREERUN and
under REF_SEL = TOD and waits; a malformed operand is BAD_ARG.  ENTER_HOLDOVER is refused in FREERUN and in HOLDOVER; FREERUN is
accepted in every state, and time itself is left alone.  Another requester gets PERMISSION. -/
def Sys2Proof.Claims.TimeCommands : Prop :=
  ∀ (s : State) (r : Requester) (w : Word), Ready s → s.trf.cmd.busy = false →
    (s.globalWriter r = true →
      (s.todOperand.malformed = true → exec (.todLoad r w) s = .next (took r (globalOff Reg.TRF_CMD) .both (withOp w 1)
        { s with trf := { s.trf with cmd := finished .badArg } })) ∧
      (s.todOperand.malformed = false → (s.trf.servo = .freerun ∨ s.refSel = 3) →
        exec (.todLoad r w) s = .next (took r (globalOff Reg.TRF_CMD) .both (withOp w 1)
          { s with trf := { s.trf with cmd := running, todPending := some (s.uptime, s.trf.acc, s.todOperand.toNat) } })) ∧
      (s.trf.servo = .acquiring ∨ s.trf.servo = .locked →
        Answers (.enterHoldover r w) s (fun t => t.trf.servo = .holdover ∧ t.trf.residual = s.residual ∧ t.trf.cmd = finished .ok ∧
          t.trf.acc = s.trf.acc ∧ t.slices = s.slices)) ∧
      (s.trf.servo = .freerun ∨ s.trf.servo = .holdover →
        Answers (.enterHoldover r w) s (fun t => t.trf = { s.trf with cmd := finished .stateRefused } ∧ t.slices = s.slices)) ∧
      Answers (.freerun r w) s (fun t => t.trf.servo = .freerun ∧ t.trf.cmd = finished .ok ∧ t.trf.acc = s.trf.acc ∧
        t.trf.addend = s.trf.addend ∧ t.slices = s.slices)) ∧
    (s.globalWriter r = false → ∀ cmd ∈ [Instr.todLoad r w, .enterHoldover r w, .freerun r w],
      Answers cmd s (fun t => t.trf = { s.trf with cmd := finished .permission } ∧ t.slices = s.slices))

/-- R55, R58, R67: what takes effect at a 1 µs marker: a TOD_LOAD at least 100 ns old sets the central time and every slice's to the
operand advanced by the interval since its start, and completes; a waiting servo step moves them all by the same amount and is no part of
that interval; FREERUN and lowered bound terms take effect.  At no other cycle does any of them. -/
def Obligations.MarkersApply : Prop :=
  ∀ s : State, s.core = .up →
    (∀ t0 a op, s.trf.todPending = some (t0, a, op) → s.atMarker = true → t0 + 150 ≤ s.uptime →
      Effect .todLoadApply s (fun u =>
        u.trf.acc = Stamp.t16 (BitVec.ofNat 96 op) * 2 ^ 44 + (s.trf.acc - a) ∧ (∀ i, (u.slice i).tbu.acc = u.trf.acc) ∧
        u.trf.todPending = none ∧ u.trf.cmd = finished .ok ∧ u.trf.todLoaded = true ∧
        u.trf.refTerm = .tod (Stamp.bound (BitVec.ofNat 96 op)) ∧ u.trf.steps = min (s.trf.steps + 1) 65535)) ∧
    (∀ d, s.trf.stepPending = some d → s.atMarker = true → s.trf.servo = .acquiring →
      Effect .servoStepApply s (fun u => u.trf.acc = ((s.trf.acc : Int) + d * 2 ^ 40).toNat ∧
        (∀ i, (u.slice i).tbu.acc = (((s.slice i).tbu.acc : Int) + d * 2 ^ 40).toNat) ∧ u.trf.stepPending = none ∧
        u.trf.steps = min (s.trf.steps + 1) 65535 ∧
        u.trf.todPending = s.trf.todPending.map (fun p => (p.1, ((p.2.1 : Int) + d * 2 ^ 40).toNat, p.2.2)))) ∧
    (Calm s → s.atMarker = true → exec .freerunApply s = .next { s with trf := { s.trf with freerunPending := false } } ∧
      exec .boundLowerApply s = .next { s with trf := { s.trf with boundCfg := s.greg Reg.TRF_BOUND_CFG, resHeld := false } }) ∧
    (Calm s → s.atMarker = false → ∀ c ∈ [Instr.todLoadApply, .servoStepApply, .freerunApply, .boundLowerApply], exec c s = .next s)

/-- R61, R62: at a marker a slice that receives it in time measures its skew, sets ALARM by the threshold and is valid after two checks in
a row; a slice that loses it awaits it, and once 40 ns have passed is no longer valid. -/
def Obligations.TimeChecks : Prop :=
  ∀ (s : State) (i : Fin 16), s.core = .up →
    (∀ (lost : BitVec 16) (late : List Nat), s.atMarker = true → s.lastMarker ≠ some s.uptime →
      Effect (.timeMarker lost late) s (fun u =>
        (lost.getLsbD i.val = true → (u.slice i).marker = some s.uptime ∧ (u.slice i).tbu = (s.slice i).tbu) ∧
        (lost.getLsbD i.val = false → (Config.legDelay i.val).val + (late[i.val]?).getD 0 ≤ 40 * 256 →
          (u.slice i).tbu.skew0 = (((s.slice i).tbu.acc : Int) - (s.trf.acc : Int)) / 2 ^ 40 + ((late[i.val]?).getD 0 : Int) ∧
          (u.slice i).tbu.skew1 = (s.slice i).tbu.skew0 ∧ (u.slice i).marker = none ∧
          ((u.slice i).tbu.alarm = true ↔ max (fld s.trf.boundCfg 55 48) 1 * 16 < (u.slice i).tbu.skew0.natAbs) ∧
          (1 ≤ (s.slice i).tbu.checks → (u.slice i).tbu.checkValid = true)))) ∧
    (∀ t, (s.slice i).marker = some t → t + 60 ≤ s.uptime →
      Effect (.checkMissed i) s (fun u => (u.slice i).tbu.checkValid = false ∧ (u.slice i).tbu.checks = 0 ∧ (u.slice i).marker = none))

/-- R50, R51, R54, R496, R497: a sample that counts makes its reference's term current, proves the reference present and restarts its timers: a PPS edge
with REF_SEL = PPS, a PTP offset from the engine that TRF_CTRL names, at least 500 µs after the last.  One from another requester, under another
REF_SEL or too early is discarded and counted. -/
def Sys2Proof.Claims.SamplesFeedTheServo : Prop :=
  ∀ s : State, s.core = .up →
    (∀ interp : Fin 11, s.refSel = 1 → s.sampleAllowed = true →
      Effect (.ppsEdge interp) s (fun u => u.trf.refTerm = .pps ∧ u.trf.refPresent = true ∧ u.trf.refLost = false ∧
        u.trf.lastSample = some s.uptime ∧ u.trf.lossFrom = some s.uptime ∧ u.trf.wanderFrom = s.uptime)) ∧
    (∀ (h : Half) (w : Word), s.writes = [] → s.refSel = 2 → s.sampleAllowed = true → bitAt (s.greg Reg.TRF_CTRL) 8 = true →
      (∀ t, s.trf.lastSample = some t → t + 750000 ≤ s.uptime) →
      Effect (.trfOffsetWrite .scribe h w) s (fun u => u.trf.refTerm = .ptp ∧ u.trf.refPresent = true ∧ u.trf.lastSample = some s.uptime)) ∧
    (∀ (r : Requester) (h : Half) (w : Word), Calm s →
      (s.refSel ≠ 2 ∨ (bitAt (s.greg Reg.TRF_CTRL) 8 = true ∧ r ≠ .scribe) ∨ (bitAt (s.greg Reg.TRF_CTRL) 8 = false ∧ r = .scribe) ∨
        ∃ t, s.trf.lastSample = some t ∧ s.uptime < t + 750000) →
      let t := { s with trf := { s.trf with discards := min (s.trf.discards + 1) 65535 } }
      exec (.trfOffsetWrite r h w) s = .next (if s.globalWriter r then took r (globalOff Reg.TRF_OFFSET) h w t else t))

/-- R53, R497: the selected reference whose timer has run out is lost and a servo that followed it is in HOLDOVER; a selected frequency source
is measured, lost and back, the last f_src kept while it is lost. -/
def Sys2Proof.Claims.ReferencesAreLost : Prop :=
  ∀ s : State, s.core = .up →
    (s.lossDue = true → Effect .refLossTimeout s (fun u => u.trf.refLost = true ∧ u.trf.refPresent = false ∧
      ((s.trf.servo = .acquiring ∨ s.trf.servo = .locked) → u.trf.servo = .holdover) ∧
      ((s.trf.servo = .freerun ∨ s.trf.servo = .holdover) → u.trf.servo = s.trf.servo))) ∧
    (∀ f : Int, Calm s → s.freqSrc ≠ 0 → s.trf.freqLost = false → Answers (.freqMeasure f) s (fun t => t.trf.fSrc = f ∧ t.slices = s.slices ∧
      t.trf.servo = s.trf.servo)) ∧
    (s.freqSrc ≠ 0 → s.trf.freqLost = false → Effect .freqSrcLoss s (fun u => u.trf.freqLost = true ∧ u.trf.fSrc = s.trf.fSrc ∧
      u.trf.servo = s.trf.servo)) ∧
    (s.freqSrc ≠ 0 → s.trf.freqLost = true → Effect .freqSrcReturn s (fun u => u.trf.freqLost = false ∧ u.trf.fSrc = s.trf.fSrc))
/-- R50, R51, R53, R54, R496, R497: samples count for their reference, and a reference without them is lost. -/
def Obligations.References : Prop := Claims.SamplesFeedTheServo ∧ Claims.ReferencesAreLost


/-- R58, R65, R497: TRF_CTRL and TRF_BOUND_CFG take their fields from the device owner and the Scribe alone; a new REF_SEL restarts the loss
timer and ends a followed reference in HOLDOVER; a raised bound term counts at once, a lowered one not yet. -/
def Sys2Proof.Claims.TimeConfigurationWrites : Prop :=
  ∀ (s : State) (r : Requester) (h : Half) (w : Word), Ready s →
    (s.globalWriter r = true →
      Effect (.trfCtrlWrite r h w) s (fun u => u.greg Reg.TRF_CTRL = mergeWrite (s.greg Reg.TRF_CTRL) w h 0x3FF0303FF0303 ∧
        (u.refSel ≠ s.refSel → u.trf.lossFrom = some s.uptime ∧ u.trf.refPresent = false ∧
          ((s.trf.servo = .acquiring ∨ s.trf.servo = .locked) → u.trf.servo = .holdover))) ∧
      Answers (.trfBoundCfgWrite r h w) s (fun t => t.greg Reg.TRF_BOUND_CFG = mergeWrite (s.greg Reg.TRF_BOUND_CFG) w h 0xFFFFFFFF3FFF3FFF ∧
        fld t.trf.boundCfg 13 0 = max (fld (t.greg Reg.TRF_BOUND_CFG) 13 0) (fld s.trf.boundCfg 13 0) ∧
        fld t.trf.boundCfg 29 16 = max (fld (t.greg Reg.TRF_BOUND_CFG) 29 16) (fld s.trf.boundCfg 29 16) ∧
        fld t.trf.boundCfg 47 32 = max (fld (t.greg Reg.TRF_BOUND_CFG) 47 32) (fld s.trf.boundCfg 47 32))) ∧
    (s.globalWriter r = false → exec (.trfCtrlWrite r h w) s = .next s ∧ exec (.trfBoundCfgWrite r h w) s = .next s)
/-- R40, R58, R65, R67, R68, R497: the commands of TRF_CMD, and the time unit's configuration writes. -/
def Obligations.TimeSetting : Prop := Claims.TimeCommands ∧ Claims.TimeConfigurationWrites

-- Threads and their core instructions -------------------------------------------------------------------------------------

namespace Sys2Proof.Claims
/-- Thread `t` of slice `i`, with packet `p`, may issue `w` now: it is not held, its line is cached, and the program store holds `w` at its PC. -/
structure Turn (s : State) (i : Fin 16) (t : Nat) (w : Word) (th : Thread) (p : Packet) : Prop extends Calm s where
  thread : s.thread i t = some th
  packet : s.packet i th.pkt = some p
  hold   : th.hold = .none
  cached : ((s.slice i).cluster (t / 64)).cached (icacheLine th.bank th.pc) = true
  store  : (s.slice i).instr th.bank th.pc = w
/-- The same where the PC can advance: it is not the last one. -/
structure Plain (s : State) (i : Fin 16) (t : Nat) (w : Word) (th : Thread) (p : Packet) : Prop extends Turn s i t w th p where
  more : th.pc ≠ 0x7FFF
/-- No pending operation of the thread writes one of the registers (R164). -/
def Clear (th : Thread) (rs : List Ref) : Prop := ∀ o ∈ th.ops, ∀ d ∈ o.2.dests, d ∉ rs
/-- `u` differs from `s` in thread `t` of slice `i`, in the instruction cache and the performance counters of that slice, and in what left
toward the host, alone. -/
structure OnlyThread (i : Fin 16) (t : Nat) (s u : State) : Prop where
  rest     : u = { s with slices := u.slices, host := u.host, out := u.out }
  others   : OthersKept i s u
  slice    : u.slice i = { s.slice i with regs := (u.slice i).regs, pmc := (u.slice i).pmc, threads := (u.slice i).threads,
                                          clusters := (u.slice i).clusters }
  regs     : ∀ o, ¬ (0x100000 ≤ o ∧ o < 0x102000) → u.reg i o = s.reg i o
  threads  : ∀ t', t' ≠ t → u.thread i t' = s.thread i t'
  clusters : ∀ c, (u.slice i).cluster c = { (s.slice i).cluster c with icache := ((u.slice i).cluster c).icache }
/-- The thread as an issue leaves it, the next instruction at `pc`, before the instruction's own effect. -/
def ran (s : State) (th : Thread) (pc : Nat) : Thread :=
  { th with pc := pc, firstAt := some (th.firstAt.getD s.cycle), nextAt := s.cycle + 1 }
/-- The command issues: the thread is `th'` after it, and beside `s'` nothing but what `OnlyThread` names differs. -/
def Runs (c : Instr) (i : Fin 16) (t : Nat) (s : State) (th' : Thread) (s' : State) : Prop :=
  Answers c s (fun u => u.thread i t = some th' ∧ OnlyThread i t s' u)
/-- Flags from a result (R144). -/
def flagged (th : Thread) (v : Word) (c o : Bool) : Thread := { th with z := decide (v = 0), n := v.msb, c := c, v := o }
/-- A register field may be read; may be written (R138, R140). -/
def MayRead (m : Bool) (n : Nat) : Prop := m = true → n < 16
def MayWrite (m : Bool) (n : Nat) : Prop := m = true → n ∈ [3, 9, 13, 14, 15]
/-- The registers of formats R, F and M. -/
def rD (w : Word) : Ref := ⟨bitAt w 40, fld w 55 51⟩
def rA (w : Word) : Ref := ⟨bitAt w 39, fld w 50 46⟩
def rB (w : Word) : Ref := ⟨bitAt w 38, fld w 45 41⟩
/-- The number of `n` bits as 64 bits, sign-extended or not. -/
def widened (sx : Bool) (n v : Nat) : Word := if sx then (BitVec.ofNat n v).signExtend 64 else BitVec.ofNat 64 v
/-- Operand b of an ALU instruction: IMM32 sign-extended, or a register. -/
def operandB (th : Thread) (w : Word) : Word := if bitAt w 36 then widened true 32 (fld w 31 0) else th.get (rB w)
/-- Operand b is spelled legally (Table 05.5, R143). -/
def LegalB (w : Word) : Prop :=
  fld w 35 32 = 0 ∧ (bitAt w 36 = false → fld w 31 0 = 0 ∧ MayRead (bitAt w 38) (fld w 45 41)) ∧
  (bitAt w 36 = true → fld w 45 41 = 0 ∧ bitAt w 38 = false)
/-- The comparison of Table 05.9 with code `k` holds between `a` and `b`. -/
def outcome (k : Nat) (a b : Word) : Prop :=
  (k = 0 ∧ a = b) ∨ (k = 1 ∧ a ≠ b) ∨ (k = 2 ∧ a.toNat < b.toNat) ∨ (k = 3 ∧ b.toNat ≤ a.toNat) ∨ (k = 4 ∧ a.toInt < b.toInt) ∨
  (k = 5 ∧ b.toInt ≤ a.toInt) ∨ (k = 6 ∧ b.toNat < a.toNat) ∨ (k = 7 ∧ a.toNat ≤ b.toNat) ∨ (k = 8 ∧ b.toInt < a.toInt) ∨
  (k = 9 ∧ a.toInt ≤ b.toInt)
end Sys2Proof.Claims

/-- R139, R140: the word of an instruction is its opcode above the low 56 bits of the command, with the row's kind in its field. -/
def Obligations.InstructionWords : Prop :=
  ∀ (op : Nat) (f : BitVec 56), insWord op f = (BitVec.ofNat 8 op) ++ f ∧
    ∀ hi lo kind, hi < 56 → lo ≤ hi → kind < 2 ^ (hi + 1 - lo) →
      fld (kindWord op hi lo kind f) hi lo = kind ∧
      ∀ k, k < lo ∨ hi < k → (kindWord op hi lo kind f).getLsbD k = (insWord op f).getLsbD k

/-- R137, R138, R140, R141, R143, R144: the ALU instructions, in every legal form with no pending destination among their registers.  d takes the result of Table 05.6 (a
write to g0 is discarded, a metadata register keeps its reserved bits 0), the flags follow when SF is set, CMP and TST set flags alone, NOP does nothing; the
PC advances by 1, and no other thread, register or scratchpad word changes. -/
def Obligations.AluResults : Prop :=
  ∀ (s : State) (i : Fin 16) (t : Fin 1024) (f : BitVec 56) (th : Thread) (p : Packet),
    (∀ x ∈ ([(.add i t f, 0x01, fun a b => (a + b, a.uaddOverflow b, a.saddOverflow b)), (.sub i t f, 0x02, fun a b => (a - b, a.usubOverflow b, a.ssubOverflow b)),
        (.and i t f, 0x03, fun a b => (a &&& b, false, false)), (.or i t f, 0x04, fun a b => (a ||| b, false, false)),
        (.xor i t f, 0x05, fun a b => (a ^^^ b, false, false)), (.andn i t f, 0x06, fun a b => (a &&& ~~~b, false, false)),
        (.shl i t f, 0x07, fun a b => (a <<< (b.toNat % 64), false, false)), (.shr i t f, 0x08, fun a b => (a >>> (b.toNat % 64), false, false)),
        (.sar i t f, 0x09, fun a b => (a.sshiftRight (b.toNat % 64), false, false)), (.rol i t f, 0x0A, fun a b => (a.rotateLeft (b.toNat % 64), false, false)),
        (.mul i t f, 0x0B, fun a b => (a * b, a.umulOverflow b, false)), (.minu i t f, 0x0C, fun a b => (BitVec.ofNat 64 (min a.toNat b.toNat), false, false)),
        (.maxu i t f, 0x0D, fun a b => (BitVec.ofNat 64 (max a.toNat b.toNat), false, false))] : List (Instr × Nat × (Word → Word → Word × Bool × Bool))),
      let w := insWord x.2.1 f
      let o := x.2.2 (th.get (rA w)) (operandB th w)
      let q := (ran s th (th.pc + 1)).put (rD w) o.1
      Plain s i t w th p → LegalB w → MayRead (bitAt w 39) (fld w 50 46) → MayWrite (bitAt w 40) (fld w 55 51) → Clear th [rA w, rB w, rD w] →
      Runs x.1 i t s (if bitAt w 37 then flagged q o.1 o.2.1 o.2.2 else q) s) ∧
    (∀ x ∈ ([(.cmp i t f, 0x12, fun a b => (a - b, a.usubOverflow b, a.ssubOverflow b)), (.tst i t f, 0x13, fun a b => (a &&& b, false, false))] :
        List (Instr × Nat × (Word → Word → Word × Bool × Bool))),
      let w := insWord x.2.1 f
      let o := x.2.2 (th.get (rA w)) (operandB th w)
      Plain s i t w th p → LegalB w → MayRead (bitAt w 39) (fld w 50 46) → rD w = ⟨false, 0⟩ → bitAt w 37 = false → Clear th [rA w, rB w] →
      Runs x.1 i t s (flagged (ran s th (th.pc + 1)) o.1 o.2.1 o.2.2) s) ∧
    (∀ x ∈ ([(.bswap i t f, 0x0E, fun a n => (List.range n).foldl (fun v k => 256 * v + a.toNat / 256 ^ k % 256) 0, fun n => n = 2 ∨ n = 4 ∨ n = 8),
        (.movhi i t f, 0x11, fun a n => n * 2 ^ 32 + a.toNat % 2 ^ 32, fun _ => True)] : List (Instr × Nat × (Word → Nat → Nat) × (Nat → Prop))),
      let w := insWord x.2.1 f
      let v := BitVec.ofNat 64 (x.2.2.1 (th.get (rA w)) (fld w 31 0))
      let q := (ran s th (th.pc + 1)).put (rD w) v
      Plain s i t w th p → fld w 35 32 = 0 → bitAt w 36 = true → rB w = ⟨false, 0⟩ → x.2.2.2 (fld w 31 0) → MayRead (bitAt w 39) (fld w 50 46) →
      MayWrite (bitAt w 40) (fld w 55 51) → Clear th [rA w, rD w] →
      Runs x.1 i t s (if bitAt w 37 then flagged q v false false else q) s) ∧
    (∀ n : Nat, n ≤ 64 → (th.get (rA (insWord 0x0F f))).toNat < 2 ^ n → (n = 0 ∨ 2 ^ (n - 1) ≤ (th.get (rA (insWord 0x0F f))).toNat) →
     let w := insWord 0x0F f
     let v := BitVec.ofNat 64 (64 - n)
     let q := (ran s th (th.pc + 1)).put (rD w) v
     Plain s i t w th p → fld w 36 0 = 0 → rB w = ⟨false, 0⟩ → MayRead (bitAt w 39) (fld w 50 46) → MayWrite (bitAt w 40) (fld w 55 51) → Clear th [rA w, rD w] →
     Runs (.clz i t f) i t s (if bitAt w 37 then flagged q v false false else q) s) ∧
    (let w := insWord 0x10 f
     let q := (ran s th (th.pc + 1)).put (rD w) (operandB th w)
     Plain s i t w th p → LegalB w → rA w = ⟨false, 0⟩ → MayWrite (bitAt w 40) (fld w 55 51) → Clear th [rB w, rD w] →
     Runs (.mov i t f) i t s (if bitAt w 37 then flagged q (operandB th w) false false else q) s) ∧
    (Plain s i t (insWord 0x00 f) th p → f = 0 → Runs (.nop i t f) i t s (ran s th (th.pc + 1)) s)

/-- R145 to R148, R177, R184: the other instructions that write registers at once.  EXT reads a field of the header window in network order, or of the parse record in numeric order,
inside its window or with WIN_ZERO set; EXTR and INS move fields between registers; HASH in fast mode writes the CRC-64; STAMP READ_NOW writes the slice
time and bound to d and d + 1. -/
def Obligations.FieldsAndHash : Prop :=
  ∀ (s : State) (i : Fin 16) (t : Fin 1024) (f : BitVec 56) (th : Thread) (p : Packet),
    (let w := insWord 0x20 f
     let a : Ref := ⟨bitAt w 37, fld w 50 46⟩
     let d : Ref := ⟨bitAt w 38, fld w 55 51⟩
     let base := (th.get a).toNat + fld w 29 21
     let n := fld w 17 12 + 1
     let last := base + (fld w 20 18 + n - 1) / 8
     ∀ v : Nat, v < 2 ^ n →
      ((fld w 40 39 = 0 ∧ ∀ j, j < n → v.testBit (n - 1 - j) = (s.header p (base + (fld w 20 18 + j) / 8)).getLsbD (7 - (fld w 20 18 + j) % 8)) ∨
       (fld w 40 39 = 1 ∧ ∀ j, j < n → v.testBit j = (byteAt p.parse.bytes (base + (fld w 20 18 + j) / 8)).getLsbD ((fld w 20 18 + j) % 8))) →
      ((fld w 40 39 = 0 ∧ last ≤ 255) ∨ last ≤ 31 ∨ bitAt th.tctl 0 = true) →
      Plain s i t w th p → fld w 35 30 = 0 → fld w 11 0 = 0 → fld w 45 41 = 0 → MayRead (bitAt w 37) (fld w 50 46) → MayWrite (bitAt w 38) (fld w 55 51) →
      Clear th [a, d] → Runs (.ext i t f) i t s ((ran s th (th.pc + 1)).put d (widened (bitAt w 36) n v)) s) ∧
    (let w := insWord 0x21 f
     let n := fld w 17 12 + 1
     Plain s i t w th p → fld w 37 18 = 0 → fld w 5 0 = 0 → fld w 11 6 + n ≤ 64 → fld w 45 41 = 0 → MayRead (bitAt w 39) (fld w 50 46) →
     MayWrite (bitAt w 40) (fld w 55 51) → Clear th [rA w, rD w] →
     Runs (.extr i t f) i t s ((ran s th (th.pc + 1)).put (rD w) (widened (bitAt w 38) n ((th.get (rA w)).toNat / 2 ^ fld w 11 6 % 2 ^ n))) s) ∧
    (let w := insWord 0x22 f
     let n := fld w 17 12 + 1
     ∀ v : Word, (∀ k, k < 64 → v.getLsbD k = if fld w 11 6 ≤ k ∧ k < fld w 11 6 + n then (th.get (rA w)).getLsbD (k - fld w 11 6) else (th.get (rD w)).getLsbD k) →
     Plain s i t w th p → fld w 38 18 = 0 → fld w 5 0 = 0 → fld w 11 6 + n ≤ 64 → fld w 45 41 = 0 → MayRead (bitAt w 39) (fld w 50 46) →
     MayWrite (bitAt w 40) (fld w 55 51) → Clear th [rA w, rD w] → Runs (.ins i t f) i t s ((ran s th (th.pc + 1)).put (rD w) v) s) ∧
    (let w := kindWord 0x46 37 37 0 f
     Plain s i t w th p → fld w 40 38 = 0 → fld w 36 0 = 0 → Clear th [gReg (fld w 50 46), gReg (fld w 45 41), gReg (fld w 55 51)] →
     Runs (.hashFast i t f) i t s ((ran s th (th.pc + 1)).put (gReg (fld w 55 51))
       (BitVec.ofNat 64 (crc64 (th.get (gReg (fld w 50 46))).toNat (th.get (gReg (fld w 45 41))).toNat))) s) ∧
    (let w := kindWord 0x43 40 38 0 f
     Plain s i t w th p → fld w 50 41 = 0 → fld w 37 0 = 0 → 1 ≤ fld w 55 51 → fld w 55 51 ≤ 30 → Clear th [gReg (fld w 55 51), gReg (fld w 55 51 + 1)] →
     Runs (.stampReadNow i t f) i t s (((ran s th (th.pc + 1)).put (gReg (fld w 55 51)) (s.sliceStamp i).lo).put (gReg (fld w 55 51 + 1)) (s.sliceStamp i).hi) s)

/-- R141, R149, Tables 05.9 to 05.11: where a branch goes.  BC tests the flags; CB and CBI compare as unsigned or signed numbers; BBIT tests a bit, BT a tag; BR, CALL and JR
always branch, CALL with PC + 1 in d.  No flag changes. -/
def Obligations.Branches : Prop :=
  ∀ (s : State) (i : Fin 16) (t : Fin 1024) (f : BitVec 56) (th : Thread) (p : Packet),
    (let w := insWord 0x28 f
     Turn s i t w th p → fld w 55 15 = 0 → Runs (.br i t f) i t s (ran s th (fld w 14 0)) s) ∧
    (let w := insWord 0x29 f
     Turn s i t w th p → fld w 50 15 = 0 → fld w 55 51 ≠ 0 → Clear th [gReg (fld w 55 51)] →
     Runs (.call i t f) i t s ((ran s th (fld w 14 0)).put (gReg (fld w 55 51)) (BitVec.ofNat 64 (th.pc + 1))) s) ∧
    (let w := insWord 0x2A f
     Turn s i t w th p → fld w 55 51 = 0 → fld w 45 40 = 0 → fld w 38 0 = 0 → MayRead (bitAt w 39) (fld w 50 46) → Clear th [rA w] →
     (th.get (rA w)).toNat < 0x8000 → Runs (.jr i t f) i t s (ran s th (th.get (rA w)).toNat) s) ∧
    (∀ taken : Prop, [Decidable taken] →
      let goTo := fun (w : Word) => if taken then fld w 14 0 else th.pc + 1
      (let w := insWord 0x2B f
       let k := fld w 55 51
       (taken ↔ (k = 0 ∧ th.z = true) ∨ (k = 1 ∧ th.z = false) ∨ (k = 2 ∧ th.c = true) ∨ (k = 3 ∧ th.c = false) ∨ (k = 4 ∧ th.n ≠ th.v) ∨ (k = 5 ∧ th.n = th.v) ∨
         (k = 6 ∧ th.c = false ∧ th.z = false) ∨ (k = 7 ∧ (th.c = true ∨ th.z = true)) ∨ (k = 8 ∧ th.z = false ∧ th.n = th.v) ∨
         (k = 9 ∧ (th.z = true ∨ th.n ≠ th.v))) →
       Plain s i t w th p → fld w 50 15 = 0 → k ≤ 9 → Runs (.bc i t f) i t s (ran s th (goTo w)) s) ∧
      (let w := insWord 0x2C f
       (taken ↔ outcome (fld w 55 51) (th.get (rA w)) (th.get (rB w))) →
       Plain s i t w th p → bitAt w 40 = false → fld w 37 15 = 0 → fld w 55 51 ≤ 9 → MayRead (bitAt w 39) (fld w 50 46) → MayRead (bitAt w 38) (fld w 45 41) →
       Clear th [rA w, rB w] → Runs (.cb i t f) i t s (ran s th (goTo w)) s) ∧
      (let w := insWord 0x2D f
       (taken ↔ outcome (fld w 55 51) (th.get (rA w)) (widened true 17 (fld w 31 15))) →
       Plain s i t w th p → bitAt w 40 = false → fld w 38 32 = 0 → fld w 45 41 = 0 → fld w 55 51 ≤ 9 → MayRead (bitAt w 39) (fld w 50 46) → Clear th [rA w] →
       Runs (.cbi i t f) i t s (ran s th (goTo w)) s) ∧
      (let w := insWord 0x2E f
       (taken ↔ (th.get (rA w)).getLsbD (fld w 20 15) = decide (fld w 55 51 = 1)) →
       Plain s i t w th p → bitAt w 40 = false → fld w 38 21 = 0 → fld w 45 41 = 0 → fld w 55 51 ≤ 1 → MayRead (bitAt w 39) (fld w 50 46) → Clear th [rA w] →
       Runs (.bbit i t f) i t s (ran s th (goTo w)) s) ∧
      (let w := insWord 0x2F f
       let g := th.tag (fld w 50 46)
       (taken ↔ (fld w 55 51 = 0 ∧ g = .free) ∨ (fld w 55 51 = 1 ∧ g = .pending) ∨ (fld w 55 51 = 2 ∧ ∃ st, g = .done st) ∨
         (fld w 55 51 = 3 ∧ g = .done .ok) ∨ (fld w 55 51 = 4 ∧ ∃ st, g = .done st ∧ st ≠ .ok)) →
       Plain s i t w th p → fld w 45 15 = 0 → fld w 55 51 ≤ 4 → fld w 50 46 ≤ 7 → Runs (.bt i t f) i t s (ran s th (goTo w)) s))

/-- R127, R151 to R153, Table 05.14: LD reads SIZE bytes of the cluster's scratchpad, least significant first; ST writes them and no other byte; SFA fetches and adds 8 of them.  Each is
arbitrated for the bank of its address, which then serves no other access of that cycle, and the cycles that it waits for a bank in use count in SPAD_STALL.  CSRR reads
the CSR that it names and CSRW sets WIN_ZERO. -/
def Obligations.ScratchpadAndCsrs : Prop :=
  ∀ (s : State) (i : Fin 16) (t : Fin 1024) (f : BitVec 56) (th : Thread) (p : Packet),
    let byteOf := fun (k : Nat) => NMap.get 0 ((s.slice i).cluster (t / 64)).spad k
    (let w := insWord 0x30 f
     let a := (th.get (rA w) + widened true 16 (fld w 31 16)).toNat
     let n := 2 ^ fld w 37 36
     ∀ v : Nat, v < 256 ^ n → (∀ k, k < n → v / 256 ^ k % 256 = (byteOf (a + k)).toNat) →
     Plain s i t w th p → fld w 34 32 = 0 → fld w 15 0 = 0 → fld w 45 41 = 0 → bitAt w 38 = false → MayRead (bitAt w 39) (fld w 50 46) →
     MayWrite (bitAt w 40) (fld w 55 51) → Clear th [rA w, rD w] → a ≤ 0xFFFF → a % n = 0 →
     Runs (.ld i t f) i t s ((ran s th (th.pc + 1)).put (rD w) (widened (bitAt w 35) (8 * n) v)) (spadArbitrate i t.val (some a) s)) ∧
    (let w := insWord 0x31 f
     let a := (th.get (rA w) + widened true 16 (fld w 31 16)).toNat
     let n := 2 ^ fld w 37 36
     Plain s i t w th p → fld w 35 32 = 0 → fld w 15 0 = 0 → fld w 55 51 = 0 → bitAt w 40 = false → MayRead (bitAt w 39) (fld w 50 46) →
     MayRead (bitAt w 38) (fld w 45 41) → Clear th [rA w, rB w] → a ≤ 0xFFFF → a % n = 0 →
     let s1 := spadArbitrate i t.val (some a) s
     ∃ c, (∀ k, NMap.get 0 c.spad k = if a ≤ k ∧ k < a + n then BitVec.ofNat 8 ((th.get (rB w)).toNat / 256 ^ (k - a)) else byteOf k) ∧
       c = { (s1.slice i).cluster (t / 64) with spad := c.spad } ∧
       Runs (.st i t f) i t s (ran s th (th.pc + 1)) (s1.modCluster i (t / 64) (fun _ => c))) ∧
    (let w := insWord 0x32 f
     let a := (th.get (rA w) + widened true 16 (fld w 31 16)).toNat
     ∀ v : Word, (∀ k, k < 8 → v.toNat / 256 ^ k % 256 = (byteOf (a + k)).toNat) →
     Plain s i t w th p → fld w 37 32 = 0x30 → fld w 15 0 = 0 → MayRead (bitAt w 39) (fld w 50 46) → MayRead (bitAt w 38) (fld w 45 41) →
     MayWrite (bitAt w 40) (fld w 55 51) → Clear th [rA w, rB w, rD w] → a ≤ 0xFFFF → a % 8 = 0 →
     let s1 := spadArbitrate i t.val (some a) s
     ∃ c, (∀ k, NMap.get 0 c.spad k = if a ≤ k ∧ k < a + 8 then BitVec.ofNat 8 ((v + th.get (rB w)).toNat / 256 ^ (k - a)) else byteOf k) ∧
       c = { (s1.slice i).cluster (t / 64) with spad := c.spad } ∧
       Runs (.sfa i t f) i t s ((ran s th (th.pc + 1)).put (rD w) v) (s1.modCluster i (t / 64) (fun _ => c))) ∧
    (∀ a : Nat, let o := Reg.ENG_COUNT1 + 0x1000 * (t / 64)
     let k := s.spadStall i t.val (some a)
     let u := spadArbitrate i t.val (some a) s
     u.reg i o = satAdd (s.reg i o) 31 0 k ∧ (∀ x, x ≠ o → u.reg i x = s.reg i x) ∧ (NMap.get (0, 0) ((u.slice i).cluster (t / 64)).banks (a / 8 % 8)).1 = max (s.cycle + k + 1) (NMap.get (0, 0) ((s.slice i).cluster (t / 64)).banks (a / 8 % 8)).1 ∧
     ((NMap.get (0, 0) ((s.slice i).cluster (t / 64)).banks (a / 8 % 8)).1 ≤ s.cycle → k = 0)) ∧
    (let w := insWord 0x38 f
     let q := ran s th (th.pc + 1)
     Plain s i t w th p → fld w 50 41 = 0 → fld w 39 12 = 0 → MayWrite (bitAt w 40) (fld w 55 51) → Clear th [rD w] →
     (fld w 11 0 = 0 → Runs (.csrr i t f) i t s (q.put (rD w) (BitVec.ofNat 64 (i.val * 2 ^ 16 + fld (NMap.get 0 th.m 8) 11 8 * 2 ^ 12 + t / 64 * 2 ^ 8 + t % 64))) s) ∧
     (fld w 11 0 = 1 → Runs (.csrr i t f) i t s (q.put (rD w) (BitVec.ofNat 64 s.cycle)) s) ∧
     (fld w 11 0 = 2 → Runs (.csrr i t f) i t s (q.put (rD w) (BitVec.ofNat 64 (s.cycle - th.firstAt.getD s.cycle))) s) ∧
     (fld w 11 0 = 3 → Runs (.csrr i t f) i t s { q.put (rD w) (s.sliceStamp i).lo with time1 := (s.sliceStamp i).hi } s) ∧
     (fld w 11 0 = 4 → Runs (.csrr i t f) i t s (q.put (rD w) th.time1) s) ∧
     (∀ k : Fin 16, fld w 11 0 = 0x10 + k.val → Runs (.csrr i t f) i t s (q.put (rD w) (s.reg i (Reg.PGM_CONST + 8 * k.val))) s) ∧
     (fld w 11 0 = 0x30 → Runs (.csrr i t f) i t s (q.put (rD w) th.tctl) s)) ∧
    (let w := insWord 0x39 f
     Plain s i t w th p → fld w 55 51 = 0 → fld w 45 40 = 0 → fld w 38 12 = 0 → fld w 11 0 = 0x30 → MayRead (bitAt w 39) (fld w 50 46) → Clear th [rA w] →
     Runs (.csrw i t f) i t s { ran s th (th.pc + 1) with tctl := th.get (rA w) &&& 1 } s)

namespace Sys2Proof.Claims
/-- The same as `Runs` for an instruction that completes later: the samples that wait with it may be more. -/
def RunsOpen (c : Instr) (i : Fin 16) (t : Nat) (s : State) (th' : Thread) (s' : State) : Prop :=
  ∃ smp, Runs c i t s { th' with samples := smp } s'
/-- A drop of reason `code` is counted at slice `i` (R198). -/
def Dropped (i : Fin 16) (code : Nat) (s u : State) : Prop :=
  (u.reg i (Reg.DRP_COUNT + 8 * code)).toNat = min ((s.reg i (Reg.DRP_COUNT + 8 * code)).toNat + 1) (2 ^ 64 - 1)
/-- The field of PGM_COUNT0 or PGM_COUNT1 that counts an exception cause is raised by 1, up to its limit. -/
def CauseCounted (i : Fin 16) (k : Nat) (s u : State) : Prop :=
  let o := if k ≤ 3 then Reg.PGM_COUNT0 else Reg.PGM_COUNT1
  let lo := if k ≤ 3 then 48 - 16 * k else 112 - 16 * k
  u.reg i o = setFld (s.reg i o) (lo + 15) lo (min (fld (s.reg i o) (lo + 15) lo + 1) 0xFFFF)
/-- The thread takes cause `k` with m12 = `arg` (R157, R158): with its handler enabled it goes on there, m11, m12 and m8.IN_HANDLER set and nothing else of it
changed; without, or already in a handler, it ends and its packet is dropped with 0xE0 + cause or 0xE6. -/
def Excepts (c : Instr) (i : Fin 16) (t : Nat) (s : State) (th : Thread) (k : Nat) (arg : Word) : Prop :=
  let h := s.reg i Reg.PGM_TRAP
  let on := if th.bank = 0 then bitAt h 16 else bitAt h 48
  let pc := if th.bank = 0 then fld h 14 0 else fld h 46 32
  let inHandler := NMap.set 0 (NMap.set 0 (NMap.set 0 th.m 11 (BitVec.ofNat 64 (k * 2 ^ 16 + th.pc % 2 ^ 15))) 12 arg) 8 (NMap.get 0 th.m 8 ||| 8)
  s.cycle - th.firstAt.getD s.cycle < th.limit →
    (bitAt (NMap.get 0 th.m 8) 3 = false → on = true → Answers c s (fun u => CauseCounted i k s u ∧ OthersKept i s u ∧
      u.thread i t = some { ran s th pc with m := inHandler })) ∧
    (bitAt (NMap.get 0 th.m 8) 3 = false → on = false → Effect c s (fun u => u.thread i t = none ∧ Dropped i (0xE0 + k) s u ∧ CauseCounted i k s u)) ∧
    (bitAt (NMap.get 0 th.m 8) 3 = true → Effect c s (fun u => u.thread i t = none ∧ Dropped i 0xE6 s u ∧ CauseCounted i 6 s u))
/-- No tag of the thread is PENDING; a tag of the mask is. -/
def AllDone (th : Thread) : Prop := ∀ g, g < 8 → th.tag g ≠ .pending
def SomePending (th : Thread) (mask : Nat) : Prop := ∃ g, g < 8 ∧ mask.testBit g = true ∧ th.tag g = .pending
end Sys2Proof.Claims

/-- R120, R122, R155, R165, R167, R195, R157: WAIT goes on, or holds the thread while a tag of its mask is PENDING; END and DROP hold it while any is, then end it: END commits the
packet's copies as its thread left them, each toward its slices, or drops a packet without any with the no-destination reason 0x80; a merge copy is handed on at once, into the virtual output
queue of its slice and class 7; DROP drops it with its code.  TRAP takes cause 5 with its code. -/
def Obligations.ThreadsEndAndTrap : Prop :=
  ∀ (s : State) (i : Fin 16) (t : Fin 1024) (f : BitVec 56) (th : Thread) (p : Packet),
    (let w := insWord 0x41 f
     Plain s i t w th p → fld w 55 8 = 0 → fld w 7 0 ≠ 0 →
     (¬ SomePending th (fld w 7 0) → Runs (.wait i t f) i t s (ran s th (th.pc + 1)) s) ∧
     (SomePending th (fld w 7 0) → RunsOpen (.wait i t f) i t s { ran s th (th.pc + 1) with hold := .wait (fld w 7 0) } s)) ∧
    (let w := insWord 0x3D f
     Turn s i t w th p → f = 0 →
     (¬ AllDone th → RunsOpen (.endThread i t f) i t s { ran s th (th.pc + 1) with hold := .ending } s) ∧
     (AllDone th → p.full = false → th.copies = [] → Effect (.endThread i t f) s (fun u => u.thread i t = none ∧ Dropped i 0x80 s u)) ∧
     (AllDone th → Effect (.endThread i t f) s (fun u => u.thread i t = none ∧ ∀ q, u.packet i th.pkt = some q → q.committed.isSome = true)) ∧
     (∀ c cs, AllDone th → p.full = false → th.evidential = false → (∀ x ∈ th.copies, x.isMerge = false) →
       th.copies.filterMap (fun x => (finishCopy s i p x).1) = c :: cs →
       Effect (.endThread i t f) s (fun u => u.thread i t = none ∧ ∃ q, u.packet i th.pkt = some q ∧ q.committed = some (c :: cs) ∧ q.seq = p.seq ∧ q.frame = p.frame)) ∧
     (∀ x ∈ th.copies, x.dead = 0 → (x.isPunt = true → finishCopy s i p x = (some x, [])) ∧
       (∀ n, x.target = .queue n → x.barred = [] → s.queueValid (sl (n / 4096)) (n % 4096) = true → finishCopy s i p x = (some { x with slices := [n / 4096] }, []))) ∧
     (∀ (c x : Copy) (e : Fin 16), AllDone th → p.full = false → th.evidential = false → th.copies = [c] → c.isMerge = true → finishCopy s i p c = (some x, []) → x.slices = [e.val] →
       e ≠ i → (s.frame p.frame).bad = false → (s.frame p.frame).cutOff = false → crossDrop s i e = 0 →
       (NMap.get [] (s.slice i).eg.voq (8 * e.val + x.xcls)).any (fun y => y.takes (crossOf i th.pkt { p with committed := some [], evidential := false } x)) = false →
       Effect (.endThread i t f) s (fun u => u.thread i t = none ∧ NMap.get [] (u.slice i).eg.voq (8 * e.val + x.xcls) =
         NMap.get [] (s.slice i).eg.voq (8 * e.val + x.xcls) ++ [crossOf i th.pkt { p with committed := some [], evidential := false } x]))) ∧
    (let w := insWord 0x4C f
     Turn s i t w th p → fld w 55 7 = 0 →
     (¬ AllDone th → RunsOpen (.drop i t f) i t s { ran s th (th.pc + 1) with hold := .dropping (fld w 7 0) } s) ∧
     (AllDone th → Effect (.drop i t f) s (fun u => u.thread i t = none ∧ Dropped i (fld w 7 0) s u))) ∧
    (let w := insWord 0x3C f
     Plain s i t w th p → fld w 55 8 = 0 → Excepts (.trap i t f) i t s th 5 (BitVec.ofNat 64 (fld w 7 0)))

/-- R138, R140, R141, R146, R151, R153, R156, R164, R168: where an instruction raises an exception instead of its effect: a reserved field, a PC past the last, a write to an RO metadata register, a
CSR or a JR out of range (0), a field past its window (1), a pending destination among its registers (2), a scratchpad address (3), a fenced unit (4). -/
def Obligations.Exceptions : Prop :=
  ∀ (s : State) (i : Fin 16) (t : Fin 1024) (f : BitVec 56) (th : Thread) (p : Packet),
    (let w := insWord 0x01 f
     (Turn s i t w th p → (fld w 35 32 ≠ 0 ∨ bitAt w 40 = true ∧ (16 ≤ fld w 55 51 ∨ fld w 55 51 ∉ [3, 9, 13, 14, 15] ∧ th.pc ≠ 0x7FFF)) →
       Excepts (.add i t f) i t s th 0 (BitVec.ofNat 64 (fld w 63 32))) ∧
     (Turn s i t w th p → th.pc = 0x7FFF → LegalB w → MayRead (bitAt w 39) (fld w 50 46) → MayRead (bitAt w 40) (fld w 55 51) →
       Excepts (.add i t f) i t s th 0 0x8000) ∧
     (∀ (g : Nat) (o : AsyncOp), Plain s i t w th p → LegalB w → MayRead (bitAt w 39) (fld w 50 46) → MayWrite (bitAt w 40) (fld w 55 51) →
       th.ops = [(g, o)] → rA w ∈ o.dests → Excepts (.add i t f) i t s th 2 (BitVec.ofNat 64 g))) ∧
    (let w := insWord 0x2A f
     Turn s i t w th p → fld w 55 51 = 0 → fld w 45 40 = 0 → fld w 38 0 = 0 → MayRead (bitAt w 39) (fld w 50 46) → 0x8000 ≤ (th.get (rA w)).toNat →
     Excepts (.jr i t f) i t s th 0 (BitVec.ofNat 64 ((th.get (rA w)).toNat % 2 ^ 16))) ∧
    (let w := insWord 0x38 f
     Plain s i t w th p → fld w 50 41 = 0 → fld w 39 12 = 0 → MayRead (bitAt w 40) (fld w 55 51) → 5 ≤ fld w 11 0 →
     (fld w 11 0 < 0x10 ∨ 0x20 ≤ fld w 11 0) → fld w 11 0 ≠ 0x30 → Excepts (.csrr i t f) i t s th 0 (BitVec.ofNat 64 (fld w 11 0))) ∧
    (let w := insWord 0x20 f
     let base := (th.get ⟨bitAt w 37, fld w 50 46⟩).toNat + fld w 29 21
     let last := base + (fld w 20 18 + fld w 17 12) / 8
     Plain s i t w th p → fld w 40 39 = 0 → fld w 35 30 = 0 → fld w 11 0 = 0 → fld w 45 41 = 0 → MayRead (bitAt w 37) (fld w 50 46) →
     MayWrite (bitAt w 38) (fld w 55 51) → 255 < last → bitAt th.tctl 0 = false → Excepts (.ext i t f) i t s th 1 (BitVec.ofNat 64 last)) ∧
    (let w := insWord 0x31 f
     let a := th.get (rA w) + widened true 16 (fld w 31 16)
     Plain s i t w th p → fld w 35 32 = 0 → fld w 15 0 = 0 → fld w 55 51 = 0 → bitAt w 40 = false → MayRead (bitAt w 39) (fld w 50 46) →
     MayRead (bitAt w 38) (fld w 45 41) → Clear th [rA w, rB w] → (0xFFFF < a.toNat ∨ a.toNat % 2 ^ fld w 37 36 ≠ 0) → Excepts (.st i t f) i t s th 3 a) ∧
    (let w := insWord 0x4E f
     Plain s i t w th p → fld w 55 51 = 0 → fld w 40 0 = 0 → fld w 50 46 ≠ 31 → (s.slice i).unitFenced .learn = true →
     Clear th [gReg (fld w 50 46), gReg (fld w 50 46 + 1), gReg (fld w 45 41)] → Excepts (.learn i t f) i t s th 4 10)

namespace Sys2Proof.Claims
/-- An asynchronous instruction issues: its tag becomes PENDING with the operation, the operands as they are now, and nothing else happens yet (R163). -/
def Starts (c : Instr) (i : Fin 16) (t : Nat) (s : State) (th : Thread) (g : Nat) (o : AsyncOp) : Prop :=
  RunsOpen c i t s { ran s th (th.pc + 1) with tags := NMap.set .free th.tags g .pending, ops := th.ops ++ [(g, o)] } s
/-- The g registers from `n` on, `k` of them. -/
def gs (n k : Nat) : List Ref := (List.range k).map (fun j => gReg (n + j))
/-- Key registers, the first least significant (R169). -/
def keyOf (th : Thread) (n k : Nat) : Nat := (List.range k).foldl (fun v j => v + (th.get (gReg (n + j))).toNat * 2 ^ (64 * j)) 0
end Sys2Proof.Claims

/-- R163, R164, R169, R173, R175, R178, R194: the asynchronous instructions, legal, on units that are not fenced, with a tag that is not PENDING and no pending destination among their
registers, start their operation with the key, index, length, increment, bytes or packet that they name now. -/
def Obligations.AsyncStarts : Prop :=
  ∀ (s : State) (i : Fin 16) (t : Fin 1024) (f : BitVec 56) (th : Thread) (p : Packet),
    (let w := kindWord 0x40 37 36 0 f
     let k := if bitAt w 33 then 5 else 2
     Plain s i t w th p → fld w 35 34 ≠ 3 → fld w 31 0 = 0 → fld w 45 41 = 0 → fld w 55 51 ≠ 0 → fld w 50 46 + k ≤ 32 →
     (fld w 35 34 = 1 → (s.slice i).nearFenced = false) → (fld w 35 34 = 2 → (s.slice i).farFenced = false) →
     (fld w 35 34 = 0 → (s.slice i).nearFenced = false ∨ (s.slice i).farFenced = false) →
     th.tag (fld w 40 38) ≠ .pending → Clear th (gs (fld w 50 46) k ++ [gReg (fld w 55 51)] ++ if bitAt w 32 then [mReg 3] else []) →
     Starts (.lkpEm i t f) i t s th (fld w 40 38) (.lkpEm (fld w 35 34) (bitAt w 33) (bitAt w 32) (keyOf th (fld w 50 46) k) (fld w 55 51))) ∧
    (let w := kindWord 0x40 37 36 1 f
     let m := fld w 27 26
     let k := if m = 0 then 3 else if m = 1 then 5 else 10
     Plain s i t w th p → m ≠ 3 → fld w 35 32 = 0 → fld w 25 0 = 0 → fld w 45 41 = 0 → fld w 55 51 ≠ 0 → fld w 55 51 ≤ 30 → fld w 50 46 + k ≤ 32 →
     fld w 31 28 + 2 ^ m ≤ 16 → (s.slice i).unitFenced .rules = false → th.tag (fld w 40 38) ≠ .pending → Clear th (gs (fld w 50 46) k ++ gs (fld w 55 51) 2) →
     Starts (.lkpRm i t f) i t s th (fld w 40 38) (.lkpRm (fld w 31 28) m (keyOf th (fld w 50 46) k % 2 ^ (160 * 2 ^ m)) (fld w 55 51))) ∧
    (let w := kindWord 0x40 37 36 2 f
     let a : Ref := ⟨bitAt w 25, fld w 50 46⟩
     Plain s i t w th p → fld w 35 26 = 0 → fld w 24 0 = 0 → fld w 45 41 = 0 → fld w 55 51 ≠ 0 → fld w 55 51 ≤ 28 → MayRead (bitAt w 25) (fld w 50 46) →
     (s.slice i).unitFenced .session = false → th.tag (fld w 40 38) ≠ .pending → Clear th (a :: gs (fld w 55 51) 4) →
     Starts (.lkpSr i t f) i t s th (fld w 40 38) (.lkpSr ((th.get a).toNat % 2 ^ 17) (fld w 55 51))) ∧
    (let w := insWord 0x42 f
     let len := if bitAt w 36 then (th.get (gReg (fld w 45 41))).toNat % 2 ^ 14 else p.parse.frameLen
     Plain s i t w th p → (bitAt w 36 = false → fld w 45 41 = 0) → fld w 34 0 = 0 → (s.slice i).unitFenced .meters = false → th.tag (fld w 40 38) ≠ .pending →
     (bitAt w 37 = false → Clear th ([gReg (fld w 50 46), gReg (fld w 45 41), gReg (fld w 55 51)] ++ if bitAt w 35 then [mReg 9] else []) →
       Starts (.meter i t f) i t s th (fld w 40 38)
         (.meter (some ((th.get (gReg (fld w 50 46))).toNat % 2 ^ 16)) len (bitAt w 35) (fld (NMap.get 0 th.m 9) 1 0) (fld w 55 51))) ∧
     (bitAt w 37 = true → fld w 50 46 = 0 → (s.slice i).unitFenced .session = false →
       Clear th ([mReg 3, gReg (fld w 45 41), gReg (fld w 55 51)] ++ if bitAt w 35 then [mReg 9] else []) →
       Starts (.meter i t f) i t s th (fld w 40 38)
         (.meter ((s.srmRecord i th).map (fun r => r / 2 ^ 16 % 2 ^ 16)) len (bitAt w 35) (fld (NMap.get 0 th.m 9) 1 0) (fld w 55 51)))) ∧
    (let w := insWord 0x45 f
     let inc := if bitAt w 35 then BitVec.ofNat 64 (fld w 15 0) else th.get (gReg (fld w 45 41))
     Plain s i t w th p → (bitAt w 35 = true → fld w 45 41 = 0) → (bitAt w 35 = false → fld w 15 0 = 0) → fld w 34 16 = 0 → (s.slice i).unitFenced .seqCtrs = false →
     th.tag (fld w 40 38) ≠ .pending →
     (bitAt w 37 = false → Clear th [gReg (fld w 50 46), gReg (fld w 45 41), gReg (fld w 55 51)] →
       Starts (.seq i t f) i t s th (fld w 40 38) (.seqAdd (some ((th.get (gReg (fld w 50 46))).toNat % 2 ^ 16)) inc (bitAt w 36) (fld w 55 51))) ∧
     (bitAt w 37 = true → fld w 50 46 = 0 → (s.slice i).unitFenced .session = false → Clear th [mReg 3, gReg (fld w 45 41), gReg (fld w 55 51)] →
       Starts (.seq i t f) i t s th (fld w 40 38) (.seqAdd ((s.srmRecord i th).map (fun r => r / 2 ^ 32 % 2 ^ 16)) inc (bitAt w 36) (fld w 55 51)))) ∧
    (let w := kindWord 0x46 37 37 1 f
     let base := (th.get (gReg (fld w 50 46))).toNat + fld w 7 0
     let n := fld w 15 8 + 1
     Plain s i t w th p → fld w 36 16 = 0 → fld w 45 41 = 0 → fld w 55 51 ≤ 28 → (base + n ≤ 256 ∨ bitAt th.tctl 0 = true) → (s.slice i).digestFenced = false →
     th.tag (fld w 40 38) ≠ .pending → Clear th (gReg (fld w 50 46) :: gs (fld w 55 51) 4) →
     Starts (.hashSha i t f) i t s th (fld w 40 38) (.sha ((List.range n).map (fun k => s.header p (base + k))) (fld w 55 51))) ∧
    (let w := insWord 0x4D f
     let m9 := NMap.get 0 th.m 9
     Plain s i t w th p → fld w 37 16 = 0 → th.issued < 32 → (s.slice i).unitFenced .ddr5 = false → th.tag (fld w 40 38) ≠ .pending →
     Clear th [gReg (fld w 50 46), gReg (fld w 45 41), mReg 9, mReg 13, gReg (fld w 55 51)] →
     Starts (.rply i t f) i t s { th with issued := th.issued + 1 } (fld w 40 38)
       (.rply (fld w 15 0) ((th.get (gReg (fld w 50 46))).toNat % 2 ^ 16) ((th.get (gReg (fld w 45 41))).toNat % 2 ^ 32) (fld m9 4 2) (fld m9 1 0) (NMap.get 0 th.m 13)
         (fld w 55 51)))

namespace Sys2Proof.Claims
/-- The thread's one operation under way is `o` under `g`, which has not taken effect; no operation of an ended thread is left under that tag. -/
structure Started (s : State) (i : Fin 16) (t : Nat) (g : Nat) (o : AsyncOp) (th : Thread) (p : Packet) : Prop extends Ready s where
  thread  : s.thread i t = some th
  packet  : s.packet i th.pkt = some p
  only    : th.ops = [(g, o)]
  untaken : th.results = []
  orphans : ∀ x ∈ (s.slice i).orphans, x.thread ≠ t
  hold    : th.hold = .none
/-- The same on a unit that is not fenced. -/
structure Pending (s : State) (i : Fin 16) (t : Nat) (g : Nat) (o : AsyncOp) (th : Thread) (p : Packet) : Prop extends Started s i t g o th p where
  open_   : (s.slice i).opFenced o = false
/-- The row that completes an operation under tag `g`. -/
def completion (i : Fin 16) (t : Fin 1024) (g : Fin 8) (o : AsyncOp) : Instr :=
  match o with
  | .lkpEm .. | .lkpRm .. | .lkpSr .. => .lkpComplete i t g 0
  | .meter .. => .meterComplete i t g
  | .seqAdd .. => .seqComplete i t g
  | .sha .. => .hashShaComplete i t g
  | .rply .. => .rplyComplete i t g 0
/-- Every destination of the operation takes 0. -/
def zeroed (o : AsyncOp) (th : Thread) : Thread := o.dests.foldl (fun y r => y.put r 0) th
/-- Row `n` is a rule of the chain of head banks that matches the key (R229, R231): each of its segments' rows is VALID, not FENCED, and agrees with its
160 bits of the key wherever its CARE is set. -/
def Hits (c : RmxCopy) (m key : Nat) (banks : List Nat) (n : Nat) : Prop :=
  n / 2048 ∈ banks ∧ ∀ j, j < 2 ^ m → let r := c.row (2048 * (n / 2048 + j) + n % 2048)
    r.valid = true ∧ r.fenced = false ∧ ∀ k, r.care.testBit k = true → r.value.testBit k = (key / 2 ^ (160 * j) % 2 ^ 160).testBit k
/-- The completion: the tag is DONE with `st`, the destinations hold the values, and `P` holds of the rest. -/
def Completes (c : Instr) (i : Fin 16) (t : Nat) (s : State) (th : Thread) (g : Nat) (st : CmdStatus) (put : Thread → Thread) (P : State → Prop) : Prop :=
  Answers c s (fun u => (∃ smp, u.thread i t = some { put th with tags := NMap.set .free th.tags g (.done st), ops := [], samples := smp }) ∧
    (∀ t', t' ≠ t → u.thread i t' = s.thread i t') ∧ OthersKept i s u ∧ P u)
/-- The EM operation finds slot `n` of the Near tier with entry `e`. -/
def NearHit (s : State) (i : Fin 16) (th : Thread) (wide : Bool) (key n : Nat) (e : Entry) : Prop :=
  (s.slice i).found false wide key (fun e => (s.slice i).tbl.visible th.epoch e.vis) = some (n, e)
end Sys2Proof.Claims

/-- R163, R168, R170, R172, R174 to R178, R194, R229 to R232: what completions write.  A hit writes its result, with m3 when it carries a record index: a Near hit, or behind a Near miss a Far hit; a Near miss with TIER 1 writes 0
with NOT_FOUND; a Far search of a channel that is not READY and an operation whose unit is fenced write zeros with TIMEOUT and FENCED.  A rule lookup writes the result of the matching row of lowest PRIORITY, then lowest index, with that
index and MULTI, zeros with NOT_FOUND when none matches and with BAD_ARG when its chain of banks is broken; a record read writes 32
bytes; a meter writes its colour, or red with NOT_FOUND when it is disabled; a sequence counter writes its old value and takes the sum modulo 2⁶⁴; a digest writes
the SHA-256; an archive that holds the packet gives its length and a copy of it toward the queue, and one without it answers NOT_FOUND with 0 and no copy. -/
def Obligations.AsyncCompletions : Prop :=
  ∀ (s : State) (i : Fin 16) (t : Fin 1024) (g : Fin 8) (th : Thread) (p : Packet),
    (∀ tier wide ldsr key d n e, Pending s i t g (.lkpEm tier wide ldsr key d) th p → d ≠ 0 → tier ≠ 2 → (s.slice i).nearFenced = false → NearHit s i th wide key n e →
      Completes (.lkpComplete i t g 0) i t s th g .ok
        (fun x => let y := x.put (gReg d) e.result; if ldsr && bitAt e.result 17 then y.put (mReg 3) (BitVec.ofNat 64 (2 ^ 63 + e.result.toNat % 2 ^ 17)) else y)
        (fun u => ∃ e', ((u.slice i).tier false).at n = some e' ∧ e'.hit = true)) ∧
    (∀ wide ldsr key d, Pending s i t g (.lkpEm 1 wide ldsr key d) th p → d ≠ 0 → (s.slice i).nearFenced = false →
      (s.slice i).found false wide key (fun e => (s.slice i).tbl.visible th.epoch e.vis) = none →
      Completes (.lkpComplete i t g 0) i t s th g .notFound (fun x => x.put (gReg d) 0) (fun u => (u.slice i).tbl = (s.slice i).tbl)) ∧
    (∀ tier wide ldsr key d n e, Pending s i t g (.lkpEm tier wide ldsr key d) th p → d ≠ 0 → tier ≠ 1 → (s.slice i).farFenced = false → (s.slice i).farReady = true →
      (tier = 2 ∨ (s.slice i).nearFenced = true ∨ (s.slice i).found false wide key (fun e => (s.slice i).tbl.visible th.epoch e.vis) = none) →
      (s.slice i).found true wide key (fun e => (s.slice i).tbl.visible th.epoch e.vis) = some (n, e) →
      Completes (.lkpComplete i t g 0) i t s th g .ok
        (fun x => let y := x.put (gReg d) e.result; if ldsr && bitAt e.result 17 then y.put (mReg 3) (BitVec.ofNat 64 (2 ^ 63 + e.result.toNat % 2 ^ 17)) else y)
        (fun u => ∃ e', ((u.slice i).tier true).at n = some e' ∧ e'.hit = true)) ∧
    (∀ wide ldsr key d, Pending s i t g (.lkpEm 2 wide ldsr key d) th p → (s.slice i).farFenced = false → (s.dram i).state ≠ .ready →
      Completes (.lkpComplete i t g 0) i t s th g .timeout (zeroed (.lkpEm 2 wide ldsr key d)) (fun u => u.reg i Reg.DRM_COUNT1 = satAdd (s.reg i Reg.DRM_COUNT1) 63 32 1)) ∧
    (∀ o, Started s i t g o th p →
      ((s.slice i).opFenced o = true ∨ (∃ wide ldsr key d, o = .lkpEm 1 wide ldsr key d ∧ (s.slice i).nearFenced = true) ∨
        (∃ wide ldsr key d, o = .lkpEm 2 wide ldsr key d ∧ (s.slice i).farFenced = true)) →
      (∀ idx inc d, o = .seqAdd idx inc true d → (s.lane i p.lane).allEnded p.seq = true) →
      Completes (completion i t g o) i t s th g .fenced (zeroed o) (fun u => (u.slice i).tbl = (s.slice i).tbl ∧ (u.slice i).seqCtr = (s.slice i).seqCtr)) ∧
    (∀ bank m key d, Pending s i t g (.lkpRm bank m key d) th p →
      let c := (s.slice i).rmx.copy (s.recordBank (s.slice i).fol th.epoch)
      let writes := fun (a b : Word) (x : Thread) => (x.put (gReg d) a).put (gReg (d + 1)) b
      let kept := fun (u : State) => (u.slice i).rmx = (s.slice i).rmx
      (c.chain m 17 bank [] = none → Completes (.lkpComplete i t g 0) i t s th g .badArg (writes 0 0) kept) ∧
      (∀ banks, c.chain m 17 bank [] = some banks →
        ((∀ n, ¬ Hits c m key banks n) → Completes (.lkpComplete i t g 0) i t s th g .notFound (writes 0 0) kept) ∧
        (∀ n, n < 32768 → Hits c m key banks n →
          (∀ k, Hits c m key banks k → (c.row n).prio < (c.row k).prio ∨ ((c.row n).prio = (c.row k).prio ∧ n ≤ k)) →
          ∀ multi : Bool, (multi = true ↔ ∃ k, Hits c m key banks k ∧ k ≠ n ∧ (c.row k).prio = (c.row n).prio) →
          Completes (.lkpComplete i t g 0) i t s th g .ok (writes (c.row n).result (BitVec.ofNat 64 (n + if multi then 65536 else 0))) kept))) ∧
    (∀ idx d, Pending s i t g (.lkpSr idx d) th p →
      let r := (s.slice i).tbl.record (s.recordBank (s.slice i).fol th.epoch) idx
      Completes (.lkpComplete i t g 0) i t s th g .ok (fun x => (List.range 4).foldl (fun y k => y.put (gReg (d + k)) (BitVec.ofNat 64 (r / 2 ^ (64 * k)))) x)
        (fun u => (u.slice i).tbl = (s.slice i).tbl)) ∧
    (∀ len setc colour d, Pending s i t g (.meter none len setc colour d) th p →
      Completes (.meterComplete i t g) i t s th g .notFound
        (fun x => let y := x.put (gReg d) 2; if setc then y.put (mReg 9) ((y.get (mReg 9) &&& 0x1C) ||| 2) else y)
        (fun u => (u.slice i).eg = (s.slice i).eg)) ∧
    (∀ n len setc colour d, Pending s i t g (.meter (some n) len setc colour d) th p →
      let v := meterOp i (s.recordBank (s.slice i).fol th.epoch) n len colour s
      let c := v.1.getD 2
      Completes (.meterComplete i t g) i t s th g (if v.1.isSome then .ok else .notFound)
        (fun x => let y := x.put (gReg d) (BitVec.ofNat 64 c); if setc then y.put (mReg 9) ((y.get (mReg 9) &&& 0x1C) ||| BitVec.ofNat 64 c) else y)
        (fun u => (u.slice i).eg = (v.2.slice i).eg)) ∧
    (∀ n inc ord d, Pending s i t g (.seqAdd (some n) inc ord d) th p → (ord = true → (s.lane i p.lane).allEnded p.seq = true) →
      Completes (.seqComplete i t g) i t s th g .ok (fun x => x.put (gReg d) (NMap.get 0 (s.slice i).seqCtr n))
        (fun u => ∀ k, NMap.get 0 (u.slice i).seqCtr k = if k = n then NMap.get 0 (s.slice i).seqCtr n + inc else NMap.get 0 (s.slice i).seqCtr k)) ∧
    (∀ inc d, Pending s i t g (.seqAdd none inc false d) th p →
      Completes (.seqComplete i t g) i t s th g .notFound (fun x => x.put (gReg d) 0) (fun u => (u.slice i).seqCtr = (s.slice i).seqCtr)) ∧
    (∀ bytes d, Pending s i t g (.sha bytes d) th p →
      Completes (.hashShaComplete i t g) i t s th g .ok
        (fun x => (List.range 4).foldl (fun y k => y.put (gReg (d + k)) (BitVec.ofNat 64 (ofBytesBE (((sha256 bytes).drop (8 * k)).take 8)))) x) (fun _ => True)) ∧
    (∀ q group num cls colour info d, Pending s i t g (.rply q group num cls colour info d) th p → (s.slice i).farReady = true → s.archFind i group num = none →
      Completes (.rplyComplete i t g 0) i t s th g .notFound (fun x => x.put (gReg d) 0)
        (fun u => (u.slice i).dram = { (s.slice i).dram with queued := (s.slice i).dram.queued.erase (t.val, g.val) })) ∧
    (∀ q group num cls colour info d a, Pending s i t g (.rply q group num cls colour info d) th p → (s.slice i).farReady = true → s.archFind i group num = some a →
      Completes (.rplyComplete i t g 0) i t s th g .ok
        (fun x => { x.put (gReg d) (BitVec.ofNat 64 a.bytes.length) with copies := x.copies ++ [{
          target := .replay q a.bytes, xcls := if cls = 7 then 6 else cls, cls := cls, colour := colour, edits := [], cut := false, info := info,
          dead := crossDrop s i (Fin.ofNat 16 (q / 4096)) }] })
        (fun u => (u.slice i).dram.slots = (s.slice i).dram.slots))

/-- R179, R181, R183, R185, R186: an EDIT or STAMP adds its entry at the end of a list that is not full, inside the first 256 bytes; TRUNC cuts the list; LEDG and MARK write m10 and m9; FRAG answers STATE_REFUSED in d on a packet
that is no first fragment. -/
def Sys2Proof.Claims.EditWords : Prop :=
  ∀ (s : State) (i : Fin 16) (t : Fin 1024) (f : BitVec 56) (th : Thread) (p : Packet),
    let after := fun (e : Edit) => { ran s th (th.pc + 1) with edits := th.edits ++ [e] }
    (th.edits.length < 32 →
      (∀ x ∈ ([(.editSet i t f, 0, Edit.set), (.editIns i t f, 1, Edit.ins)] : List (Instr × Nat × (Nat → Nat → Word → Edit))),
        let w := kindWord 0x44 40 37 x.2.1 f
        let off := (th.get (gReg (fld w 50 46))).toNat + fld w 7 0
        Plain s i t w th p → fld w 55 51 = 0 → fld w 36 16 = 0 → 1 ≤ fld w 15 8 → fld w 15 8 ≤ 8 → off + fld w 15 8 ≤ 256 →
        Clear th [gReg (fld w 50 46), gReg (fld w 45 41)] →
        Runs x.1 i t s (after (x.2.2 off (fld w 15 8) (th.get (gReg (fld w 45 41))))) s) ∧
      (let w := kindWord 0x44 40 37 2 f
       let off := (th.get (gReg (fld w 50 46))).toNat + fld w 7 0
       Plain s i t w th p → fld w 55 51 = 0 → fld w 45 41 = 0 → fld w 36 16 = 0 → 1 ≤ fld w 15 8 → off + fld w 15 8 ≤ 256 → Clear th [gReg (fld w 50 46)] →
       Runs (.editDel i t f) i t s (after (.del off (fld w 15 8))) s) ∧
      (let w := kindWord 0x44 40 37 3 f
       let off := (th.get (gReg (fld w 50 46))).toNat + fld w 7 0
       Plain s i t w th p → fld w 55 51 = 0 → fld w 45 41 = 0 → fld w 36 8 = 0 → off + 20 ≤ 256 → Clear th [gReg (fld w 50 46)] →
       Runs (.editCsumIp4 i t f) i t s (after (.csumIp4 off)) s) ∧
      (let w := kindWord 0x44 40 37 4 f
       let off := (th.get (gReg (fld w 50 46))).toNat + fld w 7 0
       Plain s i t w th p → fld w 55 51 = 0 → fld w 35 8 = 0 → off + 2 ≤ 256 → Clear th [gReg (fld w 50 46), gReg (fld w 45 41)] →
       Runs (.editCsumL4 i t f) i t s (after (.csumL4 off ((th.get (gReg (fld w 45 41))).toNat % 256) (bitAt w 36))) s) ∧
      (∀ x ∈ ([(.stampInsRx i t f, 1, fun o n le => .stampRx o n le (stampOfPair (NMap.get 0 th.m 1) (NMap.get 0 th.m 2))), (.stampInsTx i t f, 2, Edit.stampTx)] :
          List (Instr × Nat × (Nat → Nat → Bool → Edit))),
        let w := kindWord 0x43 40 38 x.2.1 f
        let a : Ref := ⟨bitAt w 34, fld w 50 46⟩
        let off := (th.get a).toNat + fld w 7 0
        Plain s i t w th p → fld w 55 51 = 0 → fld w 45 41 = 0 → fld w 37 36 ≠ 3 → fld w 33 8 = 0 → MayRead (bitAt w 34) (fld w 50 46) →
        off + (if fld w 37 36 = 0 then 12 else if fld w 37 36 = 1 then 4 else 10) ≤ 256 → Clear th [a] →
        Runs x.1 i t s (after (x.2.2 off (fld w 37 36) (bitAt w 35))) s) ∧
      (let w := kindWord 0x43 40 38 3 f
       let a : Ref := ⟨bitAt w 34, fld w 50 46⟩
       let off := (th.get a).toNat + fld w 7 0
       Plain s i t w th p → fld w 55 51 = 0 → fld w 45 41 = 0 → fld w 37 35 = 0 → fld w 33 8 = 0 → MayRead (bitAt w 34) (fld w 50 46) → off + 8 ≤ 256 → Clear th [a] →
       Runs (.stampCorr i t f) i t s (after (.corr off (stampOfPair (NMap.get 0 th.m 1) (NMap.get 0 th.m 2)))) s)) ∧
    (let w := kindWord 0x44 40 37 5 f
     Plain s i t w th p → fld w 55 46 = 0 → fld w 36 0 = 0 → Clear th [gReg (fld w 45 41)] →
     Runs (.editTrunc i t f) i t s { ran s th (th.pc + 1) with edits := th.edits.take ((th.get (gReg (fld w 45 41))).toNat % 64) } s) ∧
    (let w := insWord 0x47 f
     let v := if bitAt w 37 then th.get (gReg (fld w 50 46)) else NMap.get 0 th.m 3
     Plain s i t w th p → fld w 55 51 = 0 → fld w 45 38 = 0 → fld w 36 0 = 0 → (bitAt w 37 = false → fld w 50 46 = 0) → Clear th [mReg 3, gReg (fld w 50 46)] →
     Runs (.ledg i t f) i t s { ran s th (th.pc + 1) with m := NMap.set 0 th.m 10 (NMap.get 0 th.m 10 ||| 0x100), ledg := some (v.toNat % 2 ^ 17) } s) ∧
    (let w := insWord 0x49 f
     let v := if bitAt w 35 then (th.get (gReg (fld w 50 46))).toNat % 32 else fld w 4 0
     let old := (NMap.get 0 th.m 9).toNat
     ∀ cls col : Nat, cls = (if bitAt w 37 then v / 4 else old / 4 % 8) → col = (if bitAt w 36 then v % 4 else old % 4) →
     Plain s i t w th p → fld w 55 51 = 0 → fld w 45 38 = 0 → fld w 34 5 = 0 → fld w 37 36 ≠ 0 → (bitAt w 35 = true → fld w 4 0 = 0) →
     (bitAt w 35 = false → fld w 50 46 = 0) → Clear th [gReg (fld w 50 46), mReg 9] →
     Runs (.mark i t f) i t s { ran s th (th.pc + 1) with m := NMap.set 0 th.m 9 (BitVec.ofNat 64 (cls * 4 + if col = 3 then 2 else col)) } s) ∧
    (let w := insWord 0x48 f
     Plain s i t w th p → fld w 40 38 = 0 → fld w 36 15 = 0 → (bitAt w 37 = true → fld w 50 46 = 0) → (bitAt w 37 = false → fld w 14 0 = 0) →
     (s.slice i).unitFenced .frag = false → Clear th [gReg (fld w 50 46), gReg (fld w 45 41), gReg (fld w 55 51)] →
     (p.parse.has flgFirst = false → Runs (.frag i t f) i t s ((ran s th (th.pc + 1)).put (gReg (fld w 55 51)) 5) s) ∧
     (∀ k e, p.parse.has flgFirst = true → s.fragClosed i = false → s.ownFragment i th.pkt = some (k, e) →
       let pc := if bitAt w 37 then fld w 14 0 else (th.get (gReg (fld w 50 46))).toNat % 2 ^ 15
       let e' : FragEntry := { e with state := .decided th.bank pc ((th.get (gReg (fld w 45 41))).toNat % 2 ^ 48) th.epoch }
       Runs (.frag i t f) i t s ((ran s th (th.pc + 1)).put (gReg (fld w 55 51)) 0) (s.modFrg i (fun x => x.put k (some e')))))
/-- R180 to R182, R185, R186: a copy's edit list as the egress MAC applies it, over the frame's bytes.  Each entry takes the frame that the earlier ones left, and the first that lies beyond its end aborts the copy; SET, INS, DEL and STAMP change
the bytes they name, CORR adds the residence time in units of 2⁻¹⁶ ns, CSUM_IP4 makes the header sum to all ones, and CSUM_L4 leaves a field whose bytes have not changed, or that holds no checksum; the frame is then padded to 60 bytes. -/
def Sys2Proof.Claims.EditLists : Prop :=
  ∀ (tx : Stamp),
    (∀ (xs ys : List Edit) (b : EditBuf),
      (∀ b', applyEdits tx xs b = .ok b' → applyEdits tx (xs ++ ys) b = applyEdits tx ys b') ∧ (applyEdits tx xs b = .abort → applyEdits tx (xs ++ ys) b = .abort)) ∧
    (∀ (es : List Edit) (bs : List Byte) b, applyEdits tx es (editBuf bs) = .ok b →
      ∃ b', editedFrame tx es bs = .ok b' ∧ b'.bytes = b.bytes ++ List.replicate (60 - b.length) 0) ∧
    (∀ (b : EditBuf) (off : Nat),
      let gives := fun (e : Edit) (bs : List Byte) => ∃ b', e.apply tx b = .ok b' ∧ b'.bytes = bs
      (∀ (n : Nat) (v : Word),
        (off + n ≤ b.length → gives (.set off n v) (overlay b.bytes off (bytesBE n v.toNat))) ∧
        (b.length < off + n → (Edit.set off n v).apply tx b = .abort) ∧
        (off ≤ b.length → gives (.ins off n v) (b.bytes.take off ++ bytesBE n v.toNat ++ b.bytes.drop off)) ∧
        (b.length < off → (Edit.ins off n v).apply tx b = .abort) ∧
        (off + n ≤ b.length → gives (.del off n) (b.bytes.take off ++ b.bytes.drop (off + n))) ∧
        (b.length < off + n → (Edit.del off n).apply tx b = .abort)) ∧
      (∀ (fmt : Nat) (le : Bool) (at_ : Stamp),
        (off + stampWidth fmt ≤ b.length → gives (.stampTx off fmt le) (overlay b.bytes off (stampBytes fmt le tx)) ∧ gives (.stampRx off fmt le at_) (overlay b.bytes off (stampBytes fmt le at_))) ∧
        (b.length < off + stampWidth fmt → (Edit.stampTx off fmt le).apply tx b = .abort ∧ (Edit.stampRx off fmt le at_).apply tx b = .abort)) ∧
      (∀ (at_ : Stamp), off + 8 ≤ b.length → at_.t16 ≤ tx.t16 → gives (.corr off at_) (overlay b.bytes off
        (bytesBE 8 ((ofBytesBE (slice b.bytes off 8) + (tx.t16 - at_.t16) * 4096) % 2 ^ 64)))) ∧
      (∀ ihl, off + 20 ≤ b.length → (byteAt b.bytes off).toNat % 16 = ihl → (ihl < 5 → (Edit.csumIp4 off).apply tx b = .fault) ∧
        (5 ≤ ihl → off + 4 * ihl ≤ b.length → ∃ b', (Edit.csumIp4 off).apply tx b = .ok b' ∧ b'.length = b.length ∧ (∀ k, k ≠ off + 10 → k ≠ off + 11 → b'.bytes[k]? = b.bytes[k]?) ∧
          onesSum (slice b'.bytes off (4 * ihl)) = 0xFFFF) ∧
        (5 ≤ ihl → b.length < off + 4 * ihl → (Edit.csumIp4 off).apply tx b = .abort)) ∧
      (∀ (start : Nat) (udp4 : Bool), off + 2 ≤ b.length →
        (udp4 = true → ofBytesBE (slice b.bytes off 2) = 0 → (Edit.csumL4 off start udp4).apply tx b = .ok b) ∧
        ((∀ p ∈ b.drop start, p.2 = 0) → (Edit.csumL4 off start udp4).apply tx b = .ok b)) ∧
      (∀ (hc : Nat) (d : Int), hc < 65536 → csumAdjust hc d < 65536 ∧ (((0xFFFF : Int) - csumAdjust hc d) - ((0xFFFF - hc) + d)) % 65535 = 0))
/-- R179 to R183, R185, R186: the words that edit and mark, and what an edit list makes of a frame. -/
def Obligations.EditsAndMarks : Prop := Claims.EditWords ∧ Claims.EditLists

/-- R15, R18, R23, R179, R191 to R193, R196, R218: EMIT and PUNT add one copy toward their target, with CLASS and COLOUR of m9, m13 and the edit list as they are now, and the reason for which
the slice that they name, or each slice of a group or a list, takes none; its crossbar class is 7 for MERGE and EQX and never 7 otherwise.  LEARN posts its key and result while the queue has room and LEARN_EN is set. -/
def Obligations.CopiesAndLearning : Prop :=
  ∀ (s : State) (i : Fin 16) (t : Fin 1024) (f : BitVec 56) (th : Thread) (p : Packet),
    let cls := fld (NMap.get 0 th.m 9) 4 2
    let copy := fun (target : Target) (xcls dead : Nat) (cut : Bool) (bar : NMap Nat) => ({
        target := target, xcls := xcls, cls := cls, colour := fld (NMap.get 0 th.m 9) 1 0, edits := th.edits, cut := cut,
        info := NMap.get 0 th.m 13, dead := dead, barred := bar } : Copy)
    let adds := fun (c : Instr) (target : Target) (xcls dead : Nat) =>
      ∃ cut, Runs c i t s { ran s th (th.pc + 1) with issued := th.issued + 1, copies := th.copies ++ [copy target xcls dead cut []] } s
    let addsAll := fun (c : Instr) (target : Target) (xcls : Nat) =>
      ∃ cut bar, (∀ e : Fin 16, NMap.get 0 bar e.val = crossDrop s i e) ∧
        Runs c i t s { ran s th (th.pc + 1) with issued := th.issued + 1, copies := th.copies ++ [copy target xcls 0 cut bar] } s
    let value := fun (w : Word) => if bitAt w 35 then (th.get (gReg (fld w 50 46))).toNat % 2 ^ 16 else fld w 15 0
    let low := if cls = 7 then 6 else cls
    (th.issued < 32 →
      (∀ k : Fin 5, let w := kindWord 0x4A 38 36 k.val f
        Plain s i t w th p → fld w 55 51 = 0 → fld w 45 41 = 0 → fld w 40 39 = 0 → fld w 34 16 = 0 → (bitAt w 35 = true → fld w 15 0 = 0) →
        (bitAt w 35 = false → fld w 50 46 = 0) → Clear th [mReg 9, mReg 13, gReg (fld w 50 46)] →
        (k.val = 0 → adds (.emitQueue i t f) (.queue (value w)) low (crossDrop s i (Fin.ofNat 16 (value w / 4096)))) ∧
        (k.val = 1 → adds (.emitPort i t f) (.port (value w)) low (if value w < 1024 then crossDrop s i (Fin.ofNat 16 (value w / 64)) else 0x8A)) ∧
        (k.val = 2 → adds (.emitMerge i t f) (.merge (value w)) 7 (if value w < 1024 then crossDrop s i (Fin.ofNat 16 (value w / 64)) else 0x8A)) ∧
        (k.val = 3 → addsAll (.emitEqx i t f) (.eqx (value w)) 7) ∧
        (k.val = 4 → addsAll (.emitMcast i t f) (.mcast (value w)) low)) ∧
      (let w := insWord 0x4B f
       let ring := if bitAt w 37 then (th.get (gReg (fld w 50 46))).toNat % 256 else fld w 7 0
       Plain s i t w th p → fld w 55 51 = 0 → fld w 45 38 = 0 → fld w 35 16 = 0 → (bitAt w 37 = true → fld w 7 0 = 0) → (bitAt w 37 = false → fld w 50 46 = 0) →
       Clear th [mReg 9, mReg 13, gReg (fld w 50 46)] → adds (.punt i t f) (.punt ring (fld w 15 8) (bitAt w 36)) low 0)) ∧
    (let w := insWord 0x4E f
     let key := (th.get (gReg (fld w 50 46))).toNat + (th.get (gReg (fld w 50 46 + 1))).toNat * 2 ^ 64
     Plain s i t w th p → fld w 55 51 = 0 → fld w 40 0 = 0 → fld w 50 46 ≠ 31 → (s.slice i).unitFenced .learn = false →
     Clear th [gReg (fld w 50 46), gReg (fld w 50 46 + 1), gReg (fld w 45 41)] →
     (bitAt (s.reg i Reg.TBL_CFG) 40 = true → (s.slice i).tbl.learn.length < 256 →
       Runs (.learn i t f) i t s (ran s th (th.pc + 1)) (s.modTbl i (fun x => { x with learn := x.learn ++ [(key, th.get (gReg (fld w 45 41)))] }))) ∧
     ((bitAt (s.reg i Reg.TBL_CFG) 40 = false ∨ 256 ≤ (s.slice i).tbl.learn.length) →
       Runs (.learn i t f) i t s (ran s th (th.pc + 1)) (s.count i Reg.TBL_COUNT1 47 32)))

-- Tables, rule matcher, buffers -------------------------------------------------------------------------------------------

namespace Sys2Proof.Claims
/-- A table command by a permitted requester may start: TBL_CMD is not busy, the sequencer runs, both tiers and the key's buckets are open. -/
structure TablesOpen (s : State) (i : Fin 16) (r : Requester) (w : Word) : Prop extends Ready s where
  writer : s.sliceWriter i r = true
  idle   : (s.slice i).tbl.cmd.busy = false
  runs   : (s.slice i).seq.state = .running
  far    : (s.slice i).farFenced = false
  ready  : (s.slice i).farReady = true
  key    : (s.slice i).keyFenced (bitAt w 9) (s.tblKey i (bitAt w 9)) = false
/-- The tier that a word names, its key, and where the key may lie. -/
def isFar (w : Word) : Bool := decide (fld w 5 4 = 1)
/-- The command's status is that of a finished one, and no other slice changed. -/
def TblEnds (i : Fin 16) (st : CmdStatus) (s u : State) : Prop := (u.slice i).tbl.cmd = finished st ∧ OthersKept i s u
end Sys2Proof.Claims

/-- R203, R206, R210, R211, R214 to R216: the table commands.  INSERT of a key that no tier holds in a conflicting version puts the entry into the first free place of its two buckets, and answers ALREADY_PRESENT
for one that does; DELETE and UPDATE act on the entry of that key and visibility, or answer NOT_FOUND; LOOKUP and READ_SLOT return what they find; WRITE_SLOT erases a slot or writes a staging record; FLUSH_STASH,
DIGEST_SET and DIGEST_READ do as named.  While another runs, a command is counted as refused and has no other effect. -/
def Obligations.TableCommands : Prop :=
  ∀ (s : State) (i : Fin 16) (r : Requester) (w : Word),
    let far := isFar w
    let wide := bitAt w 9
    let vis := fld w 11 10
    let n := fld w 36 16
    let key := s.tblKey i wide
    let t := (s.slice i).tier far
    (TablesOpen s i r w → fld w 5 4 ≤ 1 → (vis = 3 ∨ (1 ≤ vis ∧ s.fol.state = .staging)) →
      (t.flush = false → (s.slice i).conflicts far wide key vis [] = true → Answers (.insert i r (w, 0)) s (fun u => TblEnds i .alreadyPresent s u ∧
        ((u.slice i).tier far).slots = t.slots)) ∧
      (∀ p, t.flush = false → (s.slice i).conflicts far wide key vis [] = false →
        (([(t.homesAt far t.gen wide key).1, (t.homesAt far t.gen wide key).2].flatMap (bucketPlaces wide)).find? ((s.slice i).usable far wide)) = some p →
        Answers (.insert i r (w, 0)) s (fun u => TblEnds i .ok s u ∧ (u.slice i).tbl.locSlot = p ∧ (u.slice i).tbl.locFar = far ∧ (u.slice i).tbl.moves = 0 ∧
          ((u.slice i).tier far).slots = NMap.set none t.slots p (some { key := key, wide := wide, result := s.reg i Reg.TBL_RES0, vis := vis, gen := t.gen, pass := t.parity }))) ∧
      (s.exact i far wide vis = none → Answers (.delete i r (w, 0)) s (fun u => TblEnds i .notFound s u ∧ ((u.slice i).tier far).slots = t.slots) ∧
        Answers (.update i r (w, 0)) s (fun u => TblEnds i .notFound s u ∧ ((u.slice i).tier far).slots = t.slots)) ∧
      (∀ k e, s.exact i far wide vis = some (k, e) →
        Effect (.delete i r (w, 0)) s (fun u => TblEnds i .ok s u ∧ ((u.slice i).tier far).slots = NMap.set none t.slots k none ∧
          (((u.slice i).tier far).seg (t.segOf far e)).valid = false) ∧
        Answers (.update i r (w, 0)) s (fun u => TblEnds i .ok s u ∧ ((u.slice i).tier far).slots = NMap.set none t.slots k (some { e with result := s.reg i Reg.TBL_RES0 }) ∧
          (((u.slice i).tier far).seg (t.segOf far e)).valid = false))) ∧
    (TablesOpen s i r w → fld w 5 4 ≤ 1 →
      (∀ k e, s.lookupAny i wide vis false = some (k, e) → Answers (.lookup i r (w, 0)) s (fun u => TblEnds i .ok s u ∧ u.reg i Reg.TBL_RES0 = e.result ∧
        u.reg i Reg.TBL_RES1 = e.control ∧ (u.slice i).tbl.locSlot = k ∧ (u.slice i).tbl.locFar = false)) ∧
      (∀ k e, s.lookupAny i wide vis false = none → s.lookupAny i wide vis true = some (k, e) → Answers (.lookup i r (w, 0)) s (fun u => TblEnds i .ok s u ∧
        u.reg i Reg.TBL_RES0 = e.result ∧ (u.slice i).tbl.locSlot = k ∧ (u.slice i).tbl.locFar = true)) ∧
      (s.lookupAny i wide vis false = none → s.lookupAny i wide vis true = none → Answers (.lookup i r (w, 0)) s (fun u => TblEnds i .notFound s u)) ∧
      (n < tierSlots far → (s.slice i).slotFenced far n = false →
        (∀ k e, t.holder n = some (k, e) → Answers (.readSlot i r (w, 0)) s (fun u => TblEnds i .ok s u ∧ u.reg i Reg.TBL_RES0 = e.result ∧ u.reg i Reg.TBL_RES1 = e.control ∧
          ∀ j, j < 5 → (u.reg i (Reg.TBL_KEY + 8 * j)).toNat = e.key / 2 ^ (64 * j) % 2 ^ 64)) ∧
        (t.holder n = none → Answers (.readSlot i r (w, 0)) s (fun u => TblEnds i .ok s u ∧ u.reg i Reg.TBL_RES1 = 0)) ∧
        (∀ k e, t.holder n = some (k, e) → bitAt (s.reg i Reg.TBL_RES1) 63 = false → t.flush = false → Answers (.writeSlot i r (w, 0)) s (fun u => TblEnds i .ok s u ∧
          ((u.slice i).tier far).slots = NMap.set none t.slots k none))) ∧
      (t.flush = false → t.mig = false → Answers (.flushStash i r w) s (fun u => TblEnds i .ok s u ∧ ((u.slice i).tier far).flush = true ∧ ((u.slice i).tier far).slots = t.slots)) ∧
      (n < tierSegs far → Answers (.digestSet i r w) s (fun u => TblEnds i .ok s u ∧ (((u.slice i).tier far).seg n).expect = s.reg i Reg.TBL_RES0 ∧
          (((u.slice i).tier far).seg n).valid = true ∧ ((u.slice i).tier far).slots = t.slots) ∧
        Answers (.digestRead i r w) s (fun u => TblEnds i .ok s u ∧ u.reg i Reg.TBL_RES0 = (t.seg n).digest ∧ u.reg i Reg.TBL_KEY = (t.seg n).expect ∧
          (u.slice i).tier far = t))) ∧
    (TablesOpen s i r w → fld w 5 4 = 2 → n < 131072 → fld w 50 49 = 2 →
      let rec_ := (s.slice i).fol.settled.roleS
      Answers (.readSlot i r (w, 0)) s (fun u => TblEnds i .ok s u ∧ ∀ j, j < 4 → (u.reg i (Reg.TBL_KEY + 8 * j)).toNat = (s.slice i).tbl.record rec_ n / 2 ^ (64 * j) % 2 ^ 64) ∧
      (s.keyRecord i &&& recordReserved = 0 → s.fol.state = .staging → Answers (.writeSlot i r (w, 0)) s (fun u => TblEnds i .ok s u ∧
        (u.slice i).tbl.record rec_ n = s.keyRecord i ∧ ∀ b k, (b, k) ≠ (rec_, n) → k < 131072 → (u.slice i).tbl.record b k = (s.slice i).tbl.record b k))) ∧
    (Ready s → s.sliceWriter i r = true → (s.slice i).tbl.cmd.busy = true → ∀ err : Fin 3,
      ∀ x ∈ ([(.insert i r (w, err), 1), (.delete i r (w, err), 2), (.update i r (w, err), 3), (.lookup i r (w, err), 4), (.readSlot i r (w, err), 5), (.writeSlot i r (w, err), 6), (.flushStash i r w, 7), (.digestSet i r w, 8),
        (.digestRead i r w, 9)] : List (Instr × Nat)), exec x.1 s = .next (took r (sliceOff i Reg.TBL_CMD) .both (withOp w x.2) (s.count i Reg.TBL_COUNT1 63 48)))

/-- R135, R205, R210, R217, R219, R221 to R226: the background work of the tables, while the sequencer runs and the Far tier is there.  A flush pass ends the flush, a migration ends, stalls, or waits for a
fenced bank; the learn engine refreshes a learned entry that it finds, inserts a new one into a free place, changes no entry while an insert would be refused, and waits for its sequencer and for a channel that is not READY; the sweeper
starts its pass at its period, ages the entry it examines and keeps one of a fenced bank, marking it examined and its segment changed, ends when none is left; a Far command that waited 1 ms ends with TIMEOUT. -/
def Obligations.TableBackground : Prop :=
  ∀ (s : State) (i : Fin 16), Ready s →
    (∀ far, (s.slice i).tierWorks far = true →
      (((s.slice i).tier far).flush = true → Answers (.flushStashPassEnd i (far, 0)) s (fun u => ((u.slice i).tier far).flush = false ∧ OthersKept i s u)) ∧
      (((s.slice i).tier far).mig = true → ((s.slice i).tier far).stalled = false → Effect (.migrationEnd i (far, 0)) s (fun u =>
        ((u.slice i).tier far).mig = false ∨ ((u.slice i).tier far).stalled = true ∨ (u.slice i).awaitsBank far = true))) ∧
    (∀ (far : Bool) (err : Fin 3), (s.slice i).tierWorks far = false →
      ∀ c ∈ [Instr.flushStashPassEnd i (far, err), .migrationEnd i (far, err), .sweepEntry i far err false, .sweepPassEnd i far], exec c s = .next s) ∧
    ((s.slice i).seq.state ≠ .running → ∀ err : Fin 3, exec (.learnRequestProcess (i, err)) s = .next s) ∧
    (∀ key res rest, (s.slice i).tbl.learn = (key, res) :: rest → (s.slice i).seq.state = .running →
      let closed := ((s.slice i).tier (bitAt (s.reg i Reg.TBL_CFG) 32)).flush || (s.slice i).farFenced || (s.slice i).keyFenced false key
      (closed = true → Effect (.learnRequestProcess (i, 0)) s (fun u => (u.slice i).tbl.learn = rest ∧ ∀ f, (u.slice i).tier f = (s.slice i).tier f)) ∧
      (closed = false → (s.slice i).farReady = false → exec (.learnRequestProcess (i, 0)) s = .next s) ∧
      (∀ n e, closed = false → (s.slice i).farReady = true → (s.slice i).found false false key (fun e => e.lrn == true) = some (n, e) → e.result = res →
        Answers (.learnRequestProcess (i, 0)) s (fun u => (u.slice i).tbl.learn = rest ∧ OthersKept i s u ∧
          (u.slice i).tbl.near.slots = NMap.set none (s.slice i).tbl.near.slots n (some { e with hit := true, old := false, result := res }))) ∧
      (∀ p, closed = false → (s.slice i).farReady = true → (∀ f, (s.slice i).found f false key (fun _ => true) = none) → bitAt (s.reg i Reg.TBL_CFG) 32 = false →
        (let t := (s.slice i).tbl.near
         (([(t.homesAt false t.gen false key).1, (t.homesAt false t.gen false key).2].flatMap (bucketPlaces false)).find? ((s.slice i).usable false false)) = some p) →
        Effect (.learnRequestProcess (i, 0)) s (fun u => (u.slice i).tbl.learn = rest ∧ ∃ e, (u.slice i).tbl.near.at p = some e ∧ e.key = key ∧ e.result = res ∧ e.lrn = true ∧ e.vis = 3))) ∧
    (∀ far, (s.slice i).seq.state = .running →
      ((s.slice i).tbl.sweepAt + s.sweepPeriod i ≤ s.uptime → ((s.slice i).tier false).passing = false → ((s.slice i).tier true).passing = false →
        Answers (.sweepPassStart i) s (fun u => ((u.slice i).tier far).parity = !((s.slice i).tier far).parity ∧ ((u.slice i).tier far).passing = true ∧
          ((u.slice i).tier far).cursor = 0 ∧ (u.slice i).tbl.sweepAt = s.uptime ∧ OthersKept i s u)) ∧
      (∀ n e, ((s.slice i).tier far).passing = true → (s.slice i).tierWorks far = true → (s.slice i).nextSweep far = some (n, e) → (s.slice i).slotFenced far n = true →
        Answers (.sweepEntry i far 0 false) s (fun u => ((u.slice i).tier far).at n = some { e with pass := ((s.slice i).tier far).parity } ∧ ((u.slice i).tier far).cursor = n + 1 ∧
          (((u.slice i).tier far).seg (((s.slice i).tier far).segOf far e)).changed = true)) ∧
      (∀ n e, ((s.slice i).tier far).passing = true → (s.slice i).tierWorks far = true → (s.slice i).nextSweep far = some (n, e) → (s.slice i).slotFenced far n = false →
        e.fenced = false → e.lrn = true →
        (e.hit = true ∨ e.old = false → Answers (.sweepEntry i far 0 false) s (fun u => ((u.slice i).tier far).at n =
          some { e with pass := ((s.slice i).tier far).parity, hit := false, old := if e.hit then false else true } ∧ ((u.slice i).tier far).cursor = n + 1)) ∧
        (e.hit = false → e.old = true → Effect (.sweepEntry i far 0 false) s (fun u => ((u.slice i).tier far).at n = none))) ∧
      (((s.slice i).tier far).passing = true → ((s.slice i).tier far).again = false → (s.slice i).tierWorks far = true → (s.slice i).nextSweep far = none →
        Effect (.sweepPassEnd i far) s (fun u => ((u.slice i).tier far).passing = false))) ∧
    ((s.slice i).seq.state = .running → exec (.eccWriteback i) s = .next (s.modTbl i (fun x => { x with fixes := x.fixes.drop 1 }))) ∧
    ((s.slice i).seq.state ≠ .running → exec (.eccWriteback i) s = .next s) ∧
    (∀ w t, (s.slice i).tbl.waiting = some (w, t) →
      (t + 1500000 ≤ s.uptime → exec (.tableCommandTimeout i) s = .next (s.modTbl i (fun x => { x with waiting := none, cmd := finished .timeout }))) ∧
      (s.uptime < t + 1500000 → exec (.tableCommandTimeout i) s = .next s))

/-- R237 to R241: the rule matcher's commands, over the roles that stand once recorded switches are taken.  WRITE_ROW, COPY and CLEAR_BANK change the staging copy alone and need STAGING, and WRITE_ROW alone
clears a row's FENCED; READ_ROW and READ_CFG read any copy; a bank or signature register is
written in STAGING and discarded and counted outside it; a scrub pass that meets no error changes nothing. -/
def Obligations.RuleMatcher : Prop :=
  ∀ (s : State) (i : Fin 16) (r : Requester) (w : Word), Ready s → s.sliceWriter i r = true →
    let f := (s.slice i).fol.settled
    let n := fld w 30 16
    ((s.slice i).rmx.cmd.busy = false →
      (s.fol.state = .staging →
        (badRow i s = false → Answers (.writeRow i r w) s (fun u => (u.slice i).rmx.cmd = finished .ok ∧ OthersKept i s u ∧
          ((u.slice i).rmx.copy f.roleS).row n = {
            value := s.rmxVal i Reg.RMX_VAL, care := s.rmxVal i Reg.RMX_CARE, result := s.reg i Reg.RMX_RES,
            prio := fld (s.reg i Reg.RMX_CTL) 15 0, valid := bitAt (s.reg i Reg.RMX_CTL) 63 } ∧
          (∀ k, k ≠ n → ((u.slice i).rmx.copy f.roleS).row k = ((s.slice i).rmx.copy f.roleS).row k) ∧
          ∀ c, c ≠ f.roleS → (u.slice i).rmx.copy c = (s.slice i).rmx.copy c)) ∧
        (badRow i s = true → Answers (.writeRow i r w) s (fun u => (u.slice i).rmx = { (s.slice i).rmx with cmd := finished .badArg } ∧ OthersKept i s u)) ∧
        Answers (.rmxCopy i r w) s (fun u => (u.slice i).rmx.cmd = finished .ok ∧ OthersKept i s u ∧
          (∀ k, ((u.slice i).rmx.copy f.roleS).row k = { ((s.slice i).rmx.copy f.roleA).row k with
            fenced := (((s.slice i).rmx.copy f.roleA).row k).fenced || (((s.slice i).rmx.copy f.roleS).row k).fenced }) ∧
          ∀ b, ((u.slice i).rmx.copy f.roleS).bankReg b = ((s.slice i).rmx.copy f.roleA).bankReg b ∧ ((u.slice i).rmx.copy f.roleS).sigReg b = ((s.slice i).rmx.copy f.roleA).sigReg b) ∧
        (n < 16 → Answers (.clearBank i r w) s (fun u => (u.slice i).rmx.cmd = finished .ok ∧ OthersKept i s u ∧
          ∀ k, ((u.slice i).rmx.copy f.roleS).row k = if k / 2048 = n then { fenced := (((s.slice i).rmx.copy f.roleS).row k).fenced } else ((s.slice i).rmx.copy f.roleS).row k))) ∧
      (s.fol.state ≠ .staging → Answers (.rmxCopy i r w) s (fun u => (u.slice i).rmx = { (s.slice i).rmx with cmd := finished .stateRefused } ∧ OthersKept i s u)) ∧
      (fld w 50 49 ≠ 3 →
        Answers (.readRow i r w 0) s (fun u => (u.slice i).rmx.cmd = finished .ok ∧ OthersKept i s u ∧
          u.reg i Reg.RMX_RES = (((s.slice i).rmx.copy (f.role (fld w 50 49))).row n).result ∧
          (bitAt (u.reg i Reg.RMX_CTL) 63 = (((s.slice i).rmx.copy (f.role (fld w 50 49))).row n).valid)) ∧
        (n < 16 → Answers (.readCfg i r w) s (fun u => (u.slice i).rmx.cmd = finished .ok ∧ OthersKept i s u ∧
          u.reg i Reg.RMX_VAL = ((s.slice i).rmx.copy (f.role (fld w 50 49))).bankReg n ∧
          u.reg i (Reg.RMX_VAL + 8) = ((s.slice i).rmx.copy (f.role (fld w 50 49))).sigReg n)))) ∧
    (∀ (b : Fin 16) (h : Half),
      (s.fol.state = .staging →
        Answers (.rmxCfgWrite i r false b h w) s (fun u => ((u.slice i).rmx.copy f.roleS).bankReg b.val = mergeWrite (((s.slice i).rmx.copy f.roleS).bankReg b.val) w h 0x2F3 ∧
          OthersKept i s u) ∧
        Answers (.rmxCfgWrite i r true b h w) s (fun u => ((u.slice i).rmx.copy f.roleS).sigReg b.val = mergeWrite (((s.slice i).rmx.copy f.roleS).sigReg b.val) w h 0xFFFFFFFFFFFFFFFF ∧
          OthersKept i s u)) ∧
      (s.fol.state ≠ .staging → exec (.rmxCfgWrite i r false b h w) s = .next (took r (sliceOff i (Reg.RMX_BANK + 8 * b.val)) h w (s.count i Reg.RMX_COUNT2 31 16)))) ∧
    exec (.rmxScrubPass i [] false) s = .next s

/-- R244, R245, R250 to R257, R262, R264: the buffer manager's commands.  ALLOC takes the next buffer of the smallest pool that fits, whose cells are all allocated to the owner, and answers NOT_FOUND, counted, on an empty one;
FREE gives a buffer and all its cells back after its checks; QUERY shows the cell of a valid pointer; POOL_FORMAT stays busy until its lists are rebuilt; a bank drains, sleeps and wakes; a broken list is rebuilt from what is free. -/
def Obligations.BufferManager : Prop :=
  ∀ (s : State) (i : Fin 16) (r : Requester) (w : Word), Ready s →
    let b := (s.slice i).bpm
    let arg := s.reg i Reg.BPM_ARG
    let bytes := fld arg 61 48
    let p := if bytes ≤ 512 then 0 else if bytes ≤ 2048 then 1 else 2
    (s.sliceWriter i r = true → b.cmd.busy = false →
      (1 ≤ bytes → bytes ≤ 9728 → legalOwner (fld arg 41 32) = true → (b.pool p).broken = false →
        (∀ k l, (b.pool p).pop = some (k, l) → b.badPoolPop p k = false → Answers (.alloc i r w) s (fun u => (u.slice i).bpm.cmd = finished .ok ∧ OthersKept i s u ∧ (u.slice i).bpm.pool p = l ∧
          fld (u.slice i).bpm.result 23 0 = b.bufferPtr p k % 2 ^ 24 ∧ ∀ j, j < poolCells p →
            ((u.slice i).bpm.cell (b.bufferPtr p k / 128 + j)).allocated = true ∧ ((u.slice i).bpm.cell (b.bufferPtr p k / 128 + j)).owner = fld arg 41 32)) ∧
        ((b.pool p).pop = none → Answers (.alloc i r w) s (fun u => (u.slice i).bpm = { b with cmd := finished .notFound } ∧ OthersKept i s u ∧
          u.reg i Reg.BPM_COUNT1 = satAdd (s.reg i Reg.BPM_COUNT1) 31 16 1))) ∧
      (0xE00000 ≤ fld arg 23 0 → legalOwner (fld arg 41 32) = true → b.freeCheck (fld arg 23 0) (fld arg 41 32) = 0 →
        ∀ q k, b.poolOf (fld arg 23 0) = some (q, k) → b.bufferBad q k = false →
        Answers (.free i r w) s (fun u => (u.slice i).bpm.cmd = finished .ok ∧ OthersKept i s u ∧ (u.slice i).bpm.pool q = (b.pool q).push k ∧
          ∀ j, j < poolCells q → ((u.slice i).bpm.cell (fld arg 23 0 / 128 + j)).allocated = false)) ∧
      (b.validPtr (fld arg 23 0) = true → Answers (.query i r w) s (fun u => (u.slice i).bpm.cmd = finished .ok ∧ OthersKept i s u ∧
        bitAt (u.slice i).bpm.result 63 = (b.cell (fld arg 23 0 / 128)).allocated ∧ (u.slice i).bpm.cells = b.cells)) ∧
      (let c := s.reg i Reg.BPM_POOL_CFG
       (fld c 47 32 ≤ 4096 ∧ fld c 31 16 ≤ 1024 ∧ fld c 15 0 ≤ 215 ∧ 4 * fld c 47 32 + 16 * fld c 31 16 + 76 * fld c 15 0 ≤ 16384) →
       (∀ e ∈ b.cells, generalCells ≤ e.1 → e.2.allocated = false) →
       Answers (.poolFormat i r w) s (fun u => (u.slice i).bpm.cmd = running ∧ OthersKept i s u ∧ (u.slice i).bpm.n0 = fld c 47 32 ∧ (u.slice i).bpm.n1 = fld c 31 16 ∧
        (u.slice i).bpm.n2 = fld c 15 0 ∧ ((∀ e ∈ b.cells, e.2.quarantined = false) → (u.slice i).bpm.pools = []))) ∧
      (fld w 19 16 < 14 → b.bank (fld w 19 16) = .active →
        (2 ≤ b.activeBanks → Answers (.bankRetain i r w) s (fun u => (u.slice i).bpm.cmd = finished .ok ∧ (u.slice i).bpm.bank (fld w 19 16) = .draining ∧ OthersKept i s u)) ∧
        (b.activeBanks ≤ 1 → Answers (.bankRetain i r w) s (fun u => (u.slice i).bpm = { b with cmd := finished .stateRefused } ∧ OthersKept i s u))) ∧
      (b.bank (fld w 19 16) = .draining → Answers (.bankWake i r w) s (fun u => (u.slice i).bpm.cmd = finished .ok ∧ (u.slice i).bpm.bank (fld w 19 16) = .active ∧ OthersKept i s u)) ∧
      (b.bank (fld w 19 16) = .retention → Answers (.bankWake i r w) s (fun u => (u.slice i).bpm.cmd = running ∧ (u.slice i).bpm.bank (fld w 19 16) = .waking ∧
        (u.slice i).bpm.waking = some (fld w 19 16) ∧ OthersKept i s u))) ∧
    (∀ k : Fin 16, b.bank k.val = .draining → b.bankEmpty k.val = true → Answers (.bankDrained i k) s (fun u => (u.slice i).bpm.bank k.val = .retention ∧ OthersKept i s u)) ∧
    (∀ k, b.waking = some k → Answers (.bankWakeDone i) s (fun u => (u.slice i).bpm.bank k = .active ∧ (u.slice i).bpm.waking = none ∧ (u.slice i).bpm.cmd = finished .ok ∧
      ((∀ e ∈ b.cells, e.2.quarantined = false) → (u.slice i).bpm.list k = bankListFull k) ∧ OthersKept i s u)) ∧
    (b.cmd.busy = true → b.waking = none → Answers (.poolFormatDone i) s (fun u => (u.slice i).bpm = { b with cmd := finished .ok } ∧ OthersKept i s u)) ∧
    (∀ k : Fin 17, k.val < 14 → (b.list k.val).broken = true → Answers (.freelistRebuild i k) s (fun u => ((u.slice i).bpm.list k.val).broken = false ∧ OthersKept i s u ∧
      ((u.slice i).bpm.list k.val).next = 0 ∧ ∀ c, c ∈ ((u.slice i).bpm.list k.val).stack ↔ c / bankCells = k.val ∧ (b.cell c).allocated = false ∧ (b.cell c).quarantined = false)) ∧
    (∀ p : Fin 3, (b.pool p.val).broken = true → Answers (.freelistRebuild i (Fin.ofNat 17 (14 + p.val))) s (fun u => ((u.slice i).bpm.pool p.val).broken = false ∧ OthersKept i s u ∧
      ((u.slice i).bpm.pool p.val).next = 0 ∧ ∀ n, n ∈ ((u.slice i).bpm.pool p.val).stack ↔
        n < b.poolCount p.val ∧ (b.cell (b.bufferPtr p.val n / 128)).allocated = false ∧ b.bufferBad p.val n = false))

-- Scheduler, multicast, Ligature, Equinox ---------------------------------------------------------------------------------

/-- R280 to R285: the scheduler's commands, over the roles that stand once recorded switches are taken; an OBJ or COPY_SEL that names none is BAD_ARG.  READ shows an entry of a copy; WRITE changes the staging copy alone and needs STAGING, or the PENDING gate list; COPY makes staging equal to active; a gate list
switch is scheduled for a time at least 10 µs ahead, or with the pending commit but not with a rollback, cancelled, and made when slice time reaches it: ACTIVE and PENDING exchange roles. -/
def Obligations.SchedulerCommands : Prop :=
  ∀ (s : State) (i : Fin 16) (r : Requester) (w : Word), Ready s → s.sliceWriter i r = true → (s.sch i).cmd.busy = false →
    let c := s.sch i
    let f := (s.slice i).fol.settled
    let obj := fld w 11 8
    let n := fld w 31 16
    let sel := fld w 50 49
    (obj < 4 → n < schCount obj → sel ≠ 3 → Answers (.schRead i r w) s (fun u => (u.sch i).cmd = finished .ok ∧ OthersKept i s u ∧
      u.reg i Reg.SCH_DATA = (c.entry (if sel = 0 then f.roleA else if sel = 1 then f.roleP else f.roleS) obj n).w0 ∧ (u.sch i).entries = c.entries)) ∧
    (obj < 4 → n < schCount obj → sel = 2 → s.fol.state = .staging → badSchData obj (s.schData i) = false →
      Answers (.schWrite i r w) s (fun u => (u.sch i).cmd = finished .ok ∧ OthersKept i s u ∧ ((u.sch i).entry f.roleS obj n).w0 = s.reg i Reg.SCH_DATA ∧
        (obj ≠ 0 → ((u.sch i).entry f.roleS obj n).w1 = s.reg i (Reg.SCH_DATA + 8)) ∧
        ∀ b o m, b < 3 → o < 4 → m < schCount o → (b, o, m) ≠ (f.roleS, obj, n) → f.roleS < 3 → (u.sch i).entry b o m = c.entry b o m)) ∧
    (obj < 4 → n < schCount obj → sel = 2 → s.fol.state ≠ .staging → badSchData obj (s.schData i) = false →
      Answers (.schWrite i r w) s (fun u => (u.sch i) = { c with cmd := finished .stateRefused, refused := min (c.refused + 1) 65535 } ∧ OthersKept i s u)) ∧
    (obj = 4 → n < 64 → sel = 2 → (c.port n).gswitch = .none → badSchData 4 (s.schData i) = false →
      Answers (.schWrite i r w) s (fun u => (u.sch i).cmd = finished .ok ∧ OthersKept i s u ∧
        (u.sch i).gateCfg n (1 - (c.port n).gact) = { w0 := s.schData i 0, w1 := s.schData i 1, w2 := s.schData i 2 } ∧
        ((c.port n).gact ≤ 1 → (u.sch i).gateCfg n (c.port n).gact = c.gateCfg n (c.port n).gact))) ∧
    (badSchSel w = true → ∀ cmd ∈ [Instr.schRead i r w, .schWrite i r w, .schCopy i r w, .gclSwitch i r w, .gclCancel i r w],
      Answers cmd s (fun u => (u.sch i) = { c with cmd := finished .badArg } ∧ OthersKept i s u)) ∧
    (badSchSel w = false → s.fol.state = .staging → Answers (.schCopy i r w) s (fun u => (u.sch i).cmd = finished .ok ∧ OthersKept i s u ∧ (u.sch i).ports = c.ports)) ∧
    (badSchSel w = false → s.fol.state ≠ .staging → Answers (.schCopy i r w) s (fun u => (u.sch i) = { c with cmd := finished .stateRefused, refused := min (c.refused + 1) 65535 } ∧ OthersKept i s u)) ∧
    (badSchSel w = false → n < 64 → c.gateTooShort n (1 - (c.port n).gact) = false →
      (let time := stampOfPair (s.schData i 0) (s.schData i 1)
       bitAt (s.schData i 2) 0 = false → time.malformed = false → s.sliceT i + 160000 ≤ time.t16 → (c.port n).gswitch = .none →
       Answers (.gclSwitch i r w) s (fun u => (u.sch i).cmd = finished .ok ∧ OthersKept i s u ∧ ((u.sch i).port n).gswitch = .at time.t16)) ∧
      (bitAt (s.schData i 2) 0 = true → s.fol.state = .pending → s.fol.rollback = false → (c.port n).gswitch = .none →
       Answers (.gclSwitch i r w) s (fun u => (u.sch i).cmd = finished .ok ∧ OthersKept i s u ∧ ((u.sch i).port n).gswitch = .folio s.fol.staged)) ∧
      (bitAt (s.schData i 2) 0 = true → (s.fol.state ≠ .pending ∨ s.fol.rollback = true) →
       Answers (.gclSwitch i r w) s (fun u => (u.sch i) = { c with cmd := finished .stateRefused, refused := min (c.refused + 1) 65535 } ∧ OthersKept i s u))) ∧
    (badSchSel w = false → n < 64 → (c.port n).gswitch ≠ .none → Answers (.gclCancel i r w) s (fun u => (u.sch i).cmd = finished .ok ∧ OthersKept i s u ∧ ((u.sch i).port n).gswitch = .none)) ∧
    (badSchSel w = false → n < 64 → (c.port n).gswitch = .none → Answers (.gclCancel i r w) s (fun u => (u.sch i) = { c with cmd := finished .stateRefused, refused := min (c.refused + 1) 65535 } ∧ OthersKept i s u)) ∧
    (∀ k t, (c.port k).gswitch = .at t → (c.port k).gact ≤ 1 →
      (t ≤ s.sliceT i → Answers (.gclSwitchTime i) s (fun u => ((u.sch i).port k).gact = 1 - (c.port k).gact ∧ ((u.sch i).port k).gswitch = .none ∧ (u.sch i).gcfg = c.gcfg ∧ OthersKept i s u)) ∧
      (s.sliceT i < t → Answers (.gclSwitchTime i) s (fun u => (u.sch i).port k = c.port k)))

/-- R4, R300, R301, R310, R311, R500: the multicast, merge port, Equinox and seed commands, each answered with PERMISSION to a requester that may not send it.  MCL and EQX entries are read and written through their data registers, a reserved bit or an OFFSET out of range being BAD_ARG; a merge
port's horizon outside 100 to 10,000 or one lowered while its queue holds entries is discarded and counted; a seed is scheduled at least 1 ms ahead, cancelled, and takes force in every slice at its time with CUR_EPOCH one higher; each seed
before it is kept 10 µs longer, and as long as a packet captured under it has not committed, and gives the ranks of such packets. -/
def Obligations.LigatureAndEquinox : Prop :=
  ∀ (s : State) (i : Fin 16) (r : Requester) (w : Word), Ready s →
    (s.sliceWriter i r = true →
      ((s.slice i).eg.mclCmd.busy = false →
        Answers (.mclRead i r w) s (fun u => (u.slice i).eg.mclCmd = finished .ok ∧ u.reg i Reg.MCL_DATA0 = (s.mclEntry i (fld w 27 16)).1 ∧
          u.reg i Reg.MCL_DATA1 = (s.mclEntry i (fld w 27 16)).2 ∧ (u.slice i).eg.mcl = (s.slice i).eg.mcl ∧ OthersKept i s u) ∧
        (fld (s.reg i Reg.MCL_DATA0) 62 16 = 0 → Answers (.mclWrite i r w) s (fun u => (u.slice i).eg.mclCmd = finished .ok ∧
          u.mclEntry i (fld w 27 16) = (s.reg i Reg.MCL_DATA0, s.reg i Reg.MCL_DATA1) ∧ OthersKept i s u ∧ ∀ l, l ≠ fld w 27 16 → u.mclEntry i l = s.mclEntry i l)) ∧
        (fld (s.reg i Reg.MCL_DATA0) 62 16 ≠ 0 → Answers (.mclWrite i r w) s (fun u => (u.slice i).eg = { (s.slice i).eg with mclCmd := finished .badArg } ∧ OthersKept i s u))) ∧
      ((s.slice i).eg.eqxCmd.busy = false →
        let g := fld w 25 16
        let d := s.reg i Reg.EQX_DATA0
        Answers (.eqxRead i r w) s (fun u => (u.slice i).eg.eqxCmd = finished .ok ∧ u.reg i Reg.EQX_DATA0 = (s.eqxGroup i g).w0 ∧ u.reg i Reg.EQX_DATA1 = (s.eqxGroup i g).w1 ∧
          (u.slice i).eg.eqx = (s.slice i).eg.eqx ∧ OthersKept i s u) ∧
        (300 ≤ fld d 15 0 → fld d 15 0 ≤ 50000 → fld d 31 30 = 0 → fld d 62 51 = 0 → Answers (.eqxWrite i r w) s (fun u => (u.slice i).eg.eqxCmd = finished .ok ∧
          u.eqxGroup i g = { s.eqxGroup i g with w0 := d, w1 := s.reg i Reg.EQX_DATA1 } ∧ OthersKept i s u ∧ ∀ k, k ≠ g → u.eqxGroup i k = s.eqxGroup i k)) ∧
        (fld d 15 0 < 300 ∨ 50000 < fld d 15 0 ∨ fld d 31 30 ≠ 0 ∨ fld d 62 51 ≠ 0 → Answers (.eqxWrite i r w) s (fun u => (u.slice i).eg = { (s.slice i).eg with eqxCmd := finished .badArg } ∧ OthersKept i s u))) ∧
      (∀ (l : Fin 64) (h : Half), let old := s.reg i (Reg.LIG_CFG + 8 * l.val)
        let new := mergeWrite old w h 0xFFFFFFFFFFFFFFFF
        let o := sliceOff i (Reg.LIG_CFG + 8 * l.val)
        (100 ≤ fld new 13 0 → fld new 13 0 ≤ 10000 → fld new 47 14 = 0 → fld new 58 56 = 0 → ((s.sch i).port l.val).merge = [] →
          exec (.ligCfgWrite i r l h w) s = .next (took r o h w (s.setReg i (Reg.LIG_CFG + 8 * l.val) new))) ∧
        ((((s.sch i).port l.val).merge ≠ [] ∧ fld new 13 0 < fld old 13 0) ∨ fld new 13 0 < 100 ∨ 10000 < fld new 13 0 →
          exec (.ligCfgWrite i r l h w) s = .next (took r o h w (s.count i Reg.LIG_REFUSED 63 0))))) ∧
    (s.sliceWriter i r = false →
      ((s.slice i).eg.mclCmd.busy = false → ∀ c ∈ [Instr.mclRead i r w, .mclWrite i r w], Answers c s (fun u =>
        (u.slice i).eg = { (s.slice i).eg with mclCmd := finished .permission } ∧ OthersKept i s u)) ∧
      ((s.slice i).eg.eqxCmd.busy = false → ∀ c ∈ [Instr.eqxRead i r w, .eqxWrite i r w], Answers c s (fun u =>
        (u.slice i).eg = { (s.slice i).eg with eqxCmd := finished .permission } ∧ OthersKept i s u))) ∧
    (s.globalWriter r = false → s.lig.cmd.busy = false → ∀ c ∈ [Instr.schedule r w, .cancel r w], Answers c s (fun u =>
      u.lig = { s.lig with cmd := finished .permission } ∧ u.slices = s.slices)) ∧
    (s.globalWriter r = true → s.lig.cmd.busy = false →
      (s.ligTime.malformed = false → s.centralT + 16000000 ≤ s.ligTime.t16 → s.lig.pending = none →
        exec (.schedule r w) s = .next (took r (globalOff Reg.LIG_SEED_CMD) .both (withOp w 1) { s with lig := { s.lig with cmd := finished .ok, pending := some (s.lig.next, s.ligTime.t16) } })) ∧
      (s.lig.pending.isSome = true → exec (.cancel r w) s = .next (took r (globalOff Reg.LIG_SEED_CMD) .both (withOp w 2) { s with lig := { s.lig with cmd := finished .ok, pending := none } })) ∧
      (s.lig.pending = none → Answers (.cancel r w) s (fun u => u.lig = { s.lig with cmd := finished .stateRefused } ∧ u.slices = s.slices))) ∧
    (∀ v t, s.lig.pending = some (v, t) →
      (t ≤ s.centralT → Answers .seedSwitch s (fun u => u.lig = { s.lig with pending := none, epoch := (s.lig.epoch + 1) % 65536 } ∧
        ∀ j, (u.slice j).eg = { (s.slice j).eg with seed := v, prevSeed := ((s.slice j).eg.seed, t) :: (s.slice j).eg.prevSeed })) ∧
      (s.centralT < t → exec .seedSwitch s = .next s)) ∧
    (∃ l, exec (.seedErase i) s = .next (s.modSlice i (fun x => { x with eg := { x.eg with prevSeed := l } })) ∧
      ∀ v t, (v, t) ∈ l ↔ (v, t) ∈ (s.slice i).eg.prevSeed ∧
        ¬ (t + 160000 ≤ s.sliceT i ∧ ∀ e ∈ (s.slice i).packets, e.2.committed.isSome = true ∨ t ≤ e.2.capture.t16)) ∧
    (∀ ts : Nat, ((∀ v t, s.lig.pending = some (v, t) → ts < t) →
        ((∀ p ∈ (s.slice i).eg.prevSeed, p.2 ≤ ts) → s.seedAt i ts = (s.slice i).eg.seed) ∧
        (∀ v t rest, (s.slice i).eg.prevSeed = (v, t) :: rest → ts < t → (∀ p ∈ rest, p.2 ≤ ts) → s.seedAt i ts = v)) ∧
      (∀ v t, s.lig.pending = some (v, t) → t ≤ ts → s.seedAt i ts = v))

-- Copybook, Folio, DDR5 and replay ----------------------------------------------------------------------------------------

/-- R135, R315, R322, R325 to R327, R331, R332: Copybook.  A report leaves its queue and joins its waiting record; a record whose REPORT_WAIT has passed is written, with an OUTCOME record when a report is missing; a closed block joins the ring
once the sequencer completes its close and counts as taken when its DMA does, for which it waits while the buffer is smaller than a full block; SCRIBE_RELEASE, the Scribe's alone, takes blocks up to CPB_ARG; a seal tick closes every open block and signs or skips, and the signed seal takes the next number. -/
def Obligations.Copybook : Prop :=
  ∀ (s : State) (i : Fin 16), Ready s →
    (∀ pkt late unc out rest, (s.cpb i).reports = (pkt, late, unc, out) :: rest →
      Effect (.mergeReportArrival i) s (fun u => (u.cpb i).reports = rest) ∧
      (∀ r, (s.slice i).pwr ≠ .retention → (s.cpb i).waiting = [r] → r.pkt = pkt → 0 < r.missing → r.fcs = none → (s.cpb i).ready = [] →
        Effect (.mergeReportArrival i) s (fun u => ∃ x, (u.cpb i).waiting = [x] ∧ x.pkt = pkt ∧ x.missing = r.missing - 1 ∧ x.fcs = none ∧
          x.late = (r.late || late) ∧ x.uncertain = (r.uncertain || unc) ∧ x.dropped = (r.dropped || decide (out = 1)) ∧ x.punted = (r.punted || decide (out = 2))))) ∧
    (∀ r, (s.cpb i).waiting = [r] → r.gap = none → (s.cpb i).ready = [] →
      (r.commitAt + fld (s.reg i Reg.CPB_CFG) 63 48 * 1500 ≤ s.uptime → s.canWrite i = true → Effect (.reportWaitExpiry i) s (fun u => (u.cpb i).waiting = [] ∧
        (r.missing = 0 → r.dropped = false → r.fcs = some true → (u.cpb i).nextSeq = ((s.cpb i).nextSeq + 1) % 2 ^ 32) ∧
        (r.missing ≠ 0 → (∀ b, (s.cpb i).opened = some b → b.records.length < 4095) → (u.cpb i).nextSeq = ((s.cpb i).nextSeq + 2) % 2 ^ 32))) ∧
      (s.uptime < r.commitAt + fld (s.reg i Reg.CPB_CFG) 63 48 * 1500 → exec (.reportWaitExpiry i) s = .next s)) ∧
    (s.sealDue = true → Effect .sealTick s (fun u => (∀ j, (u.cpb j).opened = none) ∧
      (s.keyPresent = true → s.signer.ready = true → s.signer.signing = none → u.signer.signing.isSome = true) ∧
      (s.keyPresent = false → u.signer.signing = s.signer.signing ∧
        fld (u.greg Reg.CPB_SEAL_COUNT) 31 16 = min (fld (s.greg Reg.CPB_SEAL_COUNT) 31 16 + 1) 65535))) ∧
    (s.sealDue = false → exec .sealTick s = .next s) ∧
    (∀ body, s.signer.signing = some body → Effect .sealSigned s (fun u => u.signer.signing = none ∧ u.signer.number = s.signer.number + 1 ∧ u.signer.resumed = false ∧
      ∃ x, u.signer.buffer.head? = some x ∧ x.number = s.signer.number ∧ x.bytes.take body.length = body ∧ u.signer.prev = sha384 x.bytes)) ∧
    (∀ b rest, (s.cpb i).closing = b :: rest → (s.slice i).farReady = true → (s.slice i).seq.state = .running → s.drainHost i = true → (s.cpb i).hostNext ≤ b.number →
      (s.cpb i).waiting = [] → (s.cpb i).ready = [] → Effect (.blockCloseDone i) s (fun u => (u.cpb i).closing = rest ∧ b ∈ (u.cpb i).blocks)) ∧
    ((s.slice i).seq.state ≠ .running → exec (.blockCloseDone i) s = .next s) ∧
    (∀ b d, let r := fld (s.reg i Reg.CPB_CFG) 47 40
      (s.cpb i).blocks.find? (fun b => decide ((s.cpb i).hostNext ≤ b.number)) = some b → (s.ring i r).desc = some d → s.drainHost i = true → (s.slice i).farReady = true →
      (s.ring i r).state = .running → (s.ring i r).items = [] → s.ringIsTx i r = false → s.pfUsable (s.ringPf i r) = true → b.size ≤ descLen d →
      ∀ fixed, (132096 ≤ descLen d → Effect (.blockDrainDma i (fixed, [])) s (fun u => (u.cpb i).hostNext = b.number + 1)) ∧
        (descLen d < 132096 → exec (.blockDrainDma i (fixed, [])) s = .next s)) ∧
    (∀ (r : Requester) (w : Word), (s.cpb i).cmd.busy = false →
      (r = .scribe → s.drainScribe i = true → (s.cpb i).closed (s.reg i Reg.CPB_ARG).toNat = true → (s.cpb i).scribeNext ≤ (s.reg i Reg.CPB_ARG).toNat →
        Effect (.scribeRelease i r w) s (fun u => (u.cpb i).cmd = finished .ok ∧ (u.cpb i).scribeNext = (s.reg i Reg.CPB_ARG).toNat + 1)) ∧
      (r ≠ .scribe → exec (.scribeRelease i r w) s = .next (s.modCpb i (fun c => { c with cmd := finished .permission })))) ∧
    (∀ (r : Requester) (h : Half) (w : Word), s.sliceWriter i r = true →
      let new := mergeWrite (s.reg i Reg.CPB_CFG) w h 0xFFFFFF0300000001
      (20 ≤ fld new 63 48 → fld new 63 48 ≤ 1000 → fld new 33 32 ≠ 0 → Effect (.cpbCfgWrite i r h w) s (fun u => u.reg i Reg.CPB_CFG = new)) ∧
      (fld new 63 48 < 20 ∨ 1000 < fld new 63 48 ∨ fld new 33 32 = 0 →
        exec (.cpbCfgWrite i r h w) s = .next (took r (sliceOff i Reg.CPB_CFG) h w (s.count i Reg.CPB_COUNT1 15 0)))) ∧
    (∀ (r : Requester) (h : Half) (w : Word), s.globalWriter r = true →
      let new := mergeWrite (s.greg Reg.CPB_SEAL_CFG) w h 0x800FFF00000FFFFF
      (100 ≤ fld new 19 0 → fld new 19 0 ≤ 1000000 → exec (.cpbSealCfgWrite r h w) s = .next (took r (globalOff Reg.CPB_SEAL_CFG) h w (s.setGreg Reg.CPB_SEAL_CFG new))) ∧
      (fld new 19 0 < 100 ∨ 1000000 < fld new 19 0 → exec (.cpbSealCfgWrite r h w) s = .next (took r (globalOff Reg.CPB_SEAL_CFG) h w s)))

/-- R337 to R347, R349, R352: Folio.  STAGE_OPEN allocates the next epoch that is not active and removes the fragment decisions of others; the opening ends once every sequencer runs and no thread of another epoch does, with the Near entries of the other visibility
retired (those of Far once its channel is READY), and every slice's staging copies made equal to the active ones when COPY asks for it; COMMIT and ROLLBACK schedule a switch at T; slices whose sequencer runs arm, and one that has not 20 µs before T ends it; at T a slice takes its new epoch, bank and roles, or records the switch in RETENTION and on its way out; the last slice to drain ends DRAINING; ABORT closes staging or
cancels, and with a commit the gate list switches tied to it alone.  A command in another state is refused and changes nothing. -/
def Obligations.FolioSwitches : Prop :=
  ∀ s : State, Ready s →
    (∀ (r : Requester) (w : Word), s.globalWriter r = true → s.fol.cmd.busy = false →
      (s.fol.state = .idle → Answers (.stageOpen r w) s (fun u => u.fol.state = .opening ∧ u.fol.cmd = finished .ok ∧ u.fol.stagedValid = true ∧ u.fol.prevValid = false ∧
        u.fol.copy = bitAt w 8 ∧ u.fol.active = s.fol.active ∧
        (∀ i, u.slice i = { s.slice i with frg := { (s.slice i).frg with entries := ((u.slice i).frg).entries } } ∧ ∀ k e, (s.frg i).entry k = some e →
          ((∀ b pc arg ep, e.state = .decided b pc arg ep → ep = s.fol.active) → (u.frg i).entry k = some e) ∧
          (∀ b pc arg ep, e.state = .decided b pc arg ep → ep ≠ s.fol.active → (u.frg i).entry k = none)) ∧
        u.fol.staged = (if (s.fol.staged + 1) % 65536 = s.fol.active then ((s.fol.staged + 1) % 65536 + 1) % 65536 else (s.fol.staged + 1) % 65536))) ∧
      (s.badFolTime = false → s.fol.state = .staging → s.seedsBusy = false → Answers (.commit r w) s (fun u => u.fol.state = .pending ∧ u.fol.cmd = finished .ok ∧
        u.fol.rollback = false ∧ u.fol.time = s.folStamp.t16 ∧ u.fol.active = s.fol.active ∧ ∀ i, (u.slice i).fol.armed = false ∧ (u.slice i).fol.armedEp = s.fol.staged)) ∧
      (s.badFolTime = false → s.fol.state = .idle → s.fol.prevValid = true → Answers (.rollback r w) s (fun u => u.fol.state = .pending ∧ u.fol.cmd = finished .ok ∧
        u.fol.rollback = true ∧ u.fol.time = s.folStamp.t16 ∧ ∀ i, (u.slice i).fol.armed = false ∧ (u.slice i).fol.armedEp = s.fol.previous)) ∧
      (s.fol.state = .staging → Answers (.abort r w) s (fun u => u.fol = { s.fol with state := .idle, stagedValid := false, cmd := finished .ok } ∧ u.slices = s.slices)) ∧
      (s.fol.state = .pending → s.centralT + 320000 < s.fol.time → Answers (.abort r w) s (fun u => u.fol.state = (if s.fol.rollback then .idle else .staging) ∧
        u.fol.cmd = finished .ok ∧ u.fol.active = s.fol.active ∧ ∀ i, (u.slice i).fol.armed = false ∧ ∀ k,
          ((s.fol.rollback = false ∧ ((s.sch i).port k).gswitch = .folio s.fol.staged → ((u.sch i).port k).gswitch = .none) ∧
           (s.fol.rollback = true ∨ ((s.sch i).port k).gswitch ≠ .folio s.fol.staged → (u.sch i).port k = (s.sch i).port k)))) ∧
      ((s.fol.state ≠ .idle → Answers (.stageOpen r w) s (fun u => u.fol = { s.fol with cmd := finished .stateRefused } ∧ u.slices = s.slices)) ∧
       (s.badFolTime = true → Answers (.commit r w) s (fun u => u.fol = { s.fol with cmd := finished .badArg } ∧ u.slices = s.slices)))) ∧
    (s.fol.state = .opening → (∀ i : Fin 16, (s.slice i).seq.state = .running ∧ ∀ t ∈ (s.slice i).threads, t.2.epoch = s.fol.active) → Answers .stagingReady s (fun u => u.fol = { s.fol with state := .staging } ∧
      ∀ i, (u.slice i).tbl.newEpoch = s.fol.staged ∧ (u.slice i).tbl.newValid = true ∧ (u.slice i).fol = (s.slice i).fol ∧
        (let gone := if s.fol.active = (s.slice i).tbl.newEpoch then 1 else 2
         (∀ n, (u.slice i).tbl.near.at n = ((s.slice i).tbl.near.at n).bind (fun e => if e.fenced then some e else if e.vis = gone then none else some { e with vis := 3 })) ∧
         ((s.slice i).farReady = false → (u.slice i).tbl.far = (s.slice i).tbl.far ∧ (u.slice i).tbl.farDue = (s.slice i).tbl.farDue ++ [gone])) ∧
        (s.fol.copy = true → let f := (s.slice i).fol.settled
          let a := (s.slice i).rmx.copy f.roleA
          let b := (s.slice i).rmx.copy f.roleS
          ∀ k, ((u.slice i).rmx.copy f.roleS).row k = { a.row k with fenced := (a.row k).fenced || (b.row k).fenced } ∧
            ((u.slice i).rmx.copy f.roleS).bankReg k = a.bankReg k ∧ ((u.slice i).rmx.copy f.roleS).sigReg k = a.sigReg k))) ∧
    (s.fol.state ≠ .opening ∨ (∃ i : Fin 16, (s.slice i).seq.state ≠ .running) → exec .stagingReady s = .next s) ∧
    (∀ i : Fin 16,
      (s.fol.state = .pending → (s.slice i).seq.state = .running → exec (.sliceArmed i) s = .next (s.modSlice i (fun x => { x with fol := { x.fol with armed := true } }))) ∧
      (s.fol.state ≠ .pending ∨ (s.slice i).seq.state ≠ .running → exec (.sliceArmed i) s = .next s) ∧
      (s.fol.state = .pending → s.fol.time ≤ s.centralT + 320000 → (s.slice i).fol.armed = false → Effect .armDeadline s (fun u =>
        u.fol.state = (if s.fol.rollback then .idle else .staging) ∧ u.fol.armFailed = true ∧ u.fol.armFail.testBit i.val = true ∧ u.fol.active = s.fol.active)) ∧
      (s.fol.state = .pending → (∀ j, (s.slice j).fol.armed = true) → exec .armDeadline s = .next s) ∧
      (s.fol.state = .pending → (∀ j, (s.slice j).fol.armed = true) → (s.slice i).fol.switched = false → s.fol.time ≤ s.sliceT i →
        ((s.slice i).pwr = .retention ∨ (s.slice i).pwr = .leaving → Effect (.folioSwitch i) s (fun u => u.fol.state = .draining ∧ (u.slice i).fol =
          { (s.slice i).fol with recorded := (s.slice i).fol.recorded ++ [if s.fol.rollback then none else some s.fol.staged], armed := false, switched := true, drained := false })) ∧
        ((s.slice i).pwr ≠ .retention → (s.slice i).pwr ≠ .leaving →
        let f := (s.slice i).fol
        Effect (.folioSwitch i) s (fun u => u.fol.state = .draining ∧ (u.slice i).fol.switched = true ∧ (u.slice i).fol.previous = f.active ∧ (u.slice i).fol.bank = 1 - f.bank ∧
          (s.fol.rollback = false → (u.slice i).fol.active = s.fol.staged ∧ (u.slice i).fol.roleA = f.roleS ∧ (u.slice i).fol.roleP = f.roleA ∧ (u.slice i).fol.roleS = f.roleP) ∧
          (s.fol.rollback = true → (u.slice i).fol.active = f.previous ∧ (u.slice i).fol.roleA = f.roleP ∧ (u.slice i).fol.roleP = f.roleA ∧ (u.slice i).fol.roleS = f.roleS)))) ∧
      (s.sliceT i < s.fol.time → exec (.folioSwitch i) s = .next s) ∧
      (s.fol.state = .draining → (s.slice i).fol.switched = true → (s.slice i).fol.drained = false → s.fol.time + 16000 ≤ s.sliceT i →
        (s.slice i).drainedOf (s.slice i).fol.previous = true → Answers (.sliceDrained i) s (fun u => (u.slice i).fol.drained = true ∧
          ((∀ j, j ≠ i → (s.slice j).fol.switched = true ∧ (s.slice j).fol.drained = true) → u.fol.state = .idle ∧ u.fol.prevValid = true) ∧
          (∀ j, j ≠ i → (s.slice j).fol.drained = false → u.fol = s.fol))) ∧
      (s.atMarker = true → s.fol.state ≠ .draining → Effect .coherenceCheck s (fun u =>
        u.fol.monEpoch.testBit i.val = (decide ((s.slice i).fol.active ≠ s.fol.active) && decide ((s.slice i).fol.recorded = []))))) ∧
    (s.atMarker = false → exec .coherenceCheck s = .next s) ∧
    (∀ (r : Requester) (h : Half) (w : Word), s.globalWriter r = true →
      (s.fol.state ≠ .pending → exec (.folTimeWrite r false h w) s = .next (took r (globalOff Reg.FOL_TIME0) h w (s.setGreg Reg.FOL_TIME0 (mergeWrite (s.greg Reg.FOL_TIME0) w h 0xFFFFFFFFFFFFFFFF))) ∧
        exec (.folTimeWrite r true h w) s = .next (took r (globalOff Reg.FOL_TIME1) h w (s.setGreg Reg.FOL_TIME1 (mergeWrite (s.greg Reg.FOL_TIME1) w h 0xFFFFFFFF)))) ∧
      (s.fol.state = .pending → exec (.folTimeWrite r false h w) s = .next (took r (globalOff Reg.FOL_TIME0) h w (s.gcount Reg.FOL_COUNT 15 0))))

/-- R353: a write of a register of Table 13.7 takes effect when the slice's owner or the Scribe makes it in STAGING; any other is discarded and counted in
FOL_COUNT.REFUSED.  FOL_SEED_CTL, FOL_SEED_NEAR0, NEAR1, FAR0 and FAR1, written by register write or as FOL_SLICE_REG_WRITE names them, take their writable bits;
FOL_SLICE_STATUS and FOL_SPLIT_COUNT have none. -/
def Obligations.FolioSliceRegisters : Prop :=
  ∀ (s : State) (i : Fin 16) (r : Requester) (k : Fin 5) (h : Half) (w : Word), Ready s →
    let may := s.sliceWriter i r = true ∧ s.fol.state = .staging
    let refused := s.gcount Reg.FOL_COUNT 15 0
    let o := Reg.FOL_SEED_CTL + 8 * k.val
    let noted := fun (o : Nat) (h : Half) (v : Word) (t : State) => if s.sliceWriter i r then took r (sliceOff i o) h v t else t
    let writes := fun (h : Half) (v : Word) => noted o h v (if may then
      s.setReg i o (mergeWrite (s.reg i o) v h (if k.val = 0 then 3 else 0xFFFFFFFFFFFFFFFF)) else refused)
    (exec (.folSliceRegWrite i r k h w) s = .next (writes h w) ∧
      exec (.registerWrite r (sliceOff i o) 8 w) s = .next (writes .both w) ∧
      exec (.registerWrite r (sliceOff i o) 4 w) s = .next (writes .low (toPart .low w)) ∧
      exec (.registerWrite r (sliceOff i o + 4) 4 w) s = .next (writes .high (toPart .high w))) ∧
    ∀ o' ∈ [Reg.FOL_SLICE_STATUS, Reg.FOL_SPLIT_COUNT],
      let reads := fun (h : Half) (v : Word) => noted o' h v (if may then s else refused)
      exec (.registerWrite r (sliceOff i o') 8 w) s = .next (reads .both w) ∧
      exec (.registerWrite r (sliceOff i o') 4 w) s = .next (reads .low (toPart .low w)) ∧
      exec (.registerWrite r (sliceOff i o' + 4) 4 w) s = .next (reads .high (toPart .high w))

/-- R135, R354, R357 to R360, R363, R364, R369, R374 to R376: the DDR5 channel and the replay archive, whose changes of state the sequencer runs.  INIT of a channel that is OFF takes geometry, regions and speed and trains, SET_SPEED changes the speed through self-refresh; a
training whose every lane has an eye of EYE_MIN ends READY, or changes to the speed that waits, another FAILED; a tracking step moves a tap by at most one; refreshes, idle rows and idle ranks do as named; an archived frame takes its slot; a group's
registers are written while it is disabled, enabled when they are legal, and a group that is disabled loses its slots. -/
def Obligations.ChannelAndArchive : Prop :=
  ∀ (s : State) (i : Fin 16), Ready s →
    let d := s.dram i
    (∀ (r : Requester) (w : Word), s.sliceWriter i r = true → d.cmd.busy = false →
      (∀ g : Word, fld w 9 8 ≠ 3 → regionsOk (s.reg i Reg.DRM_REGION_FAR) (s.reg i Reg.DRM_REGION_CPB) (s.reg i Reg.DRM_REGION_RPL) (s.reg i Reg.DRM_REGION_SCR) = true →
        (d.state = .off ∨ d.state = .failed) → (s.slice i).seq.state = .running →
        (geomSupported g = true → (∀ k, k < 7 → maskLegal g k (s.drmXor i k) = true) →
          (regionFits g (s.reg i Reg.DRM_REGION_FAR) && regionFits g (s.reg i Reg.DRM_REGION_CPB) && regionFits g (s.reg i Reg.DRM_REGION_RPL) && regionFits g (s.reg i Reg.DRM_REGION_SCR)) = true →
          Effect (.init i r w (some g)) s (fun u => (u.dram i).state = .training ∧ (u.dram i).cmd = finished .ok ∧ (u.dram i).geom = g ∧ (u.dram i).spd = some g ∧ (u.dram i).speed = fld w 9 8 ∧
            (u.dram i).far = s.reg i Reg.DRM_REGION_FAR ∧ (u.dram i).eyeMin = fld (s.reg i Reg.DRM_CFG) 7 0)) ∧
        (geomSupported g = false → Effect (.init i r w (some g)) s (fun u => (u.dram i).state = .failed ∧ (u.dram i).cmd = finished .ok))) ∧
      (fld w 9 8 = 3 → Answers (.setSpeed i r w) s (fun u => u.dram i = { d with cmd := finished .badArg })) ∧
      (fld w 9 8 ≠ 3 → (s.slice i).seq.state ≠ .running → Answers (.setSpeed i r w) s (fun u => u.dram i = { d with cmd := finished .fenced })) ∧
      (fld w 9 8 ≠ 3 → (s.slice i).seq.state = .running → d.state = .ready → d.draining = false →
        (fld w 9 8 ≠ d.speed → Answers (.setSpeed i r w) s (fun u => u.dram i = { d with cmd := finished .ok, freqPending := true, pendSpeed := fld w 9 8, draining := true, queued := s.dramQueue i })) ∧
        (fld w 9 8 = d.speed → Answers (.setSpeed i r w) s (fun u => u.dram i = { d with cmd := finished .ok }))) ∧
      (fld w 9 8 ≠ 3 → (s.slice i).seq.state = .running → d.state = .off → Answers (.setSpeed i r w) s (fun u => u.dram i = { d with cmd := finished .stateRefused }))) ∧
    (d.state = .ready → d.draining = true → (s.slice i).seq.state = .running → (s.dramQueue i).all (fun q => !d.queued.contains q) = true → Effect (.dramQueueDrained i) s (fun u => (u.dram i).state = .selfRefresh ∧ (u.dram i).relocking = true ∧ OthersKept i s u)) ∧
    (d.state = .selfRefresh → d.relocking = true → (s.slice i).seq.state = .running → Answers (.phyRelock i) s (fun u => (u.dram i).state = .training ∧ (u.dram i).speed = d.pendSpeed ∧ (u.dram i).freqPending = false)) ∧
    ((s.slice i).seq.state ≠ .running → ∀ (rd wr : List (BitVec 128)) (rank : Fin 2) (bank : Fin 32) (retries : Fin 16),
      ∀ c ∈ [Instr.dramQueueDrained i, .phyRelock i, .trainSweepDone i rd wr, .dramRefresh i rank (bank, retries)], exec c s = .next s) ∧
    (∀ rd wr : List (BitVec 128), d.state = .training → (s.slice i).seq.state = .running →
      let eye := fun (k l : Nat) => min (runCentre ((rd[10 * k + l]?).getD 0)).2 (runCentre ((wr[10 * k + l]?).getD 0)).2
      ((∀ k l, k ≤ geomK d.geom → l < 10 → d.eyeMin ≤ eye k l) → Effect (.trainSweepDone i rd wr) s (fun u =>
        (d.freqPending = true → (u.dram i).state = .selfRefresh ∧ (u.dram i).relocking = true) ∧ (d.freqPending = false → (u.dram i).state = .ready))) ∧
      (∀ k l, k ≤ geomK d.geom → l < 10 → eye k l < d.eyeMin → Effect (.trainSweepDone i rd wr) s (fun u => (u.dram i).state = .failed))) ∧
    (∀ (rank : Fin 2) (centres : List (Nat × Nat)) (l : Nat), l < 10 → (s.slice i).farReady = true → rank.val ≤ geomK d.geom →
      Effect (.dramTrackingStep i rank centres) s (fun u => u.trainField i l rank.val 7 0 ≤ s.trainField i l rank.val 7 0 + 1 ∧ s.trainField i l rank.val 7 0 ≤ u.trainField i l rank.val 7 0 + 1 ∧
        u.trainField i l rank.val 23 16 = s.trainField i l rank.val 23 16)) ∧
    (∀ (rank : Fin 2) (bank : Fin 32) (retries : Fin 16), (d.state = .training ∨ d.state = .ready) → rank.val ≤ geomK d.geom → (s.slice i).seq.state = .running →
      Answers (.dramRefresh i rank (bank, retries)) s (fun u => u.reg i Reg.DRM_COUNT0 = satAdd (s.reg i Reg.DRM_COUNT0) 31 16 retries.val ∧
      NMap.get 0 (u.dram i).refreshes rank.val = NMap.get 0 d.refreshes rank.val + 1 ∧ NMap.get false (u.dram i).down rank.val = false ∧ OthersKept i s u)) ∧
    (∀ (rank : Fin 2) (bank : Fin 64), d.state = .ready → (NMap.get {} d.banks (bankKey rank.val bank.val)).row.isSome = true →
      fld (s.reg i Reg.DRM_CFG) 63 48 ≤ (s.uptime - (NMap.get {} d.banks (bankKey rank.val bank.val)).last) * 16 / 15 →
      Answers (.rowCloseIdle i rank bank) s (fun u => (NMap.get {} (u.dram i).banks (bankKey rank.val bank.val)).row = none ∧ OthersKept i s u)) ∧
    (∀ rank : Fin 2, d.state = .ready → fld (s.reg i Reg.DRM_CFG) 47 32 ≠ 0 → rank.val ≤ geomK d.geom →
      fld (s.reg i Reg.DRM_CFG) 47 32 ≤ (s.uptime - NMap.get 0 d.ranks rank.val) * 16 / 15 →
      Answers (.rankPowerDown i rank) s (fun u => NMap.get false (u.dram i).down rank.val = true ∧ OthersKept i s u)) ∧
    (∀ v rest, d.writes = v :: rest → (s.frame v.frame).done = true → d.state = .ready → bitAt (s.rplGroup0 i (v.key / 16777216)) 63 = true →
      (v.buf = none → Effect (.archiveSlotWritten i) s (fun u => (u.dram i).writes = rest ∧ ∃ x, NMap.get none (u.dram i).slots v.key = some x ∧ x.seq = v.seq ∧ x.valid = false)) ∧
      (∀ p bytes, v.buf = some p → archivedBytes s v = some bytes → bytes.length ≤ slotBytes (s.rplGroup0 i (v.key / 16777216)) - 16 →
        Effect (.archiveSlotWritten i) s (fun u => (u.dram i).writes = rest ∧ ∃ x, NMap.get none (u.dram i).slots v.key = some x ∧ x.seq = v.seq ∧ x.valid = true ∧ x.bytes = bytes))) ∧
    (∀ (r : Requester) (g : Fin 256) (h : Half) (w : Word), s.sliceWriter i r = true →
      let old := s.rplGroup0 i g.val
      let new := mergeWrite old w h 0xF000FFFFFFFFFFFF
      let o0 := Reg.RPL_GROUP0 + 8 * g.val
      let o1 := Reg.RPL_GROUP1 + 8 * g.val
      (bitAt old 63 = false → exec (.rplGroupWrite i r g true h w) s = .next (took r (sliceOff i o1) h w (s.setReg i o1 (mergeWrite (s.reg i o1) w h 0x00FFFFFF001FFFFF)))) ∧
      (bitAt old 63 = true → exec (.rplGroupWrite i r g true h w) s = .next (took r (sliceOff i o1) h w (s.count i Reg.RPL_COUNT0 15 0))) ∧
      (bitAt old 63 = true → bitAt new 63 = true → exec (.rplGroupWrite i r g false h w) s = .next (took r (sliceOff i o0) h w (s.count i Reg.RPL_COUNT0 15 0))) ∧
      (bitAt old 63 = false → bitAt new 63 = true → s.badGroup i g.val new = false → w &&& halfMask h &&& 0x0FFF000000000000 = 0 →
        Answers (.rplGroupWrite i r g false h w) s (fun u => u.reg i o0 = new ∧ NMap.get 0 (u.dram i).nextSeq g.val = fld new 31 0 ∧ OthersKept i s u)) ∧
      (bitAt old 63 = true → bitAt new 63 = false → Answers (.rplGroupWrite i r g false h w) s (fun u => u.reg i o0 = new ∧ OthersKept i s u ∧
        ∀ e ∈ (u.dram i).slots, e.1 / 16777216 ≠ g.val)))

-- The host port -----------------------------------------------------------------------------------------------------------

/-- A request of PF `pf` is served: its link is active and not frozen, memory space is enabled, and the function is in D0. -/
def Sys2Proof.Claims.Served (s : State) (pf : Fin 16) : Prop :=
  (∃ l, s.linkFor pf.val = some (l, false)) ∧ (s.pfn pf.val).mse = true ∧ (s.pfn pf.val).d3 = false
/-- The link of PF `pf` once HST_PF_MAP applies to link `l` (R381, R472): a PF that the map gives to it joins it unless another link holds it, one that the
map does not give to it leaves it, and every other stays. -/
def Sys2Proof.Claims.mapped (s : State) (l : Nat) (pf : Nat) : Option Nat :=
  let cur := (s.pfn pf).link
  if s.pfMap pf = some l ∧ (cur = none ∨ cur = some l) then some l else if cur = some l then none else cur
/-- An HST_CMD operation turned away with PERMISSION: the write reached no register (R483). -/
def Sys2Proof.Claims.hstDenied (t : State) : Answer := .next (putHst (finished .permission) t)
/-- A finished HST_CMD operation `k` with status `st`, over the state `t` that its effect left. -/
def Sys2Proof.Claims.hstDone (r : Requester) (k : Nat) (w : Word) (st : CmdStatus) (t : State) : Answer :=
  .next (took r (globalOff Reg.HST_CMD) .both (withOp w k) (putHst (finished st) t))

/-- R385 to R387, R401 to R403, R405, R472, R479, R481: windows, ownership and links.  WIN_WRITE replaces a legal entry once the last flush has ended, WIN_READ reads one, WIN_FLUSH_DONE ends the flush; SET_OWNER gives a slice in
RETENTION with its rings stopped to a mapped PF; RELEASE, by one who may, ends a freeze and leaves its frozen rings stopped; a freeze keeps its first cause and freezes the running rings of the link's PFs; FLR and link reset
stop them and quarantine the reads of the PF that are outstanding, and HST_PF_MAP applies to a link that leaves DL_Active; a request through a window acts as the PF's own access, and one that no window, owner, link or mode allows is counted and answered as named; BAR4 is the MSI-X table; configuration space holds the device's identity,
its Command register and its power state. -/
def Obligations.HostPort : Prop :=
  ∀ s : State, Ready s →
    (∀ (r : Requester) (w : Word), s.host.cmd.busy = false → (s.globalWriter r = true →
      let d0 := s.greg Reg.HST_WIN_DATA0
      let d1 := s.greg Reg.HST_WIN_DATA1
      let pf := fld w 35 32
      let e := fld w 29 24
      let i := sl (fld w 19 16)
      (badWindow pf e d0 d1 s = true → exec (.winWrite r w) s = hstDone r 1 w .badArg s) ∧
      (badWindow pf e d0 d1 s = false → s.host.flushed = false → exec (.winWrite r w) s = hstDone r 1 w .stateRefused (s.gcount Reg.HST_COUNT1 15 0)) ∧
      (badWindow pf e d0 d1 s = false → s.host.flushed = true → Answers (.winWrite r w) s (fun u => u.window pf e = Window.ofData d0 d1 ∧ u.host.flushed = false ∧
        u.host.cmd = finished .ok ∧ u.slices = s.slices ∧ ∀ p k, 64 * p + k ≠ 64 * pf + e → u.window p k = s.window p k)) ∧
      exec (.winRead r w) s = hstDone r 2 w .ok ((s.setGreg Reg.HST_WIN_DATA0 (s.window pf e).data0).setGreg Reg.HST_WIN_DATA1 (s.window pf e).data1) ∧
      (s.pfMap pf = none → exec (.setOwner r w) s = hstDone r 3 w .badArg s) ∧
      ((s.pfMap pf).isSome = true → (s.slice i).pwr = .retention → (∀ q ∈ (s.slice i).rings, q.2.state = .stopped) →
        exec (.setOwner r w) s = hstDone r 3 w .ok (s.modSlice i (fun x => { x with owner := Fin.ofNat 16 pf }))) ∧
      ((s.pfMap pf).isSome = true → (s.slice i).pwr ≠ .retention → exec (.setOwner r w) s = hstDone r 3 w .stateRefused (s.gcount Reg.HST_COUNT1 15 0))) ∧
      (s.globalWriter r = false → exec (.winWrite r w) s = hstDenied s ∧ exec (.setOwner r w) s = hstDenied s) ∧
      (let l := fld w 17 16
       (s.mayRelease r l = false → exec (.release r w) s = hstDenied s) ∧
       (s.mayRelease r l = true → ((s.link l).frozen = false ∨ (s.link l).dlActive = false) → exec (.release r w) s = hstDone r 4 w .stateRefused (s.gcount Reg.HST_COUNT1 15 0)) ∧
       (s.mayRelease r l = true → (s.link l).frozen = true → (s.link l).dlActive = true → Effect (.release r w) s (fun u => (u.link l).frozen = false ∧ (u.link l).cause = 0 ∧ u.host.cmd = finished .ok ∧
         ∀ (i : Fin 16) (q : Fin 256), (s.pfn (s.slice i).owner.val).link = some l → (s.ring i q.val).state = .frozen →
           (u.ring i q.val).state = .stopped ∧ bitAt (u.ringCfg i q.val) 63 = false)))) ∧
    exec .winFlushDone s = .next { s with host := { s.host with flushed := true } } ∧
    (∀ (l : Fin 4) (pf : Fin 16) (c : Fin 16), (s.pfn pf.val).link = some l.val →
      (c.val ≠ 1 → (s.link l.val).frozen = true → exec (.linkFreeze l pf c) s = .next (s.modPf pf.val (fun p => { p with aer := p.aer ||| aerBit (if 1 ≤ c.val ∧ c.val ≤ 9 then c.val else 0xF) }))) ∧
      ((c.val = 1 → (s.link l.val).dlActive = true ∧ (s.pfn pf.val).d3 = false) → (s.link l.val).frozen = false → Effect (.linkFreeze l pf c) s (fun u => (u.link l.val).frozen = true ∧
        (u.link l.val).cause = (if 1 ≤ c.val ∧ c.val ≤ 9 then c.val else 0xF) ∧ (c.val = 1 → (u.link l.val).dlActive = false ∧ ∀ p : Fin 16, (u.pfn p.val).link = mapped s l.val p.val) ∧
        ∀ (i : Fin 16) (q : Fin 256), (s.pfn (s.slice i).owner.val).link = some l.val → (s.ring i q.val).state = .running → s.ringPf i q.val ≠ 16 → (u.ring i q.val).state = .frozen)) ∧
      (c.val = 1 → (s.link l.val).dlActive = false → exec (.linkFreeze l pf c) s = .next s)) ∧
    (∀ pf : Fin 16, Effect (.functionLevelReset pf) s (fun u => (u.pfn pf.val).vecs = [] ∧ (u.pfn pf.val).msixOn = false ∧ (u.pfn pf.val).mse = false ∧ (u.pfn pf.val).bme = false ∧
      (∀ (tag : Nat) g, s.tag tag = some g → u.tag tag = some (if g.pf = pf.val ∧ g.quar = none then { g with quar := some s.uptime } else g)) ∧
      ∀ i : Fin 16, (s.slice i).owner = pf → ∀ q : Fin 256, (u.ring i q.val).state = .stopped)) ∧
    (∀ l : Fin 4, l.val < s.nLinks →
      Effect (.linkReset l) s (fun u => (u.link l.val).frozen = false ∧ (u.link l.val).dlActive = false ∧ ∀ pf : Fin 16,
        ((s.pfn pf.val).link = some l.val → (u.pfn pf.val).mse = false ∧ (u.pfn pf.val).msixOn = false ∧
          ∀ i : Fin 16, (s.slice i).owner = pf → ∀ q : Fin 256, (u.ring i q.val).state = .stopped) ∧
        (u.pfn pf.val).link = mapped s l.val pf.val) ∧
      (∀ (width : Fin 17) (speed : Fin 7) (flit : Bool),
        (s.pfsOf l.val ≠ [] → s.linkOk width.val speed.val flit = true → exec (.pcieLinkUp l width speed flit) s = .next (s.modLink l.val (fun k =>
          { k with dlActive := true, width := width.val, speed := speed.val, flit := flit }))) ∧
        (s.linkOk width.val speed.val flit = false → exec (.pcieLinkUp l width speed flit) s = .next s)) ∧
      ((s.link l.val).dlActive = true → (∀ p ∈ s.pfsOf l.val, (s.pfn p).d3 = true) → Answers (.pcieLinkDown l) s (fun u => (u.link l.val).dlActive = false ∧
        (u.link l.val).frozen = (s.link l.val).frozen ∧ ∀ pf : Fin 16, (u.pfn pf.val).link = mapped s l.val pf.val)) ∧
      ((s.link l.val).dlActive = false → exec (.pcieLinkDown l) s = .next s)) ∧
    (∀ (pf : Fin 16) (bar : Fin 2) (addr n : Nat) (bs : List Byte) (err : Fin 3),
      (Served s pf →
        (∀ x t, s.translate pf.val bar.val addr bs.length true = some (x, t) → x.kind = 0 → 0x4000000 ≤ t →
          exec (.hostRequest pf bar addr n (some bs) err) s = exec (.registerWrite (.pf pf) t bs.length (word (ofBytesLE bs))) s) ∧
        (∀ x t, s.translate pf.val bar.val addr n false = some (x, t) → x.kind = 0 → t < 0x4000000 → s.sliceWriter (sl (t / 0x400000)) (.pf pf) = false → s.globalWriter (.pf pf) = false →
          exec (.hostRequest pf bar addr n none err) s = .next (complete pf.val 0 (List.replicate n 0) (s.gcount Reg.HST_COUNT2 31 0))) ∧
        (∀ x t, s.translate pf.val bar.val addr bs.length true = some (x, t) → x.kind = 0 → t < 0x4000000 → s.sliceWriter (sl (t / 0x400000)) (.pf pf) = false → s.globalWriter (.pf pf) = false →
          exec (.hostRequest pf bar addr n (some bs) err) s = .next (s.gcount Reg.HST_COUNT2 31 0)) ∧
        (∀ x t, s.translate pf.val bar.val addr bs.length true = some (x, t) → x.kind ≠ 0 → s.sliceWriter (sl x.slice) (.pf pf) = true → (s.slice (sl x.slice)).farReady = true →
          regionEn (s.dram (sl x.slice)).scr = true → Effect (.hostRequest pf bar addr n (some bs) err) s (fun u =>
            (u.dram (sl x.slice)).scratchRead t bs.length = bs ∧ ∀ o, (o < t ∨ t + bs.length ≤ o) → (u.dram (sl x.slice)).scratchRead o 1 = (s.dram (sl x.slice)).scratchRead o 1)) ∧
        (s.translate pf.val bar.val addr n false = none → exec (.hostRequest pf bar addr n none err) s = .next (refuseRead pf.val 1 (s.gcount Reg.HST_COUNT2 63 32))) ∧
        (s.translate pf.val bar.val addr bs.length true = none → exec (.hostRequest pf bar addr n (some bs) err) s = .next (s.gcount Reg.HST_COUNT2 63 32))) ∧
      (∀ l, s.linkFor pf.val = some (l, true) → exec (.hostRequest pf bar addr n (some bs) err) s = .next (s.gcount Reg.HST_COUNT0 (16 * l + 15) (16 * l)) ∧
        exec (.hostRequest pf bar addr n none err) s = .next (complete pf.val 1 [] (s.gcount Reg.HST_COUNT0 (16 * l + 15) (16 * l)))) ∧
      (∀ l, s.linkFor pf.val = some (l, false) → (s.pfn pf.val).mse = false → exec (.hostRequest pf bar addr n (some bs) err) s = .next s ∧
        exec (.hostRequest pf bar addr n none err) s = .next (refuseRead pf.val 1 s))) ∧
    (∀ (pf : Fin 16) (k : Fin 2048) (n : Nat) (bs : List Byte), Served s pf → bs.length = 8 →
      let v := (s.pfn pf.val).vec k.val
      exec (.msixAccess pf (Fin.ofNat 65536 (16 * k.val)) 8 none) s = .next (complete pf.val 0 (bytesLE 8 v.addr.toNat) s) ∧
      Answers (.msixAccess pf (Fin.ofNat 65536 (16 * k.val)) n (some bs)) s (fun u => let x := (u.pfn pf.val).vec k.val
        x.addr = word (ofBytesLE bs / 4 * 4) ∧ x.data = v.data % 2 ^ 32 ∧ x.masked = v.masked ∧ u.slices = s.slices) ∧
      Answers (.msixAccess pf (Fin.ofNat 65536 (16 * k.val + 8)) n (some bs)) s (fun u => let x := (u.pfn pf.val).vec k.val
        x.data = ofBytesLE (bs.take 4) ∧ x.masked = bitAt (word (ofBytesLE (bs.drop 4))) 0 ∧ (x.masked = true → x.pending = v.pending) ∧
        (v.pending = true → x.masked = false → (s.pfn pf.val).msixOn = true → (s.pfn pf.val).msixMask = false → s.pfUsable pf.val = true → x.pending = false ∧ .msix pf.val k.val ∈ u.out)) ∧
      (∀ j : Fin 65536, 0x8000 ≤ j.val → exec (.msixAccess pf j n (some bs)) s = .next s)) ∧
    (∀ (pf : Fin 16) (l : Nat) (be : BitVec 4) (v : BitVec 32), s.linkFor pf.val = some (l, false) →
      exec (.configurationRequest pf 0 none) s = .next (complete pf.val 0 (bytesLE 4 0x04001F4B) s) ∧
      exec (.configurationRequest pf 0x44 none) s = .next (complete pf.val 0 (bytesLE 4 (8 + 3 * b2n (s.pfn pf.val).d3)) s) ∧
      (be.getLsbD 0 = true → (v.toNat % 4 = 0 ∨ v.toNat % 4 = 3) → exec (.configurationRequest pf 0x44 (some (be, v))) s = .next (complete pf.val 0 []
        (s.modPf pf.val (fun p => { p with d3 := decide (v.toNat % 4 = 3) })))) ∧
      (be.getLsbD 0 = true → Answers (.configurationRequest pf 4 (some (be, v))) s (fun u => (u.pfn pf.val).mse = v.getLsbD 1 ∧ (u.pfn pf.val).bme = v.getLsbD 2 ∧ u.slices = s.slices)))

/-- R379, R390 to R396, R398, R399, R407: rings and read tags.  A write of RNG_CFG with EN starts a stopped ring at HEAD 0, FROZEN on a frozen link, one without EN stops a running ring, and one of the low half alone changes the fields of a ring in ERROR or FROZEN; a TAIL in
range posts descriptors and another sends a RUNNING or STOPPED ring to ERROR with cause 5; an item goes into the buffer at HEAD with its completion and HEAD advances; a TX descriptor is refused, its frame fetched in reads of at most Max Read Request Size, or injected and completed; a completion brings its descriptor or a piece of its frame, ends the ring on an error, goes
nowhere when its ring has stopped, and a tag that has no request freezes the link; a read that times out has its tag quarantined and then freed. -/
def Obligations.RingsAndTags : Prop :=
  ∀ (s : State) (i : Fin 16) (q : Fin 256), Ready s →
    let x := s.ring i q.val
    let head := fun u : State => (u.ring i q.val).head = (x.head + 1) % s.ringSize i q.val
    (∀ (r : Requester) (h : Half) (w : Word), s.sliceWriter i r = true →
      let o := rng Reg.RNG_CFG q.val
      let new := mergeWrite (s.ringCfg i q.val) w h 0xDF0007FFFFFFFF01
      (x.state = .stopped → bitAt new 63 = true → Answers (.rngCfgWrite i r q h w) s (fun u => (u.ring i q.val).state = (if s.ringFrozen i q.val then .frozen else .running) ∧ (u.ring i q.val).head = 0 ∧ (u.ring i q.val).phase = true ∧
        (u.ring i q.val).cause = 0 ∧ u.ringCfg i q.val = new ∧ OthersKept i s u)) ∧
      (x.state ≠ .running → h ≠ .low ∨ x.state = .stopped → bitAt new 63 = false → Answers (.rngCfgWrite i r q h w) s (fun u => u.ringCfg i q.val = new ∧
        u.ring i q.val = { x with state := .stopped } ∧ OthersKept i s u)) ∧
      (x.state = .error ∨ x.state = .frozen → h = .low → exec (.rngCfgWrite i r q h w) s = .next (took r (sliceOff i o) h w (s.setReg i o new))) ∧
      (x.state = .running → bitAt new 63 = false → Effect (.rngCfgWrite i r q h w) s (fun u => u.ringCfg i q.val = new ∧ (u.ring i q.val).state = .stopped ∧ (u.ring i q.val).items = [])) ∧
      (x.state = .running ∨ (x.state ≠ .stopped ∧ h ≠ .low) → bitAt new 63 = true → exec (.rngCfgWrite i r q h w) s = .next (took r (sliceOff i o) h w s))) ∧
    (∀ (r : Requester) (h : Half) (w : Word), s.sliceWriter i r = true →
      let o := rng Reg.RNG_TAIL q.val
      let new := mergeWrite (s.reg i o) w h 0xFFFF
      (x.state = .running → fld new 15 0 < s.ringSize i q.val → Answers (.rngTailWrite i r q h w) s (fun u => u.reg i o = new ∧ (u.ring i q.val).state = .running ∧ (u.ring i q.val).head = x.head ∧ OthersKept i s u)) ∧
      (x.state = .running ∨ x.state = .stopped → s.ringSize i q.val ≤ fld new 15 0 → Effect (.rngTailWrite i r q h w) s (fun u => u.reg i o = new ∧ (u.ring i q.val).state = .error ∧ (u.ring i q.val).cause = 5)) ∧
      (x.state = .error ∨ x.state = .frozen ∨ (x.state = .stopped ∧ fld new 15 0 < s.ringSize i q.val) → exec (.rngTailWrite i r q h w) s = .next (took r (sliceOff i o) h w (s.setReg i o new)))) ∧
    (∀ (r : Requester) (h : Half) (w : Word), s.sliceWriter i r = false →
      exec (.rngCfgWrite i r q h w) s = .next s ∧ exec (.rngTailWrite i r q h w) s = .next s) ∧
    (∀ it rest d, x.items = it :: rest → x.desc = some d → x.state = .running → s.pfUsable (s.ringPf i q.val) = true →
      Effect (.rxItemDeliver i q) s (fun u => (u.ring i q.val).items = rest ∧ (u.ring i q.val).state = .running ∧ head u) ∧
      (∀ ev, it = .learn ev → ev ≠ [] → ev.length ≤ descLen d → Effect (.rxItemDeliver i q) s (fun u => .dma (s.ringPf i q.val) (descAddrOf d) ev ∈ u.out ∧
        .dma (s.ringPf i q.val) (s.descAddr i q.val) (rxCompletion 2 0 0 0 0 0 ev.length x.phase false) ∈ u.out)) ∧
      (∀ num bytes, it = .seal num bytes → descLen d < bytes.length → Effect (.rxItemDeliver i q) s (fun u =>
        .dma (s.ringPf i q.val) (s.descAddr i q.val) (rxCompletion 4 0 0 0 (word num) 0 0 x.phase true) ∈ u.out))) ∧
    (x.items = [] ∨ x.desc = none ∨ x.state ≠ .running → exec (.rxItemDeliver i q) s = .next s) ∧
    (∀ d, x.desc = some d → x.state = .running → s.ringIsTx i q.val = true → x.read = none → s.pfUsable (s.ringPf i q.val) = true →
      let ends := fun (st : CmdStatus) (u : State) => head u ∧
        .dma (s.ringPf i q.val) ((s.descAddr i q.val + 30) % 2 ^ 64) [byte st.code, byte (128 * b2n x.phase + 64 * b2n (decide (st ≠ .ok)))] ∈ u.out
      (badTx i d s = true → Effect (.txDescriptorProcess i q) s (ends .badArg)) ∧
      (badTx i d s = false →
        (∀ f, x.frame = some f → Effect (.txDescriptorProcess i q) s (fun u => ends .ok u ∧ (txMode d = 1 → (u.frame s.nextId).bytes = padTo (txLen d) f ++ bytesLE 4 (crc32 (padTo (txLen d) f))))) ∧
        (∀ b t a, x.frame = none → x.buf = some b → takeTag i q.val true s = some (t, a) →
          let m := s.maxRead (s.ringPf i q.val)
          let at_ := descAddrOf d + x.part.length
          let n := min (txLen d - x.part.length) (m - at_ % m)
          exec (.txDescriptorProcess i q) s =
            .next ((a.modRing i q.val (fun y => { y with read := some t, want := n, wantsFrom := none })).emit (.dmaRead (s.ringPf i q.val) at_ n t))) ∧
        (∀ b a, x.frame = none → x.buf = none → allocPool i (txLen d) (0x100 + q.val) s = (some b, a) → Effect (.txDescriptorProcess i q) s (fun u => (u.ring i q.val).buf = some b)) ∧
        (∀ a, x.frame = none → x.buf = none → allocPool i (txLen d) (0x100 + q.val) s = (none, a) → Effect (.txDescriptorProcess i q) s (fun u => u = a)))) ∧
    (0 < x.unsig → bitAt (s.ringCfg i q.val) 0 = true →
      (x.unsigAt + fld (s.ringCfg i q.val) 31 16 * 1500 ≤ s.uptime → Answers (.ringCoalesceTimeout i q) s (fun u => u.ring i q.val = { x with unsig := 0 } ∧ OthersKept i s u)) ∧
      (s.uptime < x.unsigAt + fld (s.ringCfg i q.val) 31 16 * 1500 → exec (.ringCoalesceTimeout i q) s = .next s)) ∧
    (∀ (l : Fin 5) (tag : Fin 16384) (data : List Byte),
      (∀ g, s.tag tag.val = some g → g.link = l.val → g.slice = i.val → g.ring = q.val →
        (g.quar = none → x.read = some tag.val →
          (∀ d, g.frame = true → x.desc = some d → Effect (.completionReceived l tag 0 data) s (fun u => (u.ring i q.val).part = x.part ++ padTo x.want data ∧
            (u.ring i q.val).frame = if (x.part ++ padTo x.want data).length < txLen d then x.frame else some (x.part ++ padTo x.want data))) ∧
          (g.frame = false → badDesc (s.ringIsTx i q.val) data = false → Effect (.completionReceived l tag 0 data) s (fun u => (u.ring i q.val).desc = some data)) ∧
          (x.state = .running → ∀ st : Fin 4, st ≠ 0 → Effect (.completionReceived l tag st data) s (fun u => (u.ring i q.val).state = .error ∧ (u.ring i q.val).cause = if g.frame then 4 else 2))) ∧
        (g.quar = none → x.read ≠ some tag.val → (∀ (j : Fin 16) k, (s.ring j k).wantsFrom = none) → ∀ st : Fin 4, st ≠ 3 → Answers (.completionReceived l tag st data) s (fun u => u.tag tag.val = none ∧
          u.greg Reg.HST_COUNT1 = s.greg Reg.HST_COUNT1 ∧ ∀ (j : Fin 16) k, u.ring j k = s.ring j k)) ∧
        (g.quar.isSome = true → (∀ (j : Fin 16) k, (s.ring j k).wantsFrom = none) → ∀ st : Fin 4, Answers (.completionReceived l tag st data) s (fun u => u.tag tag.val = none ∧
          u.greg Reg.HST_COUNT1 = satAdd (s.greg Reg.HST_COUNT1) 63 48 1 ∧ u.slices = s.slices))) ∧
      (s.tag tag.val = none → l.val < 4 → (s.link l.val).frozen = false → ∀ st : Fin 4, Effect (.completionReceived l tag st data) s (fun u => (u.link l.val).frozen = true ∧ (u.link l.val).cause = 8))) ∧
    (∀ (tag : Fin 16384) g, s.tag tag.val = some g →
      (g.quar = none → g.link < 4 → g.issued + s.cto g.link ≤ s.uptime → Effect (.completionTimeout tag) s (fun u => u.tag tag.val = some { g with quar := some s.uptime } ∧ (u.link g.link).frozen = true)) ∧
      (g.quar.isSome = true ∨ s.uptime < g.issued + s.cto g.link → exec (.completionTimeout tag) s = .next s) ∧
      (∀ t, g.quar = some t → (t + 2 * s.cto g.link ≤ s.uptime → (∀ (j : Fin 16) k, (s.ring j k).wantsFrom = none) → Answers (.quarantineExpiry tag) s (fun u => u.tag tag.val = none ∧
          u.greg Reg.HST_COUNT1 = satAdd (s.greg Reg.HST_COUNT1) 47 32 1 ∧ u.slices = s.slices)) ∧
        (s.uptime < t + 2 * s.cto g.link → exec (.quarantineExpiry tag) s = .next s))) ∧
    (∀ t, x.wantsFrom = some t → (t + 1500000 ≤ s.uptime → Effect (.tagsExhausted i q) s (fun u => (u.src 16 0xC04).liveUntil = (s.uptime / 4 + 1) * 4 ∧ u.slices = s.slices)) ∧
      (s.uptime < t + 1500000 → exec (.tagsExhausted i q) s = .next s))

-- Scribe and the board pins --------------------------------------------------------------------------------------------------

/-- The device with the request at the head of the Scribe's queue taken off. -/
def Sys2Proof.Claims.popped (s : State) : State := s.modScribe (fun c => { c with queue := c.queue.tail })
/-- The keys are gone and wait for their derivation, and seals stop (R418). -/
def Sys2Proof.Claims.Zeroised (s u : State) : Prop :=
  u.scribe.keyLoaded = false ∧ u.scribe.keysWait = true ∧ u.scribe.counter = 0 ∧ u.signer.ready = false ∧ u.scribe.zeroised = satN 8 (s.scribe.zeroised + 1)

/-- R2, R327, R328, R331, R402, R413 to R415, R419, R429, R449: the Scribe's opcodes, each over the request at the head of its queue.  A request of another opcode is left alone; one that the life cycle forbids is answered with
STATE_REFUSED; HELLO, register reads and writes, fault histories, blocks, seals and the certificate are answered with their data, those of the Scribe's domain with the core OFF too, a block outside READY with TIMEOUT (the model's choice, log 126); the life
cycle moves, firmware and microcode are written, and a reset keeps what OTP and flash hold. -/
def Obligations.ScribeServes : Prop :=
  ∀ (s : State) (q : ScribeReq) (rest : List ScribeReq), Calm s → s.scribe.queue = q :: rest →
    let p := msgPayload q.bytes
    let op := msgOpcode q.bytes
    let s1 := popped s
    (∀ e ∈ [(Instr.hello, 0x01), (.regRead, 0x10), (.regWrite, 0x11), (.faultRead, 0x20), (.cpbRead, 0x30), (.cpbRelease, 0x31), (.sealRead, 0x32), (.certRead, 0x33), (.linkRelease, 0x40), (.provision, 0x52),
        (.certWrite, 0x53), (.notifySet, 0x60), (.fwWrite, 0x70), (.fwCommitSvn, 0x71), (.mcuReload, 0x72), (.scribeReset, 0x73)],
      (op ≠ e.2 → exec e.1 s = .next s) ∧ (op = e.2 → s.scribe.allows q.path q.bytes = false → exec e.1 s = .next (respond q .stateRefused [] s1))) ∧
    (s.scribe.allows q.path q.bytes = true →
      (op = 0x01 → exec .hello s = .next (respond q .ok (bytesLE 8 s.scribe.nonce.toNat ++ [byte s.scribe.lc, byte (b2n s.scribe.keyLoaded + 2 * b2n s.scribe.latched)] ++
        bytesLE 8 Config.serial.toNat ++ bytesLE 8 s.fwVersion.toNat ++ bytesLE 8 (s.slice 0).seq.version.toNat ++ bytesLE 8 0xB004006A4B) s1)) ∧
      (∀ off n, op = 0x10 → p = bytesLE 8 off ++ bytesLE 2 n → off < 2 ^ 64 → off % 8 = 0 → 1 ≤ n → n ≤ 128 →
        ((∀ k, k < n → s.coreFenced (off + 8 * k) = false) → exec .regRead s = done (respond q .ok (readRegs n off s1).1 (readRegs n off s1).2)) ∧
        (s.core = .off → off = globalOff Reg.SEC_SERIAL → n = 1 → exec .regRead s = .next (respond q .ok (bytesLE 8 Config.serial.toNat) s1)) ∧
        (s.coreFenced off = true → exec .regRead s = .next (respond q .fenced [] s1))) ∧
      (∀ off v n, op = 0x11 → p = bytesLE 8 off ++ bytesLE 8 v ++ [byte n] → off < 2 ^ 64 → v < 2 ^ 64 → (n = 4 ∨ n = 8) → off % n = 0 →
        (s.coreFenced (off / 8 * 8) = false → exec .regWrite s = done (respond q .ok [] (regWrite .scribe off n (word v) s1))) ∧
        (s.coreFenced (off / 8 * 8) = true → exec .regWrite s = .next (respond q .fenced [] s1))) ∧
      (∀ u : Fin 17, op = 0x20 → p = [byte u.val] →
        (s.up = true ∨ u.val = 16 → exec .faultRead s = .next (respond q .ok ((s.fu u.val).hist.reverse.flatMap HistEntry.bytes) (clearAlert u.val s1))) ∧
        (s.up = false → u.val < 16 → exec .faultRead s = .next (respond q .fenced [] s1))) ∧
      (∀ (j : Fin 16) n off len, op = 0x30 → p = [byte j.val] ++ bytesLE 8 n ++ bytesLE 4 off ++ bytesLE 2 len → n < 2 ^ 64 → off < 2 ^ 32 → 1 ≤ len → len ≤ 1280 → s.up = true →
        (∀ b, (s.cpb j).blocks.find? (fun b => decide (b.number = n ∧ b.run = (s.cpb j).run)) = some b →
          (off + len ≤ b.size → (s.slice j).farReady = true → ∃ v t bad, exec .cpbRead s = done (respond q .ok (slice v off len) t) ∧ v.length = (b.bytes j).length ∧
            ∀ k, k / 64 ≠ bad → v[k]? = (b.bytes j)[k]?) ∧
          (off + len ≤ b.size → (s.slice j).farReady = false → exec .cpbRead s = .next (respond q .timeout [] s1)) ∧
          (b.size < off + len → exec .cpbRead s = .next (respond q .badArg [] s1))) ∧
        ((s.cpb j).blocks.find? (fun b => decide (b.number = n ∧ b.run = (s.cpb j).run)) = none → exec .cpbRead s = .next (respond q .notFound [] s1))) ∧
      (∀ (j : Fin 16) n, op = 0x31 → p = [byte j.val] ++ bytesLE 8 n → n < 2 ^ 64 → s.up = true → s.drainScribe j = true → (s.cpb j).closed n = true → (s.cpb j).scribeNext ≤ n →
        Effect .cpbRelease s (fun u => (u.cpb j).scribeNext = n + 1 ∧ u.scribe.queue = rest)) ∧
      (∀ n off len, op = 0x32 → p = bytesLE 8 n ++ bytesLE 2 off ++ bytesLE 2 len → n < 2 ^ 64 → off < 2 ^ 16 → 1 ≤ len → len ≤ 1280 →
        (∀ x, s.signer.buffer.find? (fun x => decide (x.number = n)) = some x → off + len ≤ x.bytes.length → exec .sealRead s = .next (respond q .ok (slice x.bytes off len) s1)) ∧
        (s.signer.buffer.find? (fun x => decide (x.number = n)) = none → exec .sealRead s = .next (respond q .notFound [] s1))) ∧
      (∀ off len, op = 0x33 → p = bytesLE 2 off ++ bytesLE 2 len → off < 2 ^ 16 → len < 2 ^ 16 → exec .certRead s = .next
        (if 1 ≤ len ∧ len ≤ 1280 ∧ off + len ≤ s.scribe.cert.length then respond q .ok (slice s.scribe.cert off len) s1 else respond q .badArg [] s1)) ∧
      (∀ l : Fin 4, op = 0x40 → p = [byte l.val] →
        ((s.link l.val).frozen = true → (s.link l.val).dlActive = true → Effect .linkRelease s (fun u => (u.link l.val).frozen = false ∧ u.scribe.queue = rest)) ∧
        ((s.link l.val).frozen = false → exec .linkRelease s = .next (respond q .stateRefused [] (s1.gcount Reg.HST_COUNT1 15 0)))) ∧
      (∀ k : List Byte, k.length = 32 → op = 0x50 → p = [2] ++ k →
        (s.scribe.lc = 1 → q.path = 1 → Effect .lcTransitionField s (fun u => u.scribe.lc = 2 ∧ u.scribe.mgmt = some k ∧ Zeroised s u)) ∧
        (s.scribe.lc ≠ 1 ∨ q.path ≠ 1 → exec .lcTransitionField s = .next (respond q .stateRefused [] s1))) ∧
      (op = 0x50 → p = [3] ++ List.replicate 32 0 →
        (s.scribe.lc = 1 ∨ s.scribe.lc = 2 → Effect .lcTransitionReturned s (fun u => u.scribe.lc = 3 ∧ u.scribe.mgmt = none ∧ u.scribe.seed = none ∧ Zeroised s u)) ∧
        (s.scribe.lc ≠ 1 → s.scribe.lc ≠ 2 → exec .lcTransitionReturned s = .next (respond q .stateRefused [] s1))) ∧
      (∀ low : BitVec 2, op = 0x51 → p = [] →
        (low = 0 → s.scribe.latched = true → Answers (.tamperClear low) s (fun u => u.scribe.acked = s.scribe.acked + 1 ∧ u.scribe.keysWait = true ∧ u.scribe.tampers = s.scribe.tampers)) ∧
        (low ≠ 0 ∨ s.scribe.latched = false → exec (.tamperClear low) s = .next (respond q .stateRefused [] (s1.modScribe (fun c => { c with pinsLow := low.toNat }))))) ∧
      (op = 0x52 → p = [] →
        (s.scribe.lc = 0 → q.path = 1 → s.scribe.seed = none → Effect .provision s (fun u => u.scribe.seed.isSome = true ∧ u.scribe.lc = 0 ∧ u.scribe.keysWait = false ∧ u.signer.ready = true)) ∧
        (s.scribe.lc ≠ 0 ∨ q.path ≠ 1 ∨ s.scribe.seed.isSome = true → exec .provision s = .next (respond q .stateRefused [] s1))) ∧
      (∀ k, op = 0x53 → s.scribe.seed = some k → p ≠ [] → p.length ≤ 2048 → s.scribe.lc = 0 → q.path = 1 → Effect .certWrite s (fun u =>
        if Config.certKey p = sealPublic k then u.scribe.lc = 1 ∧ u.scribe.cert = p ∧ u.scribe.seed = some k else u = respond q .badArg [] s1)) ∧
      (op = 0x53 → s.scribe.seed = none → (p = [] ∨ s.scribe.lc = 0) → exec .certWrite s = .next (respond q .badArg [] s1)) ∧
      (op = 0x60 → p.length = 28 → exec .notifySet s = .next (respond q .ok [] (s1.modScribe (fun c => { c with notifyTo := slice p 0 18, notifyMask := word (ofBytesLE (slice p 20 8)) })))) ∧
      (∀ (g off : Nat) (bs : List Byte), op = 0x70 → p = [byte g] ++ bytesLE 4 off ++ bytesLE 2 bs.length ++ bs → g ≤ 1 → off % 256 = 0 → bs.length % 256 = 0 → off < 2 ^ 32 → bs.length < 2 ^ 16 →
        off + bs.length ≤ (if g = 0 then 4194304 else 262144) →
        let r := if g = 1 then 2 else match s.scribe.fw with
          | some f => 1 - f.slot
          | none => 0
        Answers .fwWrite s (fun u => u.flashBytes r off bs.length = bs ∧ u.scribe.fw = s.scribe.fw ∧
          ∀ k, (k < 4194304 * r + off ∨ 4194304 * r + off + bs.length ≤ k) → NMap.get 0xFF u.scribe.flash k = NMap.get 0xFF s.scribe.flash k)) ∧
      (∀ f, op = 0x71 → p = [] → s.scribe.fw = some f →
        (s.scribe.minSvn ≠ f.svn → Answers .fwCommitSvn s (fun u => u.scribe.minSvn = max s.scribe.minSvn f.svn ∧ u.scribe.fw = some f)) ∧
        (s.scribe.minSvn = f.svn → exec .fwCommitSvn s = .next (respond q .stateRefused [] s1))) ∧
      (op = 0x72 → p = [] →
        (s.up = true → Effect .mcuReload s (fun u => ∀ i : Fin 16, ((s.slice i).seq.state = .running → u.slice i = s.slice i) ∧
          ((s.slice i).seq.state ≠ .running → if imageOk s.mcuKey s.microImage = true then
            (u.slice i).seq = { state := .running, store := imageStore s.microImage, pc := 16, version := imageVersion s.microImage } else u.slice i = s.slice i))) ∧
        (s.up = false → exec .mcuReload s = .next (respond q .fenced [] s1))) ∧
      (op = 0x73 →
        (p = [] → Effect .scribeReset s (fun u => u.scribe.booted = false ∧ u.scribe.fw = none ∧ u.scribe.queue = [] ∧ u.scribe.keyLoaded = false ∧ u.signer.ready = false ∧ u.signer.buffer = [] ∧ u.pmx = {} ∧
          u.scribe.flash = s.scribe.flash ∧ u.scribe.minSvn = s.scribe.minSvn ∧ u.scribe.lc = s.scribe.lc ∧ u.scribe.seed = s.scribe.seed ∧ u.scribe.mgmt = s.scribe.mgmt ∧ u.scribe.cert = s.scribe.cert ∧
          u.scribe.tampers = s.scribe.tampers ∧ u.scribe.acked = s.scribe.acked ∧ u.slices = s.slices)) ∧
        (p ≠ [] → exec .scribeReset s = .next (respond q .badArg [] s1))))

/-- What a tamper event leaves (R418, R419): it is counted in the OTP thermometer, or the latch is exhausted; its cause stands, and the keys are gone. -/
def Sys2Proof.Claims.Tampered (cause : Nat) (s u : State) : Prop :=
  (s.scribe.tampers < 32 → u.scribe.tampers = s.scribe.tampers + 1) ∧ (32 ≤ s.scribe.tampers → u.scribe.tampers = s.scribe.tampers ∧ u.scribe.exhausted = true) ∧
  u.scribe.lastCause = cause ∧ u.scribe.acked = s.scribe.acked ∧ u.slices = s.slices ∧ Zeroised s u

/-- A message of a side-band path carries the request `q` (R423, R424): a datagram for port 4719 of a frame within 1,518 bytes, or the packets of an MCTP message of the Scribe's vendor type. -/
def Sys2Proof.Claims.Carries (eid path port : Nat) (bs : List Byte) (q : ScribeReq) : Prop :=
  (path = 0 ∧ port = 4719 ∧ bs.length ≤ 1472 ∧ q = { path := 0, bytes := bs }) ∨
  (path = 1 ∧ mctpJoin eid (byteAt bs 2).toNat (byteAt bs 3).toNat 24 0 bs = some (mctpPrefix ++ q.bytes) ∧
    q = { path := 1, bytes := q.bytes, eid := (byteAt bs 2).toNat, tag := (byteAt bs 3).toNat % 8 })

/-- R409, R412, R416, R418, R423 to R425, R427, R428, R430, R434: the Scribe domain.  Boot starts the best valid image once; the watchdog resets the domain; the keys come back when nothing holds them; each tamper input zeroises;
the mailbox takes a request of a legal length and refuses writes meanwhile; a message is queued, resent or discarded; MCTP control, ARP, echo, neighbour discovery and the alert address are answered. -/
def Obligations.ScribeDomain : Prop :=
  ∀ s : State, Calm s →
    let c := s.scribe
    (c.booted = false → exec .scribeBoot s = .next { s.modScribe (fun c => { c with booted := true, fw := chooseImage (fwImage s 0) (fwImage s 1) }) with scribeLock := true }) ∧
    (c.booted = true → exec .scribeBoot s = .next s ∧ Effect .scribeWatchdogExpiry s (fun u => u.scribe.booted = false ∧ u.scribe.fw = none ∧ u.scribe.queue = [] ∧ u.signer.ready = false ∧
      u.scribe.flash = c.flash ∧ u.scribe.minSvn = c.minSvn ∧ u.scribe.lc = c.lc ∧ u.scribe.seed = c.seed ∧ u.scribe.mgmt = c.mgmt ∧ u.slices = s.slices ∧ u.core = s.core ∧ u.arm = s.arm)) ∧
    (c.booted = false → exec .scribeWatchdogExpiry s = .next s) ∧
    (c.fw.isSome = true → c.keysWait = true → c.withheld = false → Effect .keyDerive s (fun u => u.scribe.keysWait = false ∧ u.scribe.keyLoaded = c.mgmt.isSome ∧
      (c.seed.isSome = true → u.signer.ready = true ∧ u.signer.resumed = true ∧ u.signer.number = 0) ∧ (c.seed = none → u.signer = s.signer))) ∧
    (c.fw = none ∨ c.keysWait = false ∨ c.withheld = true → exec .keyDerive s = .next s) ∧
    (∀ p : Fin 2, (bitAt (s.greg Reg.SEC_TAMPER_CFG) p.val = true → Effect (.tamperPin (p, true)) s (fun u => Tampered (p.val + 1) s u ∧ u.scribe.pinsLow = c.pinsLow ||| 2 ^ p.val)) ∧
      (bitAt (s.greg Reg.SEC_TAMPER_CFG) p.val = false → exec (.tamperPin (p, true)) s = .next (s.modScribe (fun c => { c with pinsLow := c.pinsLow ||| 2 ^ p.val }))) ∧
      exec (.tamperPin (p, false)) s = .next (s.modScribe (fun c => { c with pinsLow := c.pinsLow &&& (3 - 2 ^ p.val) }))) ∧
    Effect .voltageGlitch s (Tampered 3 s) ∧
    (s.scribeLock = true → Effect .clockGlitch s (Tampered 4 s)) ∧ (s.scribeLock = false → exec .clockGlitch s = .next s) ∧
    (∀ (r : Requester) (w : Word), s.core = .up → s.globalWriter r = true →
      (c.mbx.busy = false → 32 ≤ fld w 26 16 → fld w 26 16 ≤ 1440 →
        let m := s.mbxBytes (fld w 26 16)
        (c.fw.isSome = true → c.booted = true → c.queue.length < 8 → msgWellFormed m = true → knownOpcode m = true →
          (msgOpcode m = 1 ∨ (msgTagOk s m = true ∧ msgNonceOk s m = true ∧ c.counter < msgCounter m ∧ c.lastReq ≠ m)) →
          Answers (.send r w) s (fun u => u.scribe.mbx = running ∧ u.scribe.queue = c.queue ++ [{ path := 2, bytes := m }])) ∧
        (c.booted = false → Answers (.send r w) s (fun u => u.scribe.mbx = finished .ok ∧ u.scribe.respReady = false ∧ u.scribe.queue = c.queue))) ∧
      (c.mbx.busy = false → (fld w 26 16 < 32 ∨ 1440 < fld w 26 16) → exec (.send r w) s = .next (took r (globalOff Reg.SCB_MBX_CMD) .both (withOp w 1)
        (s.modScribe (fun c => { c with mbx := finished .badArg })))) ∧
      (c.mbx.busy = true → exec (.send r w) s = .next (took r (globalOff Reg.SCB_MBX_CMD) .both (withOp w 1) (s.gcount Reg.SCB_COUNT 15 0)))) ∧
    (∀ (r : Requester) (w : Word), s.globalWriter r = false → s.core = .up → exec (.send r w) s = .next s) ∧
    (∀ (r : Requester) (k : Fin 192) (h : Half) (w : Word), s.core = .up → s.globalWriter r = true →
      let o := Reg.SCB_MBX_DATA + 8 * k.val
      exec (.mbxDataWrite r k h w) s = .next (took r (globalOff o) h w
        (if c.mbx.busy then s.gcount Reg.SCB_COUNT 15 0 else s.setGreg o (mergeWrite (s.greg o) w h 0xFFFFFFFFFFFFFFFF)))) ∧
    (∀ (port : Fin 65536) (bs : List Byte), port.val ≠ 4719 ∨ 1472 < bs.length → exec (.scribeMessageReceive (0, port) bs) s = .next s) ∧
    (∀ (port : Fin 65536) (bs : List Byte), (∀ m, mctpJoin c.eid (byteAt bs 2).toNat (byteAt bs 3).toNat 24 0 bs ≠ some (mctpPrefix ++ m)) → exec (.scribeMessageReceive (1, port) bs) s = .next s) ∧
    (∀ (m : List Byte) (src tag : Nat), src < 256 → tag < 8 → 0 < m.length → m.length ≤ 61 →
      let pkt := [0x01, byte c.eid, byte src, byte (0xC0 + tag)] ++ mctpPrefix ++ m
      mctpJoin c.eid (byteAt pkt 2).toNat (byteAt pkt 3).toNat 24 0 pkt = some (mctpPrefix ++ m)) ∧
    (∀ (path : Fin 2) (port : Fin 65536) (bs : List Byte) (q : ScribeReq), c.booted = true → c.fw.isSome = true → Carries c.eid path.val port.val bs q →
      let m := q.bytes
      (8 ≤ c.queue.length → exec (.scribeMessageReceive (path, port) bs) s = .next (s.gcount Reg.SCB_COUNT 47 32)) ∧
      (c.queue.length < 8 →
        (msgWellFormed m = false → exec (.scribeMessageReceive (path, port) bs) s = .next (s.gcount Reg.SCB_COUNT 63 48)) ∧
        (msgWellFormed m = true → msgOpcode m ≠ 1 → msgTagOk s m = true → c.lastReq = m → c.lastResp ≠ [] →
          exec (.scribeMessageReceive (path, port) bs) s = .next (sendOn q c.lastResp (s.gcount Reg.SCB_COUNT 31 16))) ∧
        (msgWellFormed m = true → msgOpcode m ≠ 1 → msgTagOk s m = true → msgNonceOk s m = true → c.counter < msgCounter m → c.lastReq ≠ m → knownOpcode m = true →
          exec (.scribeMessageReceive (path, port) bs) s = .next (s.modScribe (fun c => { c with counter := msgCounter m, lastReq := m, lastResp := [], queue := c.queue ++ [q] }))) ∧
        (msgWellFormed m = true → msgOpcode m = 1 → exec (.scribeMessageReceive (path, port) bs) s = .next (s.modScribe (fun c => { c with queue := c.queue ++ [q] }))) ∧
        (msgWellFormed m = true → msgOpcode m ≠ 1 → msgTagOk s m = true → msgNonceOk s m = true → c.counter < msgCounter m → c.lastReq ≠ m → knownOpcode m = false → c.lc = 2 → Effect (.scribeMessageReceive (path, port) bs) s (fun u =>
          u.scribe.queue = c.queue ∧ u.out = (respond q (if c.withheld then .stateRefused else .badArg) [] (noteRequest m s)).out)) ∧
        (msgWellFormed m = true → msgOpcode m ≠ 1 → c.lastReq ≠ m → (msgNonceOk s m = false ∨ msgCounter m ≤ c.counter ∨ (msgTagOk s m = false ∧ c.untagged path.val (msgOpcode m) = false)) →
          exec (.scribeMessageReceive (path, port) bs) s = .next (s.gcount Reg.SCB_COUNT 63 48)))) ∧
    (c.booted = true → ∀ op eid : Fin 256,
      (op.val ≤ 1 → 8 ≤ eid.val → eid.val ≤ 254 → exec (.setEndpointId op eid) s = .next ((s.modScribe (fun c => { c with eid := eid.val })).emit (.sideband 1 [0, 0, byte eid.val, 0]))) ∧
      (2 ≤ op.val ∨ eid.val < 8 ∨ eid.val = 255 → exec (.setEndpointId op eid) s = .next (s.emit (.sideband 1 [2]))) ∧
      exec .getEndpointId s = .next (s.emit (.sideband 1 [0, byte c.eid, 0, 0])) ∧ exec .getMctpVersionSupport s = .next (s.emit (.sideband 1 [0, 1, 0xF1, 0xF3, 0xF1, 0x00])) ∧
      exec .getMessageTypeSupport s = .next (s.emit (.sideband 1 [0, 1, 0x7E])) ∧
      Answers .getVendorDefinedMsgSupport s (fun u => ∃ bs, bs.length = 2 ∧ u.out = .sideband 1 ([0, 0xFF, 0x00, 0x1F, 0x4B] ++ bs) :: s.out ∧ u.slices = s.slices)) ∧
    (∀ mac ip target body : List Byte, c.fw.isSome = true →
      (target = padTo 4 Config.mgtIp4 → Answers (.arpRequest mac ip target) s (fun u => ∃ m, u = s.emit (.sideband 3 m) ∧ m.take mac.length = mac)) ∧
      (target ≠ padTo 4 Config.mgtIp4 → exec (.arpRequest mac ip target) s = .next s) ∧
      (body.length ≤ 1476 → exec (.echoRequest (false, ip) body) s = .next (s.emit (.sideband 4 (icmp [] 0 body)))) ∧ (1476 < body.length → exec (.echoRequest (false, ip) body) s = .next s) ∧
      (body.length ≤ 1456 → exec (.echoRequest (true, ip) body) s = .next (s.emit (.sideband 5 (icmp (pseudo6 ip (4 + body.length)) 129 body)))) ∧ (1456 < body.length → exec (.echoRequest (true, ip) body) s = .next s) ∧
      (target = padTo 16 Config.mgtIp6 → exec (.neighbourDiscovery (target, ip)) s = .next (s.emit (.sideband 5 (icmp (pseudo6 ip 32) 136 ([0x60, 0, 0, 0] ++ target ++ [2, 1] ++ padTo 6 Config.mgtMac))))) ∧
      (target ≠ padTo 16 Config.mgtIp6 → exec (.neighbourDiscovery (target, ip)) s = .next s) ∧
      (∀ (ps : List Byte) (kind : Nat), ps.length % 2 = 0 → ps.length ≤ 40 → body.length ≤ 1476 → onesSum (ps ++ icmp ps kind body) = 0xFFFF)) ∧
    (c.alert ≠ [] → exec .alertResponse s = .next (s.emit (.sideband 6 [Config.smbusAddr]))) ∧ (c.alert = [] → exec .alertResponse s = .next s)

/-- The state in which feature `f` has begun its pulse (R432, Table 16.9): the pin of its PIN field is high for WIDTH × 100 ns, where 0 is used as 1. -/
def Sys2Proof.Claims.pulsing (f : Nat) (s : State) : State :=
  let n := fld (s.pmx.feat f) 3 0
  State.emit { s with pmx := { s.pmx with high := s.pmx.high.filter (fun e => decide (e.1 ≠ n)) ++ [(n, s.uptime + 150 * max 1 (fld (s.pmx.feat f) 31 16))] } } (.pin (muxName n) true)

/-- R432, R433, R491: APPLY takes the seven feature registers into force when the UART's pins are legal and no pin or timer is named twice, releases each pin whose function changes and drives a released pin as its GPIO says; otherwise
it keeps what was in force.  No multiplexed pin is driven before the first APPLY.  A feature in force pulses the pin that it names for its width at its instants, no other does, and the pulse ends with its width. -/
def Obligations.PinMultiplexing : Prop :=
  ∀ s : State, Ready s →
    (∀ (r : Requester) (w : Word), s.globalWriter r = true → s.pmx.cmd.busy = false →
      (bitAt (s.pmxFeat 6) 63 = true → fld (s.pmxFeat 6) 3 0 % 4 ≠ 0 → Answers (.apply r w) s (fun u => u.pmx = { s.pmx with cmd := finished .badArg })) ∧
      ((bitAt (s.pmxFeat 6) 63 = false ∨ fld (s.pmxFeat 6) 3 0 % 4 = 0) →
        ((∀ a b, a < b → b < 7 → pmxConflict s a b = none) → Answers (.apply r w) s (fun u => u.pmx.cmd = finished .ok ∧ u.pmx.live = true ∧ (∀ f, f < 7 → u.pmx.feat f = s.pmxFeat f) ∧
          ∀ n, n < 16 →
            (s.pmx.live = true → s.pmx.feature n ≠ u.pmx.feature n → .released (muxName n) ∈ u.out ∧ ∀ e ∈ u.pmx.high, e.1 ≠ n) ∧
            ((s.pmx.live = false ∨ s.pmx.feature n ≠ u.pmx.feature n) → u.pmx.feature n = none → bitAt (s.greg Reg.PMX_GPIO) (16 + n) = true →
              .pin (muxName n) (bitAt (s.greg Reg.PMX_GPIO) n) ∈ u.out))) ∧
        (∀ a b, a < b → b < 7 → (pmxConflict s a b).isSome = true → Answers (.apply r w) s (fun u => u.pmx.cmd = finished .stateRefused ∧ u.pmx.applied = s.pmx.applied ∧ u.pmx.live = s.pmx.live)))) ∧
    (s.pmx.live = false → ∀ n, s.drivesPin n = false) ∧
    (∀ f : Fin 2,
      (bitAt (s.pmx.feat f.val) 63 = true → s.crosses 0 16000000000 = true → exec (.ppsOutPulse f) s = .next (pulsing f.val s)) ∧
      (bitAt (s.pmx.feat f.val) 63 = false ∨ s.crosses 0 16000000000 = false → exec (.ppsOutPulse f) s = .next s)) ∧
    (∀ g : Fin 4,
      let w := s.pmx.feat (g.val + 2)
      let k := fld w 41 36
      let x := s.sch (sl (fld w 51 48))
      let e := x.gateCfg k (x.port k).gact
      (bitAt w 63 = true → x.listGoverns k (x.port k).gact = true → s.crosses e.base (max 1 e.cycle) = true → exec (.gateTrigPulse g) s = .next (pulsing (g.val + 2) s)) ∧
      (bitAt w 63 = false ∨ x.listGoverns k (x.port k).gact = false → exec (.gateTrigPulse g) s = .next s)) ∧
    (∀ n until_ : Nat, (n, until_) ∈ s.pmx.high → ∀ now : Nat,
      (until_ ≤ now → .pin (muxName n) false ∈ (pulsesFall now s).out ∧ (n, until_) ∉ (pulsesFall now s).pmx.high) ∧
      (now < until_ → (n, until_) ∈ (pulsesFall now s).pmx.high))

-- Fault sources, counters and Tally ------------------------------------------------------------------------------------------

/-- Source `id` of `unit` has signalled an event: LIVE for one PCLK cycle (R436); and, unless an event of the same PCLK cycle was its last rise, SEEN, ACTIVE and RAISE_COUNT as a rise leaves them (R437), with its reaction due. -/
def Sys2Proof.Claims.Raised (unit id : Nat) (s u : State) : Prop :=
  let x := s.src unit id
  let y := u.src unit id
  y.liveUntil = (s.uptime / 4 + 1) * 4 ∧ (x.lastRise ≠ some (s.uptime / 4) → y.seen = true ∧ y.active = true ∧ y.raised = satN 16 (x.raised + 1) ∧
    (x.active = false → x.reaction ≠ 0 → ⟨unit, id, false⟩ ∈ u.due))

/-- The message of vector `v` of PF `pf` has left, or is pending where the function or the vector is masked (R401, R451): nothing of it while MSI-X is disabled or the PF cannot send. -/
def Sys2Proof.Claims.Messaged (s : State) (pf v : Nat) (u : State) : Prop :=
  (s.pfn pf).msixOn = true → s.pfUsable pf = true →
    ((s.pfn pf).msixMask = false → ((s.pfn pf).vec v).masked = false → .msix pf v ∈ u.out) ∧
    (((s.pfn pf).msixMask = true ∨ ((s.pfn pf).vec v).masked = true) → ((u.pfn pf).vec v).pending = true)

/-- R436 to R438, R444 to R446, R450 to R452: a fault source.  An event raises it; once it has been quiet it lifts itself; a write of its register configures it, forces it, clears it, or is refused; the deferred interrupt is sent
once its interval has passed; a history read latches the entry's other words.  The effect of a lower-half write on QUIET is a free value (DESIGN CHOICE, log 31), and FAULT_RAISE leaves condition sources alone (log 30). -/
def Sys2Proof.Claims.SourcesRiseAndLift : Prop :=
  ∀ (s : State) (unit : Fin 17) (id : Fin 4096), Ready s →
    let x := s.src unit.val id.val
    let live := x.live id.val s.uptime
    let own := fun u : State => u.src unit.val id.val
    (∀ syn : Nat, id.val < 0xE00 →
      (unitHas unit.val id.val = true → conditionSource id.val = false → id.val ≠ 0x300 → id.val ≠ 0x301 → id.val ≠ 0x400 → id.val ≠ 0x504 → id.val ≠ 0x600 →
        (∀ i : Fin 16, unit.val = i.val → 0x100 ≤ id.val → id.val ≤ 0x13F → ((s.slice i).portOf (id.val - 0x100)).isSome = true) →
        Effect (.faultRaise unit id syn) s (Raised unit.val id.val s)) ∧
      (unitHas unit.val id.val = false ∨ conditionSource id.val = true → exec (.faultRaise unit id syn) s = .next s)) ∧
    (∀ t, x.quietFrom = some t → x.active = true → x.auto = true → live = false → fatalSource id.val = false → max t x.liveUntil + x.quietCycles ≤ s.uptime →
      Effect (.faultAutoLift unit id) s (fun u => (own u).active = false ∧ (own u).recover = satN 16 (x.recover + 1) ∧ (own u).quietFrom = none ∧ (x.reaction ≠ 0 → ⟨unit.val, id.val, true⟩ ∈ u.due))) ∧
    (x.quietFrom = none ∨ x.active = false ∨ live = true → exec (.faultAutoLift unit id) s = .next s) ∧
    (∀ (r : Requester) (h : Half) (w : Word), unitHas unit.val id.val = true → s.fltWriter unit.val r = true → h ≠ .low →
      let y := if h = .both then { x with quiet := fld w 51 32 } else x
      (badReaction id.val x w = true → exec (.fltSrcWrite r unit id h w) s = .next (took r (fltSrcOff unit.val id.val) h w (fltRefused unit.val s))) ∧
      (badReaction id.val x w = false → x.force = false →
        (bitAt w 59 = false → bitAt w 60 = false → Answers (.fltSrcWrite r unit id h w) s (fun u => own u = y.configured id.val s.uptime w)) ∧
        (bitAt w 59 = true → conditionSource id.val = false → Effect (.fltSrcWrite r unit id h w) s (fun u => (own u).force = true ∧ (own u).liveUntil = (s.uptime / 4 + 1) * 4 ∧ (own u).seen = true ∧
          (x.lastRise ≠ some (s.uptime / 4) → (own u).active = true))) ∧
        (bitAt w 59 = true → conditionSource id.val = true → x.cond = false → Effect (.fltSrcWrite r unit id h w) s (fun u => (own u).force = true ∧ (own u).seen = true ∧ (own u).active = true)) ∧
        (bitAt w 59 = false → bitAt w 60 = true → x.active = true → live = false → fatalSource id.val = false → Effect (.fltSrcWrite r unit id h w) s (fun u =>
          (own u).active = false ∧ (own u).recover = satN 16 (x.recover + 1))) ∧
        (bitAt w 59 = false → bitAt w 60 = true → x.active = true → live = true → Answers (.fltSrcWrite r unit id h w) s (fun u => own u = y.configured id.val s.uptime w)))) ∧
    (∀ (r : Requester) (w : Word), unitHas unit.val id.val = true →
      (s.fltWriter unit.val r = true → Answers (.fltSrcWrite r unit id .low w) s (fun u => ∃ n, n < 2 ^ 20 ∧ own u = { x with quiet := n })) ∧
      (s.fltWriter unit.val r = false → ∀ h, exec (.fltSrcWrite r unit id h w) s = .next s)) ∧
    (let f := s.fu unit.val
     let cfg := if unit.val < 16 then s.reg (sl unit.val) Reg.FLT_INT_CFG else s.greg Reg.DFLT_INT_CFG
     let pf := if unit.val < 16 then (s.slice (sl unit.val)).owner.val else s.deviceOwner
     (f.intWaits = true → (∀ t, f.lastInt = some t → t + 15000 ≤ s.uptime) → Answers (.faultInterruptDeferred unit) s (fun u =>
        u.fu unit.val = { f with intWaits := false, lastInt := (if bitAt cfg 63 then some s.uptime else none) } ∧ (bitAt cfg 63 = true → Messaged s pf (fld cfg 42 32) u) ∧
        (bitAt cfg 63 = false → u.out = s.out))) ∧
     (∀ t, f.intWaits = false ∨ (f.lastInt = some t ∧ s.uptime < t + 15000) → exec (.faultInterruptDeferred unit) s = .next s)) ∧
    (∀ (r : Requester) (e : Fin 64) (h : Half), (unit.val < 16 → s.mayReadSlice (sl unit.val) r = true) →
      let n := if unit.val < 16 then e.val % 32 else e.val
      let b := (s.fu unit.val).entryBytes (histDepth unit.val) n
      let off := (if unit.val < 16 then sliceOff (sl unit.val) (0xF8000 + 0x20 * n) else globalOff (0x88000 + 0x20 * n)) + (if h = .high then 4 else 0)
      Answers (.fltHistRead r unit e h) s (fun u => u.fu unit.val = { s.fu unit.val with latch1 := word (ofBytesLE (slice b 8 8)), latch2 := word (ofBytesLE (slice b 16 8)) } ∧
        u.out = .readData r off (partOf h (word (ofBytesLE (slice b 0 8)))) :: s.out))
/-- R439, R442, R443: what a fence does to its unit and a lift gives back (Table 17.4).  A reaction acts by its kind: a slice fence, or the fence of the source's target.  A fenced port is disabled as by DISABLE, a fenced fragment table empties,
a fenced channel is FENCED with its archive and its blocks lost, and the operations of ended threads on a fenced unit leave; a Near bank or a digest unit with others left needs no more than its bit.  No
copy crosses a fenced crossbar port.  On lift the fragment table starts empty, the channel trains with every region empty and a new Copybook run, the records that waited for a digest unit are written, and every other unit is as it was. -/
def Sys2Proof.Claims.FencesAndLifts : Prop :=
  ∀ (s : State) (i : Fin 16),
    (∀ (id : Nat) (lift : Bool),
      ((s.src i.val id).reaction = 2 → applyReaction i id lift s = if lift then liftUnit i .frag s else sliceFence i s) ∧
      ((s.src i.val id).reaction ≠ 2 → ∀ f, fenceTarget id = some f → applyReaction i id lift s = if lift then liftUnit i f s else fenceUnit i f s)) ∧
    (∀ k,
      (∀ p, (s.slice i).portOf k = some p → let u := fenceUnit i (.port k) s
        (u.lane i p).enabled = false ∧ (u.lane i p).pauseUntil = none ∧ (u.lane i p).draining = ((u.sch i).port p).tx.isSome ∧
        (((u.sch i).port p).tx = none → (u.lane i p).linkUp = false)) ∧
      ((s.slice i).portOf k = none → fenceUnit i (.port k) s = s)) ∧
    ((fenceUnit i .frag s).frg i).entries = [] ∧ ((fenceUnit i .frag s).frg i).waiting = [] ∧
    (∀ e ∈ [(FenceUnit.session, 3), (.rules, 4), (.meters, 5), (.seqCtrs, 6)], fenceUnit i e.1 s = fenceOps i [e.2] s) ∧
    (∀ n, (∀ e ∈ (s.slice i).threads, e.2.ops = []) → (fenceOps i [n] s).slice i = { s.slice i with orphans := (s.slice i).orphans.filter (fun o => !decide (o.op.unit = n)) }) ∧
    fenceUnit i .learn s = s ∧
    (∀ b, (s.slice i).nearFenced = false → fenceUnit i (.nearBank b) s = s) ∧
    (∀ u, (s.slice i).digestFenced = false → fenceUnit i (.digest u) s = s) ∧
    (let u := dramFence i s
     (u.dram i).state = .fenced ∧ (u.dram i).slots = [] ∧ (u.dram i).banks = [] ∧ (u.cpb i).blocks = [] ∧ (u.cpb i).opened = none ∧ (u.cpb i).closing = []) ∧
    (s.unitFenced i .xbr = true → ∀ j : Fin 16, j ≠ i → s.partition i = s.partition j → crossDrop s i j = 0x8D ∧ crossDrop s j i = 0x8D) ∧
    ((s.unitFenced i .frag = false → ((liftUnit i .frag s).frg i).entries = []) ∧ (s.unitFenced i .frag = true → liftUnit i .frag s = s)) ∧
    ((s.unitFenced i .ddr5 = false → let u := liftUnit i .ddr5 s
       (u.dram i).state = .training ∧ (u.dram i).slots = [] ∧ (u.dram i).scratch = [] ∧ (u.cpb i).blocks = [] ∧ (u.cpb i).nextBlock = 0 ∧ (u.cpb i).nextSeq = 0 ∧ (u.slice i).tbl.far = (s.slice i).tbl.far.emptied) ∧
     (s.unitFenced i .ddr5 = true → liftUnit i .ddr5 s = s)) ∧
    (∀ f, f ≠ .frag → f ≠ .ddr5 → (∀ u, f ≠ .digest u) → liftUnit i f s = s) ∧
    (∀ u, (s.slice i).digestFenced = false → liftUnit i (.digest u) s = flushReady i s)
/-- R436 to R446, R450 to R452: fault sources, and what fences and lifts do to their units. -/
def Obligations.FaultSources : Prop := Claims.SourcesRiseAndLift ∧ Claims.FencesAndLifts

/-- R456, R458 to R462: counters and Tally.  A deferred overflow interrupt is sent after its interval; a read of PMC_SMP0 takes the oldest sample and latches its words; a counter configuration that samples another event than 0x10
or 0x11 is discarded; a tick latches the listed registers or is skipped; the snapshot leaves with its header and HEAD advances; Tally registers are refused while EN is 1. -/
def Obligations.CountersAndTally : Prop :=
  ∀ s : State, Ready s →
    (∀ i : Fin 16,
      let p := (s.slice i).pmc
      (p.intWaits = true → (∀ t, p.lastInt = some t → t + 15000 ≤ s.uptime) → Answers (.pmcIntDeferred i) s (fun u => (u.slice i).pmc = { p with intWaits := false, lastInt := some s.uptime } ∧ OthersKept i s u ∧
        Messaged s (s.slice i).owner.val (fld (s.reg i Reg.PMC_CTRL) 42 32) u)) ∧
      (∀ t, p.intWaits = false ∨ (p.lastInt = some t ∧ s.uptime < t + 15000) → exec (.pmcIntDeferred i) s = .next s) ∧
      (∀ (r : Requester) (h : Half), s.mayReadSlice i r = true → let x := p.samples.headD 0
        Answers (.pmcSmp0Read i r h) s (fun u => (u.slice i).pmc = { p with samples := p.samples.drop 1, smp1 := word (x / 2 ^ 64), smp2 := word (x / 2 ^ 128), smp3 := word (x / 2 ^ 192) } ∧
          OthersKept i s u ∧ u.out = .readData r (sliceOff i Reg.PMC_SMP + (if h = .high then 4 else 0)) (partOf h (word x)) :: s.out)) ∧
      (∀ (r : Requester) (k : Fin 16) (h : Half) (w : Word), s.sliceWriter i r = true →
        let new := mergeWrite (s.reg i (pmcCfg k.val)) w h 0xE0FF00F8FFFFFFFF
        (bitAt new 62 = false ∨ fld new 55 48 = 0x10 ∨ fld new 55 48 = 0x11 → exec (.pmcCfgWrite i r k h w) s = .next (took r (sliceOff i (pmcCfg k.val)) h w (s.setReg i (pmcCfg k.val) new))) ∧
        (bitAt new 62 = true → fld new 55 48 ≠ 0x10 → fld new 55 48 ≠ 0x11 → exec (.pmcCfgWrite i r k h w) s = .next (took r (sliceOff i (pmcCfg k.val)) h w s)))) ∧
    (s.tallyDue = true →
      (s.tallyBlocked = false → Answers .tallyTick s (fun u => u.slices = s.slices ∧
        u.tally = (let x : Snapshot := { number := s.tally.number, skipped := s.tally.skipped, time := s.centralStamp, values := (latchList s.tlyLen 0 s).1 }
          { s.tally with number := s.tally.number + 1, skipped := false, writing := some x }))) ∧
      (s.tallyBlocked = true → Answers .tallyTick s (fun u => u.tally = { s.tally with number := s.tally.number + 1, skipped := true } ∧ u.greg Reg.TLY_COUNT = satAdd (s.greg Reg.TLY_COUNT) 31 16 1))) ∧
    (s.tallyDue = false → exec .tallyTick s = .next s) ∧
    (∀ x, s.tally.writing = some x → let a := (s.greg Reg.TLY_BASE).toNat + s.tally.head * (64 + 8 * x.values.length)
      Answers .tallySnapshotDone s (fun u => u.tally = { s.tally with writing := none, head := (s.tally.head + 1) % s.tlySlots, stopping := false } ∧ u.greg Reg.TLY_COUNT = satAdd (s.greg Reg.TLY_COUNT) 63 32 1 ∧
        u.slices = s.slices ∧ u.tlyCfg = (if s.tally.stopping then setFld s.tlyCfg 63 63 0 else s.tlyCfg) ∧ (bitAt s.tlyCfg 62 = true → Messaged s s.deviceOwner (fld s.tlyCfg 42 32) u) ∧
        (s.pfUsable s.deviceOwner = true → .dma s.deviceOwner a x.header ∈ u.out ∧ .dma s.deviceOwner (a + 64) (x.values.flatMap (fun v => bytesLE 8 v.toNat)) ∈ u.out))) ∧
    (s.tally.writing = none → exec .tallySnapshotDone s = .next s) ∧
    (∀ (r : Requester) (h : Half) (w : Word), s.globalWriter r = true →
      let wrote := fun (o : Nat) (rw : Nat) => (Host.Outcome.next (took r (globalOff o) h w (s.setGreg o (mergeWrite (s.greg o) w h rw))) : Answer)
      let refused := fun (o : Nat) => (Host.Outcome.next (took r (globalOff o) h w (s.gcount Reg.TLY_COUNT 15 0)) : Answer)
      exec (.tallyRegWrite r 4 h w) s = wrote Reg.TLY_TAIL 0xFFFF ∧
      (bitAt s.tlyCfg 63 = false → exec (.tallyRegWrite r 1 h w) s = wrote Reg.TLY_PERIOD 0xFFFFF ∧ exec (.tallyRegWrite r 2 h w) s = wrote Reg.TLY_BASE 0xFFFFFFFFFFFFF000) ∧
      (bitAt s.tlyCfg 63 = true → exec (.tallyRegWrite r 1 h w) s = refused Reg.TLY_PERIOD ∧ exec (.tallyRegWrite r 2 h w) s = refused Reg.TLY_BASE) ∧
      (∀ n : Fin 4096, let o := Reg.TLY_LIST + 8 * n.val
        let new := mergeWrite (s.greg o) w h 0x8000000007FFFFF8
        (bitAt s.tlyCfg 63 = false → tallyBars (fld new 26 3 * 8) = false → exec (.tallyRegWrite r (Fin.ofNat 8192 (4096 + n.val)) h w) s = wrote o 0x8000000007FFFFF8) ∧
        (bitAt s.tlyCfg 63 = true ∨ tallyBars (fld new 26 3 * 8) = true → exec (.tallyRegWrite r (Fin.ofNat 8192 (4096 + n.val)) h w) s = refused o)) ∧
      (let new := mergeWrite s.tlyCfg w h 0xC1F007FF1FFF0000
       (bitAt s.tlyCfg 63 = false → Answers (.tallyRegWrite r 0 h w) s (fun u => u.tlyCfg = new ∧ (bitAt new 63 = true → u.tally = { s.tally with head := 0, number := 0, skipped := false }) ∧
          (bitAt new 63 = false → u.tally = s.tally))) ∧
       (bitAt s.tlyCfg 63 = true → new = setFld s.tlyCfg 63 63 0 → Answers (.tallyRegWrite r 0 h w) s (fun u =>
          if s.tally.writing.isSome then u.tlyCfg = s.tlyCfg ∧ u.tally = { s.tally with stopping := true } else u.tlyCfg = new ∧ u.tally = s.tally)) ∧
       (bitAt s.tlyCfg 63 = true → new ≠ setFld s.tlyCfg 63 63 0 → exec (.tallyRegWrite r 0 h w) s = refused Reg.TLY_CFG)))
end

