-- ==== Sys2Proof/Laws/Bits.lean ====
section
/-!
SUPPORT. Bit fields: what a replaced field reads as, that the other fields stay, and the fields of a command word.
-/
namespace Sys2Proof.Machine
open Sys2Proof

theorem word_toNat (n : Nat) : (word n).toNat = n % 2 ^ 64 := by simp [word]

theorem testBit_block (n lo k : Nat) : ((2 ^ n - 1) * 2 ^ lo).testBit k = (decide (lo ≤ k) && decide (k < lo + n)) := by
  rw [Nat.testBit_mul_two_pow, Nat.testBit_two_pow_sub_one]
  by_cases h : lo ≤ k
  · simp only [h, decide_true, Bool.true_and, decide_eq_decide]; omega
  · simp [h]

theorem getLsbD_maskOf (hi lo k : Nat) : (maskOf hi lo).getLsbD k = (decide (k < 64) && (decide (lo ≤ k) && decide (k < lo + (hi + 1 - lo)))) := by
  simp only [maskOf, word, BitVec.getLsbD_ofNat, testBit_block]

theorem getLsbD_setFld (w : Word) (hi lo v k : Nat) : (setFld w hi lo v).getLsbD k =
    (decide (k < 64) && if lo ≤ k ∧ k ≤ hi then v.testBit (k - lo) else w.getLsbD k) := by
  simp only [setFld, BitVec.getLsbD_or, BitVec.getLsbD_and, BitVec.getLsbD_not, getLsbD_maskOf, word, BitVec.getLsbD_ofNat,
    Nat.testBit_mul_two_pow, Nat.testBit_mod_two_pow]
  by_cases h64 : k < 64
  · by_cases h1 : lo ≤ k
    · by_cases h2 : k ≤ hi
      · have a : k < lo + (hi + 1 - lo) := by omega
        have b : k - lo < hi + 1 - lo := by omega
        simp [h64, h1, h2, a, b]
      · have a : ¬ k < lo + (hi + 1 - lo) := by omega
        have b : ¬ k - lo < hi + 1 - lo := by omega
        simp [h64, h1, h2, a, b]
    · simp [h64, h1]
  · have := BitVec.getLsbD_of_ge w k (by omega)
    simp [h64, this]

theorem testBit_fld (w : Word) (hi lo k : Nat) : (fld w hi lo).testBit k = (decide (k < hi + 1 - lo) && w.getLsbD (lo + k)) := by
  simp only [fld, bitsOf, Nat.testBit_mod_two_pow, Nat.testBit_div_two_pow, BitVec.getLsbD, Nat.add_comm]

theorem bitAt_eq (w : Word) (k : Nat) : bitAt w k = w.getLsbD k := by
  simp only [bitAt, BitVec.getLsbD, Nat.testBit_eq_decide_div_mod_eq]
  by_cases h : w.toNat / 2 ^ k % 2 = 1 <;> simp [h]

/-- A replaced field reads as the value written. -/
theorem fld_setFld_self (w : Word) (hi lo v : Nat) (h : hi < 64) (hv : v < 2 ^ (hi + 1 - lo)) : fld (setFld w hi lo v) hi lo = v := by
  apply Nat.eq_of_testBit_eq
  intro k
  rw [testBit_fld, getLsbD_setFld]
  by_cases hk : k < hi + 1 - lo
  · have a : lo + k < 64 := by omega
    have b : lo + k ≤ hi := by omega
    simp [hk, a, b]
  · have c := Nat.testBit_lt_two_pow (Nat.lt_of_lt_of_le hv (Nat.pow_le_pow_right (n := 2) (by omega) (Nat.le_of_not_lt hk)))
    simp [hk, c]

/-- A field beside a replaced one reads as before. -/
theorem fld_setFld_ne (w : Word) (hi lo v a b : Nat) (h : hi < b ∨ a < lo) : fld (setFld w hi lo v) a b = fld w a b := by
  apply Nat.eq_of_testBit_eq
  intro k
  rw [testBit_fld, testBit_fld, getLsbD_setFld]
  by_cases hk : k < a + 1 - b
  · have c : ¬ (lo ≤ b + k ∧ b + k ≤ hi) := by omega
    simp only [c, if_false]
    by_cases h64 : b + k < 64
    · simp [h64]
    · have := BitVec.getLsbD_of_ge w (b + k) (by omega)
      simp [h64, this]
  · simp [hk]

theorem bitAt_setFld_ne (w : Word) (hi lo v k : Nat) (h : hi < k ∨ k < lo) : bitAt (setFld w hi lo v) k = bitAt w k := by
  rw [bitAt_eq, bitAt_eq, getLsbD_setFld]
  have c : ¬ (lo ≤ k ∧ k ≤ hi) := by omega
  simp only [c, if_false]
  by_cases h64 : k < 64
  · simp [h64]
  · have := BitVec.getLsbD_of_ge w k (by omega)
    simp [h64, this]

@[simp] theorem fld_withOp (w : Word) (op : Nat) (h : op < 16) : fld (withOp w op) 3 0 = op := fld_setFld_self w 3 0 op (by omega) h

theorem fld_withOp_ne (w : Word) (op hi lo : Nat) (h : 3 < lo) : fld (withOp w op) hi lo = fld w hi lo := fld_setFld_ne w 3 0 op hi lo (.inl h)

theorem bitAt_withOp_ne (w : Word) (op k : Nat) (h : 3 < k) : bitAt (withOp w op) k = bitAt w k := bitAt_setFld_ne w 3 0 op k (.inl h)

theorem fld_lt (w : Word) (hi lo : Nat) : fld w hi lo < 2 ^ (hi + 1 - lo) := Nat.mod_lt _ (Nat.two_pow_pos _)

end Sys2Proof.Machine
end

