-- ==== Sys2Proof/Laws/NMap.lean ====
section
/-!
SUPPORT. Sparse arrays: a read after a write, what a write leaves, and that every operation keeps the canonical form.
-/
namespace Sys2Proof.Machine

variable {β : Type}

@[simp] theorem NMap.get_erase_self (d : β) (m : NMap β) (k : Nat) : NMap.get d (NMap.erase m k) k = d := by
  induction m with
  | nil => rfl
  | cons e m ih =>
    obtain ⟨k', v⟩ := e
    simp only [NMap.erase]
    split
    · exact ih
    · rename_i h
      simp [NMap.get, h, ih]

@[simp] theorem NMap.look_erase_self (m : NMap β) (k : Nat) : NMap.look (NMap.erase m k) k = none := by
  induction m with
  | nil => rfl
  | cons e m ih =>
    obtain ⟨k', v⟩ := e
    simp only [NMap.erase]
    split
    · exact ih
    · rename_i h
      simp [NMap.look, h, ih]

@[simp] theorem NMap.get_insert_self (d : β) (m : NMap β) (k : Nat) (v : β) : NMap.get d (NMap.insert m k v) k = v := by
  induction m with
  | nil => simp [NMap.insert, NMap.get]
  | cons e m ih =>
    obtain ⟨k', v'⟩ := e
    simp only [NMap.insert]
    split
    · simp [NMap.get]
    · split
      · simp [NMap.get]
      · rename_i h _
        simp [NMap.get, h, ih]

theorem NMap.get_insert_ne (d : β) (m : NMap β) {k j : Nat} (v : β) (h : k ≠ j) :
    NMap.get d (NMap.insert m k v) j = NMap.get d m j := by
  induction m with
  | nil => simp [NMap.insert, NMap.get, h]
  | cons e m ih =>
    obtain ⟨k', v'⟩ := e
    simp only [NMap.insert]
    split
    · rename_i hk
      subst hk
      simp [NMap.get, h]
    · split
      · simp [NMap.get, h]
      · simp [NMap.get, ih]

theorem NMap.get_erase_ne (d : β) (m : NMap β) {k j : Nat} (h : k ≠ j) : NMap.get d (NMap.erase m k) j = NMap.get d m j := by
  induction m with
  | nil => rfl
  | cons e m ih =>
    obtain ⟨k', v'⟩ := e
    simp only [NMap.erase]
    split
    · rename_i hk
      subst hk
      simp [NMap.get, h, ih]
    · simp [NMap.get, ih]

/-- What a key holds after it is written. -/
@[simp] theorem NMap.get_set_self [DecidableEq β] (d : β) (m : NMap β) (k : Nat) (v : β) : NMap.get d (NMap.set d m k v) k = v := by
  unfold NMap.set
  split
  · rename_i hv
    subst hv
    exact NMap.get_erase_self _ m k
  · exact NMap.get_insert_self d m k v

/-- A write leaves every other key as it was. -/
theorem NMap.get_set_ne [DecidableEq β] (d d' : β) (m : NMap β) {k j : Nat} (v : β) (h : k ≠ j) :
    NMap.get d' (NMap.set d m k v) j = NMap.get d' m j := by
  unfold NMap.set
  split
  · exact NMap.get_erase_ne d' m h
  · exact NMap.get_insert_ne d' m v h

@[simp] theorem NMap.look_insert_self (m : NMap β) (k : Nat) (v : β) : NMap.look (NMap.insert m k v) k = some v := by
  induction m with
  | nil => simp [NMap.insert, NMap.look]
  | cons e m ih =>
    obtain ⟨k', v'⟩ := e
    simp only [NMap.insert]
    split
    · simp [NMap.look]
    · split
      · simp [NMap.look]
      · rename_i h _
        simp [NMap.look, h, ih]

theorem NMap.look_insert_ne (m : NMap β) {k j : Nat} (v : β) (h : k ≠ j) : NMap.look (NMap.insert m k v) j = NMap.look m j := by
  induction m with
  | nil => simp [NMap.insert, NMap.look, h]
  | cons e m ih =>
    obtain ⟨k', v'⟩ := e
    simp only [NMap.insert]
    split
    · rename_i hk
      subst hk
      simp [NMap.look, h]
    · split
      · simp [NMap.look, h]
      · simp [NMap.look, ih]

theorem NMap.look_erase_ne (m : NMap β) {k j : Nat} (h : k ≠ j) : NMap.look (NMap.erase m k) j = NMap.look m j := by
  induction m with
  | nil => rfl
  | cons e m ih =>
    obtain ⟨k', v'⟩ := e
    simp only [NMap.erase]
    split
    · rename_i hk
      subst hk
      simp [NMap.look, h, ih]
    · simp [NMap.look, ih]

/-- A change of every value is read as the change of the value read. -/
theorem NMap.get_mapKey [DecidableEq β] (d : β) (f : Nat → β → β) (m : NMap β) (k : Nat) (h : f k d = d) :
    NMap.get d (NMap.mapKey d f m) k = f k (NMap.get d m k) := by
  induction m with
  | nil => exact h.symm
  | cons e m ih =>
    obtain ⟨k', v'⟩ := e
    by_cases hk : k' = k
    · subst hk
      simp only [NMap.mapKey, NMap.get, if_true]
      split
      · rename_i hd
        rw [hd]
        exact NMap.get_erase_self d _ k'
      · simp [NMap.get]
    · simp only [NMap.mapKey, NMap.get, if_neg hk]
      split
      · rw [NMap.get_erase_ne d _ hk, ih]
      · simp [NMap.get, hk, ih]
theorem NMap.get_mapVal [DecidableEq β] (d : β) (f : β → β) (m : NMap β) (k : Nat) (h : f d = d) :
    NMap.get d (NMap.mapVal d f m) k = f (NMap.get d m k) := NMap.get_mapKey d (fun _ => f) m k h

-- The canonical form -----------------------------------------------------------------------------------------------

theorem NMap.above_insert {a k : Nat} (m : NMap β) (v : β) (h : NMap.above a m = true) (hk : a < k) :
    NMap.above a (NMap.insert m k v) = true := by
  induction m with
  | nil => simp [NMap.insert, NMap.above, hk]
  | cons e m ih =>
    obtain ⟨k', v'⟩ := e
    simp only [NMap.above, List.all_cons, Bool.and_eq_true, decide_eq_true_eq] at h ih
    simp only [NMap.insert]
    split
    · simp only [NMap.above, List.all_cons, Bool.and_eq_true, decide_eq_true_eq]
      exact ⟨hk, h.2⟩
    · split
      · simp only [NMap.above, List.all_cons, Bool.and_eq_true, decide_eq_true_eq]
        exact ⟨hk, h.1, h.2⟩
      · simp only [NMap.above, List.all_cons, Bool.and_eq_true, decide_eq_true_eq]
        exact ⟨h.1, ih h.2⟩

theorem NMap.above_erase {a : Nat} (m : NMap β) (k : Nat) (h : NMap.above a m = true) : NMap.above a (NMap.erase m k) = true := by
  induction m with
  | nil => rfl
  | cons e m ih =>
    obtain ⟨k', v'⟩ := e
    simp only [NMap.above, List.all_cons, Bool.and_eq_true, decide_eq_true_eq] at h ih
    simp only [NMap.erase]
    split
    · exact ih h.2
    · simp only [NMap.above, List.all_cons, Bool.and_eq_true, decide_eq_true_eq]
      exact ⟨h.1, ih h.2⟩

theorem NMap.above_of_lt {a k : Nat} (m : NMap β) (h : NMap.above k m = true) (hk : a < k) : NMap.above a m = true := by
  simp only [NMap.above, List.all_eq_true, decide_eq_true_eq] at h ⊢
  exact fun e he => Nat.lt_trans hk (h e he)

theorem NMap.wf_erase [DecidableEq β] (D : Nat → β) (m : NMap β) (k : Nat) (h : NMap.wf D m = true) : NMap.wf D (NMap.erase m k) = true := by
  induction m with
  | nil => rfl
  | cons e m ih =>
    obtain ⟨k', v'⟩ := e
    simp only [NMap.wf, Bool.and_eq_true] at h
    simp only [NMap.erase]
    split
    · exact ih h.2
    · simp only [NMap.wf, Bool.and_eq_true]
      exact ⟨⟨h.1.1, NMap.above_erase m k h.1.2⟩, ih h.2⟩

theorem NMap.wf_insert [DecidableEq β] (D : Nat → β) (m : NMap β) (k : Nat) (v : β) (h : NMap.wf D m = true) (hv : v ≠ D k) :
    NMap.wf D (NMap.insert m k v) = true := by
  induction m with
  | nil => simp [NMap.insert, NMap.wf, NMap.above, hv]
  | cons e m ih =>
    obtain ⟨k', v'⟩ := e
    simp only [NMap.wf, Bool.and_eq_true, decide_eq_true_eq] at h
    simp only [NMap.insert]
    split
    · rename_i hk
      subst hk
      simp only [NMap.wf, Bool.and_eq_true, decide_eq_true_eq]
      exact ⟨⟨hv, h.1.2⟩, h.2⟩
    · split
      · rename_i hk _
        simp only [NMap.wf, NMap.above, List.all_cons, Bool.and_eq_true, decide_eq_true_eq]
        exact ⟨⟨hv, by assumption, NMap.above_of_lt m h.1.2 (by assumption)⟩, h.1, h.2⟩
      · simp only [NMap.wf, Bool.and_eq_true, decide_eq_true_eq]
        exact ⟨⟨h.1.1, NMap.above_insert m v h.1.2 (by omega)⟩, ih h.2⟩

/-- Every write keeps the canonical form. -/
theorem NMap.wf_set [DecidableEq β] (D : Nat → β) (m : NMap β) (k : Nat) (v : β) (h : NMap.wf D m = true) :
    NMap.wf D (NMap.set (D k) m k v) = true := by
  unfold NMap.set
  split
  · exact NMap.wf_erase D m k h
  · rename_i hv
    exact NMap.wf_insert D m k v h hv

theorem NMap.above_mapKey [DecidableEq β] {a : Nat} (d : β) (f : Nat → β → β) (m : NMap β) (h : NMap.above a m = true) :
    NMap.above a (NMap.mapKey d f m) = true := by
  induction m with
  | nil => rfl
  | cons e m ih =>
    obtain ⟨k', v'⟩ := e
    simp only [NMap.above, List.all_cons, Bool.and_eq_true, decide_eq_true_eq] at h ih
    simp only [NMap.mapKey]
    split
    · exact NMap.above_erase _ k' (ih h.2)
    · simp only [NMap.above, List.all_cons, Bool.and_eq_true, decide_eq_true_eq]
      exact ⟨h.1, ih h.2⟩
/-- A change of every value keeps the canonical form. -/
theorem NMap.wf_mapKey [DecidableEq β] (d : β) (f : Nat → β → β) (m : NMap β) (h : NMap.wf (fun _ => d) m = true) :
    NMap.wf (fun _ => d) (NMap.mapKey d f m) = true := by
  induction m with
  | nil => rfl
  | cons e m ih =>
    obtain ⟨k', v'⟩ := e
    simp only [NMap.wf, Bool.and_eq_true, decide_eq_true_eq] at h
    simp only [NMap.mapKey]
    split
    · exact NMap.wf_erase _ _ k' (ih h.2)
    · rename_i hd
      simp only [NMap.wf, Bool.and_eq_true, decide_eq_true_eq]
      exact ⟨⟨hd, NMap.above_mapKey d f m h.1.2⟩, ih h.2⟩

end Sys2Proof.Machine
end

