-- ==== Sys2Proof/Laws/State.lean ====
section
/-!
SUPPORT. One lemma per field per update of the device's state, all true by `rfl`, so that no proof unfolds a record update; and
what an update of one slice leaves of the others.
-/
namespace Sys2Proof.Machine
open Sys2Proof

@[simp] theorem State.modSlice_pending (s : State) (i : Fin 16) (f : Slice → Slice) : (s.modSlice i f).pending = s.pending := rfl
@[simp] theorem State.modSlice_uptime (s : State) (i : Fin 16) (f : Slice → Slice) : (s.modSlice i f).uptime = s.uptime := rfl
@[simp] theorem State.modSlice_draws (s : State) (i : Fin 16) (f : Slice → Slice) : (s.modSlice i f).draws = s.draws := rfl
@[simp] theorem State.modSlice_nextId (s : State) (i : Fin 16) (f : Slice → Slice) : (s.modSlice i f).nextId = s.nextId := rfl
@[simp] theorem State.modSlice_out (s : State) (i : Fin 16) (f : Slice → Slice) : (s.modSlice i f).out = s.out := rfl
@[simp] theorem State.modSlice_due (s : State) (i : Fin 16) (f : Slice → Slice) : (s.modSlice i f).due = s.due := by rfl
@[simp] theorem State.modSlice_gregs (s : State) (i : Fin 16) (f : Slice → Slice) : (s.modSlice i f).gregs = s.gregs := rfl
@[simp] theorem State.modSlice_frames (s : State) (i : Fin 16) (f : Slice → Slice) : (s.modSlice i f).frames = s.frames := rfl
@[simp] theorem State.modSlice_core (s : State) (i : Fin 16) (f : Slice → Slice) : (s.modSlice i f).core = s.core := rfl
@[simp] theorem State.modSlice_pwrOk (s : State) (i : Fin 16) (f : Slice → Slice) : (s.modSlice i f).pwrOk = s.pwrOk := rfl
@[simp] theorem State.modSlice_rstCmd (s : State) (i : Fin 16) (f : Slice → Slice) : (s.modSlice i f).rstCmd = s.rstCmd := rfl
@[simp] theorem State.modSlice_lastCause (s : State) (i : Fin 16) (f : Slice → Slice) : (s.modSlice i f).lastCause = s.lastCause := rfl
@[simp] theorem State.modSlice_causeSeen (s : State) (i : Fin 16) (f : Slice → Slice) : (s.modSlice i f).causeSeen = s.causeSeen := rfl
@[simp] theorem State.modSlice_coreResets (s : State) (i : Fin 16) (f : Slice → Slice) : (s.modSlice i f).coreResets = s.coreResets := rfl
@[simp] theorem State.modSlice_fatalReset (s : State) (i : Fin 16) (f : Slice → Slice) : (s.modSlice i f).fatalReset = s.fatalReset := rfl
@[simp] theorem State.modSlice_straps (s : State) (i : Fin 16) (f : Slice → Slice) : (s.modSlice i f).straps = s.straps := rfl
@[simp] theorem State.modSlice_strapPins (s : State) (i : Fin 16) (f : Slice → Slice) : (s.modSlice i f).strapPins = s.strapPins := rfl
@[simp] theorem State.modSlice_rootLock (s : State) (i : Fin 16) (f : Slice → Slice) : (s.modSlice i f).rootLock = s.rootLock := rfl
@[simp] theorem State.modSlice_rootLoss (s : State) (i : Fin 16) (f : Slice → Slice) : (s.modSlice i f).rootLoss = s.rootLoss := rfl
@[simp] theorem State.modSlice_rootLossSeen (s : State) (i : Fin 16) (f : Slice → Slice) : (s.modSlice i f).rootLossSeen = s.rootLossSeen := rfl
@[simp] theorem State.modSlice_scribeLock (s : State) (i : Fin 16) (f : Slice → Slice) : (s.modSlice i f).scribeLock = s.scribeLock := rfl
@[simp] theorem State.modSlice_refPresent (s : State) (i : Fin 16) (f : Slice → Slice) : (s.modSlice i f).refPresent = s.refPresent := rfl
@[simp] theorem State.modSlice_cycle0 (s : State) (i : Fin 16) (f : Slice → Slice) : (s.modSlice i f).cycle0 = s.cycle0 := rfl
@[simp] theorem State.modSlice_arm (s : State) (i : Fin 16) (f : Slice → Slice) : (s.modSlice i f).arm = s.arm := rfl
@[simp] theorem State.modSlice_wdogExpired (s : State) (i : Fin 16) (f : Slice → Slice) : (s.modSlice i f).wdogExpired = s.wdogExpired := rfl
@[simp] theorem State.modSlice_armedAt (s : State) (i : Fin 16) (f : Slice → Slice) : (s.modSlice i f).armedAt = s.armedAt := rfl
@[simp] theorem State.modSlice_coolEnough (s : State) (i : Fin 16) (f : Slice → Slice) : (s.modSlice i f).coolEnough = s.coolEnough := rfl
@[simp] theorem State.modSlice_lastMarker (s : State) (i : Fin 16) (f : Slice → Slice) : (s.modSlice i f).lastMarker = s.lastMarker := rfl
@[simp] theorem State.modSlice_trf (s : State) (i : Fin 16) (f : Slice → Slice) : (s.modSlice i f).trf = s.trf := rfl
@[simp] theorem State.modSlice_xbrPending (s : State) (i : Fin 16) (f : Slice → Slice) : (s.modSlice i f).xbrPending = s.xbrPending := rfl
@[simp] theorem State.modSlice_xbrRefused (s : State) (i : Fin 16) (f : Slice → Slice) : (s.modSlice i f).xbrRefused = s.xbrRefused := rfl
@[simp] theorem State.modSlice_flt (s : State) (i : Fin 16) (f : Slice → Slice) : (s.modSlice i f).flt = s.flt := rfl
@[simp] theorem State.modSlice_fol (s : State) (i : Fin 16) (f : Slice → Slice) : (s.modSlice i f).fol = s.fol := rfl
@[simp] theorem State.modSlice_host (s : State) (i : Fin 16) (f : Slice → Slice) : (s.modSlice i f).host = s.host := rfl
@[simp] theorem State.modSlice_signer (s : State) (i : Fin 16) (f : Slice → Slice) : (s.modSlice i f).signer = s.signer := rfl
@[simp] theorem State.modSlice_scribe (s : State) (i : Fin 16) (f : Slice → Slice) : (s.modSlice i f).scribe = s.scribe := rfl
@[simp] theorem State.modSlice_pmx (s : State) (i : Fin 16) (f : Slice → Slice) : (s.modSlice i f).pmx = s.pmx := rfl
@[simp] theorem State.modSlice_lig (s : State) (i : Fin 16) (f : Slice → Slice) : (s.modSlice i f).lig = s.lig := rfl
@[simp] theorem State.modSlice_tally (s : State) (i : Fin 16) (f : Slice → Slice) : (s.modSlice i f).tally = s.tally := rfl
@[simp] theorem State.modSlice_railsOk (s : State) (i : Fin 16) (f : Slice → Slice) : (s.modSlice i f).railsOk = s.railsOk := rfl
@[simp] theorem State.modSlice_firstRise (s : State) (i : Fin 16) (f : Slice → Slice) : (s.modSlice i f).firstRise = s.firstRise := rfl
@[simp] theorem State.modSlice_resetAt (s : State) (i : Fin 16) (f : Slice → Slice) : (s.modSlice i f).resetAt = s.resetAt := rfl
@[simp] theorem State.modSlice_writes (s : State) (i : Fin 16) (f : Slice → Slice) : (s.modSlice i f).writes = s.writes := rfl

@[simp] theorem State.setGreg_pending (s : State) (o : Nat) (w : Word) : (s.setGreg o w).pending = s.pending := rfl
@[simp] theorem State.setGreg_uptime (s : State) (o : Nat) (w : Word) : (s.setGreg o w).uptime = s.uptime := rfl
@[simp] theorem State.setGreg_draws (s : State) (o : Nat) (w : Word) : (s.setGreg o w).draws = s.draws := rfl
@[simp] theorem State.setGreg_nextId (s : State) (o : Nat) (w : Word) : (s.setGreg o w).nextId = s.nextId := rfl
@[simp] theorem State.setGreg_out (s : State) (o : Nat) (w : Word) : (s.setGreg o w).out = s.out := rfl
@[simp] theorem State.setGreg_due (s : State) (o : Nat) (w : Word) : (s.setGreg o w).due = s.due := by rfl
@[simp] theorem State.setGreg_slices (s : State) (o : Nat) (w : Word) : (s.setGreg o w).slices = s.slices := rfl
@[simp] theorem State.setGreg_frames (s : State) (o : Nat) (w : Word) : (s.setGreg o w).frames = s.frames := rfl
@[simp] theorem State.setGreg_core (s : State) (o : Nat) (w : Word) : (s.setGreg o w).core = s.core := rfl
@[simp] theorem State.setGreg_pwrOk (s : State) (o : Nat) (w : Word) : (s.setGreg o w).pwrOk = s.pwrOk := rfl
@[simp] theorem State.setGreg_rstCmd (s : State) (o : Nat) (w : Word) : (s.setGreg o w).rstCmd = s.rstCmd := rfl
@[simp] theorem State.setGreg_lastCause (s : State) (o : Nat) (w : Word) : (s.setGreg o w).lastCause = s.lastCause := rfl
@[simp] theorem State.setGreg_causeSeen (s : State) (o : Nat) (w : Word) : (s.setGreg o w).causeSeen = s.causeSeen := rfl
@[simp] theorem State.setGreg_coreResets (s : State) (o : Nat) (w : Word) : (s.setGreg o w).coreResets = s.coreResets := rfl
@[simp] theorem State.setGreg_fatalReset (s : State) (o : Nat) (w : Word) : (s.setGreg o w).fatalReset = s.fatalReset := rfl
@[simp] theorem State.setGreg_straps (s : State) (o : Nat) (w : Word) : (s.setGreg o w).straps = s.straps := rfl
@[simp] theorem State.setGreg_strapPins (s : State) (o : Nat) (w : Word) : (s.setGreg o w).strapPins = s.strapPins := rfl
@[simp] theorem State.setGreg_rootLock (s : State) (o : Nat) (w : Word) : (s.setGreg o w).rootLock = s.rootLock := rfl
@[simp] theorem State.setGreg_rootLoss (s : State) (o : Nat) (w : Word) : (s.setGreg o w).rootLoss = s.rootLoss := rfl
@[simp] theorem State.setGreg_rootLossSeen (s : State) (o : Nat) (w : Word) : (s.setGreg o w).rootLossSeen = s.rootLossSeen := rfl
@[simp] theorem State.setGreg_scribeLock (s : State) (o : Nat) (w : Word) : (s.setGreg o w).scribeLock = s.scribeLock := rfl
@[simp] theorem State.setGreg_refPresent (s : State) (o : Nat) (w : Word) : (s.setGreg o w).refPresent = s.refPresent := rfl
@[simp] theorem State.setGreg_cycle0 (s : State) (o : Nat) (w : Word) : (s.setGreg o w).cycle0 = s.cycle0 := rfl
@[simp] theorem State.setGreg_arm (s : State) (o : Nat) (w : Word) : (s.setGreg o w).arm = s.arm := rfl
@[simp] theorem State.setGreg_wdogExpired (s : State) (o : Nat) (w : Word) : (s.setGreg o w).wdogExpired = s.wdogExpired := rfl
@[simp] theorem State.setGreg_armedAt (s : State) (o : Nat) (w : Word) : (s.setGreg o w).armedAt = s.armedAt := rfl
@[simp] theorem State.setGreg_coolEnough (s : State) (o : Nat) (w : Word) : (s.setGreg o w).coolEnough = s.coolEnough := rfl
@[simp] theorem State.setGreg_lastMarker (s : State) (o : Nat) (w : Word) : (s.setGreg o w).lastMarker = s.lastMarker := rfl
@[simp] theorem State.setGreg_trf (s : State) (o : Nat) (w : Word) : (s.setGreg o w).trf = s.trf := rfl
@[simp] theorem State.setGreg_xbrPending (s : State) (o : Nat) (w : Word) : (s.setGreg o w).xbrPending = s.xbrPending := rfl
@[simp] theorem State.setGreg_xbrRefused (s : State) (o : Nat) (w : Word) : (s.setGreg o w).xbrRefused = s.xbrRefused := rfl
@[simp] theorem State.setGreg_flt (s : State) (o : Nat) (w : Word) : (s.setGreg o w).flt = s.flt := rfl
@[simp] theorem State.setGreg_fol (s : State) (o : Nat) (w : Word) : (s.setGreg o w).fol = s.fol := rfl
@[simp] theorem State.setGreg_host (s : State) (o : Nat) (w : Word) : (s.setGreg o w).host = s.host := rfl
@[simp] theorem State.setGreg_signer (s : State) (o : Nat) (w : Word) : (s.setGreg o w).signer = s.signer := rfl
@[simp] theorem State.setGreg_scribe (s : State) (o : Nat) (w : Word) : (s.setGreg o w).scribe = s.scribe := rfl
@[simp] theorem State.setGreg_pmx (s : State) (o : Nat) (w : Word) : (s.setGreg o w).pmx = s.pmx := rfl
@[simp] theorem State.setGreg_lig (s : State) (o : Nat) (w : Word) : (s.setGreg o w).lig = s.lig := rfl
@[simp] theorem State.setGreg_tally (s : State) (o : Nat) (w : Word) : (s.setGreg o w).tally = s.tally := rfl
@[simp] theorem State.setGreg_railsOk (s : State) (o : Nat) (w : Word) : (s.setGreg o w).railsOk = s.railsOk := rfl
@[simp] theorem State.setGreg_firstRise (s : State) (o : Nat) (w : Word) : (s.setGreg o w).firstRise = s.firstRise := rfl
@[simp] theorem State.setGreg_resetAt (s : State) (o : Nat) (w : Word) : (s.setGreg o w).resetAt = s.resetAt := rfl
@[simp] theorem State.setGreg_writes (s : State) (o : Nat) (w : Word) : (s.setGreg o w).writes = s.writes := rfl

@[simp] theorem State.draw_pending (s : State) : s.draw.2.pending = s.pending := rfl
@[simp] theorem State.draw_uptime (s : State) : s.draw.2.uptime = s.uptime := rfl
@[simp] theorem State.draw_nextId (s : State) : s.draw.2.nextId = s.nextId := rfl
@[simp] theorem State.draw_out (s : State) : s.draw.2.out = s.out := rfl
@[simp] theorem State.draw_due (s : State) : s.draw.2.due = s.due := by rfl
@[simp] theorem State.draw_gregs (s : State) : s.draw.2.gregs = s.gregs := rfl
@[simp] theorem State.draw_slices (s : State) : s.draw.2.slices = s.slices := rfl
@[simp] theorem State.draw_frames (s : State) : s.draw.2.frames = s.frames := rfl
@[simp] theorem State.draw_core (s : State) : s.draw.2.core = s.core := rfl
@[simp] theorem State.draw_pwrOk (s : State) : s.draw.2.pwrOk = s.pwrOk := rfl
@[simp] theorem State.draw_rstCmd (s : State) : s.draw.2.rstCmd = s.rstCmd := rfl
@[simp] theorem State.draw_lastCause (s : State) : s.draw.2.lastCause = s.lastCause := rfl
@[simp] theorem State.draw_causeSeen (s : State) : s.draw.2.causeSeen = s.causeSeen := rfl
@[simp] theorem State.draw_coreResets (s : State) : s.draw.2.coreResets = s.coreResets := rfl
@[simp] theorem State.draw_fatalReset (s : State) : s.draw.2.fatalReset = s.fatalReset := rfl
@[simp] theorem State.draw_straps (s : State) : s.draw.2.straps = s.straps := rfl
@[simp] theorem State.draw_strapPins (s : State) : s.draw.2.strapPins = s.strapPins := rfl
@[simp] theorem State.draw_rootLock (s : State) : s.draw.2.rootLock = s.rootLock := rfl
@[simp] theorem State.draw_rootLoss (s : State) : s.draw.2.rootLoss = s.rootLoss := rfl
@[simp] theorem State.draw_rootLossSeen (s : State) : s.draw.2.rootLossSeen = s.rootLossSeen := rfl
@[simp] theorem State.draw_scribeLock (s : State) : s.draw.2.scribeLock = s.scribeLock := rfl
@[simp] theorem State.draw_refPresent (s : State) : s.draw.2.refPresent = s.refPresent := rfl
@[simp] theorem State.draw_cycle0 (s : State) : s.draw.2.cycle0 = s.cycle0 := rfl
@[simp] theorem State.draw_arm (s : State) : s.draw.2.arm = s.arm := rfl
@[simp] theorem State.draw_wdogExpired (s : State) : s.draw.2.wdogExpired = s.wdogExpired := rfl
@[simp] theorem State.draw_armedAt (s : State) : s.draw.2.armedAt = s.armedAt := rfl
@[simp] theorem State.draw_coolEnough (s : State) : s.draw.2.coolEnough = s.coolEnough := rfl
@[simp] theorem State.draw_lastMarker (s : State) : s.draw.2.lastMarker = s.lastMarker := rfl
@[simp] theorem State.draw_trf (s : State) : s.draw.2.trf = s.trf := rfl
@[simp] theorem State.draw_xbrPending (s : State) : s.draw.2.xbrPending = s.xbrPending := rfl
@[simp] theorem State.draw_xbrRefused (s : State) : s.draw.2.xbrRefused = s.xbrRefused := rfl
@[simp] theorem State.draw_flt (s : State) : s.draw.2.flt = s.flt := rfl
@[simp] theorem State.draw_fol (s : State) : s.draw.2.fol = s.fol := rfl
@[simp] theorem State.draw_host (s : State) : s.draw.2.host = s.host := rfl
@[simp] theorem State.draw_signer (s : State) : s.draw.2.signer = s.signer := rfl
@[simp] theorem State.draw_scribe (s : State) : s.draw.2.scribe = s.scribe := rfl
@[simp] theorem State.draw_pmx (s : State) : s.draw.2.pmx = s.pmx := rfl
@[simp] theorem State.draw_lig (s : State) : s.draw.2.lig = s.lig := rfl
@[simp] theorem State.draw_tally (s : State) : s.draw.2.tally = s.tally := rfl
@[simp] theorem State.draw_railsOk (s : State) : s.draw.2.railsOk = s.railsOk := rfl
@[simp] theorem State.draw_firstRise (s : State) : s.draw.2.firstRise = s.firstRise := rfl
@[simp] theorem State.draw_resetAt (s : State) : s.draw.2.resetAt = s.resetAt := rfl
@[simp] theorem State.draw_writes (s : State) : s.draw.2.writes = s.writes := rfl

@[simp] theorem State.emit_pending (s : State) (x : Out) : (s.emit x).pending = s.pending := rfl
@[simp] theorem State.emit_uptime (s : State) (x : Out) : (s.emit x).uptime = s.uptime := rfl
@[simp] theorem State.emit_draws (s : State) (x : Out) : (s.emit x).draws = s.draws := rfl
@[simp] theorem State.emit_nextId (s : State) (x : Out) : (s.emit x).nextId = s.nextId := rfl
@[simp] theorem State.emit_due (s : State) (x : Out) : (s.emit x).due = s.due := by rfl
@[simp] theorem State.emit_gregs (s : State) (x : Out) : (s.emit x).gregs = s.gregs := rfl
@[simp] theorem State.emit_slices (s : State) (x : Out) : (s.emit x).slices = s.slices := rfl
@[simp] theorem State.emit_frames (s : State) (x : Out) : (s.emit x).frames = s.frames := rfl
@[simp] theorem State.emit_core (s : State) (x : Out) : (s.emit x).core = s.core := rfl
@[simp] theorem State.emit_pwrOk (s : State) (x : Out) : (s.emit x).pwrOk = s.pwrOk := rfl
@[simp] theorem State.emit_rstCmd (s : State) (x : Out) : (s.emit x).rstCmd = s.rstCmd := rfl
@[simp] theorem State.emit_lastCause (s : State) (x : Out) : (s.emit x).lastCause = s.lastCause := rfl
@[simp] theorem State.emit_causeSeen (s : State) (x : Out) : (s.emit x).causeSeen = s.causeSeen := rfl
@[simp] theorem State.emit_coreResets (s : State) (x : Out) : (s.emit x).coreResets = s.coreResets := rfl
@[simp] theorem State.emit_fatalReset (s : State) (x : Out) : (s.emit x).fatalReset = s.fatalReset := rfl
@[simp] theorem State.emit_straps (s : State) (x : Out) : (s.emit x).straps = s.straps := rfl
@[simp] theorem State.emit_strapPins (s : State) (x : Out) : (s.emit x).strapPins = s.strapPins := rfl
@[simp] theorem State.emit_rootLock (s : State) (x : Out) : (s.emit x).rootLock = s.rootLock := rfl
@[simp] theorem State.emit_rootLoss (s : State) (x : Out) : (s.emit x).rootLoss = s.rootLoss := rfl
@[simp] theorem State.emit_rootLossSeen (s : State) (x : Out) : (s.emit x).rootLossSeen = s.rootLossSeen := rfl
@[simp] theorem State.emit_scribeLock (s : State) (x : Out) : (s.emit x).scribeLock = s.scribeLock := rfl
@[simp] theorem State.emit_refPresent (s : State) (x : Out) : (s.emit x).refPresent = s.refPresent := rfl
@[simp] theorem State.emit_cycle0 (s : State) (x : Out) : (s.emit x).cycle0 = s.cycle0 := rfl
@[simp] theorem State.emit_arm (s : State) (x : Out) : (s.emit x).arm = s.arm := rfl
@[simp] theorem State.emit_wdogExpired (s : State) (x : Out) : (s.emit x).wdogExpired = s.wdogExpired := rfl
@[simp] theorem State.emit_armedAt (s : State) (x : Out) : (s.emit x).armedAt = s.armedAt := rfl
@[simp] theorem State.emit_coolEnough (s : State) (x : Out) : (s.emit x).coolEnough = s.coolEnough := rfl
@[simp] theorem State.emit_lastMarker (s : State) (x : Out) : (s.emit x).lastMarker = s.lastMarker := rfl
@[simp] theorem State.emit_trf (s : State) (x : Out) : (s.emit x).trf = s.trf := rfl
@[simp] theorem State.emit_xbrPending (s : State) (x : Out) : (s.emit x).xbrPending = s.xbrPending := rfl
@[simp] theorem State.emit_xbrRefused (s : State) (x : Out) : (s.emit x).xbrRefused = s.xbrRefused := rfl
@[simp] theorem State.emit_flt (s : State) (x : Out) : (s.emit x).flt = s.flt := rfl
@[simp] theorem State.emit_fol (s : State) (x : Out) : (s.emit x).fol = s.fol := rfl
@[simp] theorem State.emit_host (s : State) (x : Out) : (s.emit x).host = s.host := rfl
@[simp] theorem State.emit_signer (s : State) (x : Out) : (s.emit x).signer = s.signer := rfl
@[simp] theorem State.emit_scribe (s : State) (x : Out) : (s.emit x).scribe = s.scribe := rfl
@[simp] theorem State.emit_pmx (s : State) (x : Out) : (s.emit x).pmx = s.pmx := rfl
@[simp] theorem State.emit_lig (s : State) (x : Out) : (s.emit x).lig = s.lig := rfl
@[simp] theorem State.emit_tally (s : State) (x : Out) : (s.emit x).tally = s.tally := rfl
@[simp] theorem State.emit_railsOk (s : State) (x : Out) : (s.emit x).railsOk = s.railsOk := rfl
@[simp] theorem State.emit_firstRise (s : State) (x : Out) : (s.emit x).firstRise = s.firstRise := rfl
@[simp] theorem State.emit_resetAt (s : State) (x : Out) : (s.emit x).resetAt = s.resetAt := rfl
@[simp] theorem State.emit_writes (s : State) (x : Out) : (s.emit x).writes = s.writes := rfl

@[simp] theorem State.reply_pending (s : State) (r : Requester) (o : Nat) (w : Word) : (s.reply r o w).pending = s.pending := rfl
@[simp] theorem State.reply_uptime (s : State) (r : Requester) (o : Nat) (w : Word) : (s.reply r o w).uptime = s.uptime := rfl
@[simp] theorem State.reply_draws (s : State) (r : Requester) (o : Nat) (w : Word) : (s.reply r o w).draws = s.draws := rfl
@[simp] theorem State.reply_nextId (s : State) (r : Requester) (o : Nat) (w : Word) : (s.reply r o w).nextId = s.nextId := rfl
@[simp] theorem State.reply_due (s : State) (r : Requester) (o : Nat) (w : Word) : (s.reply r o w).due = s.due := by rfl
@[simp] theorem State.reply_gregs (s : State) (r : Requester) (o : Nat) (w : Word) : (s.reply r o w).gregs = s.gregs := rfl
@[simp] theorem State.reply_slices (s : State) (r : Requester) (o : Nat) (w : Word) : (s.reply r o w).slices = s.slices := rfl
@[simp] theorem State.reply_frames (s : State) (r : Requester) (o : Nat) (w : Word) : (s.reply r o w).frames = s.frames := rfl
@[simp] theorem State.reply_core (s : State) (r : Requester) (o : Nat) (w : Word) : (s.reply r o w).core = s.core := rfl
@[simp] theorem State.reply_pwrOk (s : State) (r : Requester) (o : Nat) (w : Word) : (s.reply r o w).pwrOk = s.pwrOk := rfl
@[simp] theorem State.reply_rstCmd (s : State) (r : Requester) (o : Nat) (w : Word) : (s.reply r o w).rstCmd = s.rstCmd := rfl
@[simp] theorem State.reply_lastCause (s : State) (r : Requester) (o : Nat) (w : Word) : (s.reply r o w).lastCause = s.lastCause := rfl
@[simp] theorem State.reply_causeSeen (s : State) (r : Requester) (o : Nat) (w : Word) : (s.reply r o w).causeSeen = s.causeSeen := rfl
@[simp] theorem State.reply_coreResets (s : State) (r : Requester) (o : Nat) (w : Word) : (s.reply r o w).coreResets = s.coreResets := rfl
@[simp] theorem State.reply_fatalReset (s : State) (r : Requester) (o : Nat) (w : Word) : (s.reply r o w).fatalReset = s.fatalReset := rfl
@[simp] theorem State.reply_straps (s : State) (r : Requester) (o : Nat) (w : Word) : (s.reply r o w).straps = s.straps := rfl
@[simp] theorem State.reply_strapPins (s : State) (r : Requester) (o : Nat) (w : Word) : (s.reply r o w).strapPins = s.strapPins := rfl
@[simp] theorem State.reply_rootLock (s : State) (r : Requester) (o : Nat) (w : Word) : (s.reply r o w).rootLock = s.rootLock := rfl
@[simp] theorem State.reply_rootLoss (s : State) (r : Requester) (o : Nat) (w : Word) : (s.reply r o w).rootLoss = s.rootLoss := rfl
@[simp] theorem State.reply_rootLossSeen (s : State) (r : Requester) (o : Nat) (w : Word) : (s.reply r o w).rootLossSeen = s.rootLossSeen := rfl
@[simp] theorem State.reply_scribeLock (s : State) (r : Requester) (o : Nat) (w : Word) : (s.reply r o w).scribeLock = s.scribeLock := rfl
@[simp] theorem State.reply_refPresent (s : State) (r : Requester) (o : Nat) (w : Word) : (s.reply r o w).refPresent = s.refPresent := rfl
@[simp] theorem State.reply_cycle0 (s : State) (r : Requester) (o : Nat) (w : Word) : (s.reply r o w).cycle0 = s.cycle0 := rfl
@[simp] theorem State.reply_arm (s : State) (r : Requester) (o : Nat) (w : Word) : (s.reply r o w).arm = s.arm := rfl
@[simp] theorem State.reply_wdogExpired (s : State) (r : Requester) (o : Nat) (w : Word) : (s.reply r o w).wdogExpired = s.wdogExpired := rfl
@[simp] theorem State.reply_armedAt (s : State) (r : Requester) (o : Nat) (w : Word) : (s.reply r o w).armedAt = s.armedAt := rfl
@[simp] theorem State.reply_coolEnough (s : State) (r : Requester) (o : Nat) (w : Word) : (s.reply r o w).coolEnough = s.coolEnough := rfl
@[simp] theorem State.reply_lastMarker (s : State) (r : Requester) (o : Nat) (w : Word) : (s.reply r o w).lastMarker = s.lastMarker := rfl
@[simp] theorem State.reply_trf (s : State) (r : Requester) (o : Nat) (w : Word) : (s.reply r o w).trf = s.trf := rfl
@[simp] theorem State.reply_xbrPending (s : State) (r : Requester) (o : Nat) (w : Word) : (s.reply r o w).xbrPending = s.xbrPending := rfl
@[simp] theorem State.reply_xbrRefused (s : State) (r : Requester) (o : Nat) (w : Word) : (s.reply r o w).xbrRefused = s.xbrRefused := rfl
@[simp] theorem State.reply_flt (s : State) (r : Requester) (o : Nat) (w : Word) : (s.reply r o w).flt = s.flt := rfl
@[simp] theorem State.reply_fol (s : State) (r : Requester) (o : Nat) (w : Word) : (s.reply r o w).fol = s.fol := rfl
@[simp] theorem State.reply_host (s : State) (r : Requester) (o : Nat) (w : Word) : (s.reply r o w).host = s.host := rfl
@[simp] theorem State.reply_signer (s : State) (r : Requester) (o : Nat) (w : Word) : (s.reply r o w).signer = s.signer := rfl
@[simp] theorem State.reply_scribe (s : State) (r : Requester) (o : Nat) (w : Word) : (s.reply r o w).scribe = s.scribe := rfl
@[simp] theorem State.reply_pmx (s : State) (r : Requester) (o : Nat) (w : Word) : (s.reply r o w).pmx = s.pmx := rfl
@[simp] theorem State.reply_lig (s : State) (r : Requester) (o : Nat) (w : Word) : (s.reply r o w).lig = s.lig := rfl
@[simp] theorem State.reply_tally (s : State) (r : Requester) (o : Nat) (w : Word) : (s.reply r o w).tally = s.tally := rfl
@[simp] theorem State.reply_railsOk (s : State) (r : Requester) (o : Nat) (w : Word) : (s.reply r o w).railsOk = s.railsOk := rfl
@[simp] theorem State.reply_firstRise (s : State) (r : Requester) (o : Nat) (w : Word) : (s.reply r o w).firstRise = s.firstRise := rfl
@[simp] theorem State.reply_resetAt (s : State) (r : Requester) (o : Nat) (w : Word) : (s.reply r o w).resetAt = s.resetAt := rfl
@[simp] theorem State.reply_writes (s : State) (r : Requester) (o : Nat) (w : Word) : (s.reply r o w).writes = s.writes := rfl

@[simp] theorem State.modScribe_pending (s : State) (f : Scribe → Scribe) : (s.modScribe f).pending = s.pending := rfl
@[simp] theorem State.modScribe_uptime (s : State) (f : Scribe → Scribe) : (s.modScribe f).uptime = s.uptime := rfl
@[simp] theorem State.modScribe_draws (s : State) (f : Scribe → Scribe) : (s.modScribe f).draws = s.draws := rfl
@[simp] theorem State.modScribe_nextId (s : State) (f : Scribe → Scribe) : (s.modScribe f).nextId = s.nextId := rfl
@[simp] theorem State.modScribe_out (s : State) (f : Scribe → Scribe) : (s.modScribe f).out = s.out := rfl
@[simp] theorem State.modScribe_due (s : State) (f : Scribe → Scribe) : (s.modScribe f).due = s.due := by rfl
@[simp] theorem State.modScribe_gregs (s : State) (f : Scribe → Scribe) : (s.modScribe f).gregs = s.gregs := rfl
@[simp] theorem State.modScribe_slices (s : State) (f : Scribe → Scribe) : (s.modScribe f).slices = s.slices := rfl
@[simp] theorem State.modScribe_frames (s : State) (f : Scribe → Scribe) : (s.modScribe f).frames = s.frames := rfl
@[simp] theorem State.modScribe_core (s : State) (f : Scribe → Scribe) : (s.modScribe f).core = s.core := rfl
@[simp] theorem State.modScribe_pwrOk (s : State) (f : Scribe → Scribe) : (s.modScribe f).pwrOk = s.pwrOk := rfl
@[simp] theorem State.modScribe_rstCmd (s : State) (f : Scribe → Scribe) : (s.modScribe f).rstCmd = s.rstCmd := rfl
@[simp] theorem State.modScribe_lastCause (s : State) (f : Scribe → Scribe) : (s.modScribe f).lastCause = s.lastCause := rfl
@[simp] theorem State.modScribe_causeSeen (s : State) (f : Scribe → Scribe) : (s.modScribe f).causeSeen = s.causeSeen := rfl
@[simp] theorem State.modScribe_coreResets (s : State) (f : Scribe → Scribe) : (s.modScribe f).coreResets = s.coreResets := rfl
@[simp] theorem State.modScribe_fatalReset (s : State) (f : Scribe → Scribe) : (s.modScribe f).fatalReset = s.fatalReset := rfl
@[simp] theorem State.modScribe_straps (s : State) (f : Scribe → Scribe) : (s.modScribe f).straps = s.straps := rfl
@[simp] theorem State.modScribe_strapPins (s : State) (f : Scribe → Scribe) : (s.modScribe f).strapPins = s.strapPins := rfl
@[simp] theorem State.modScribe_rootLock (s : State) (f : Scribe → Scribe) : (s.modScribe f).rootLock = s.rootLock := rfl
@[simp] theorem State.modScribe_rootLoss (s : State) (f : Scribe → Scribe) : (s.modScribe f).rootLoss = s.rootLoss := rfl
@[simp] theorem State.modScribe_rootLossSeen (s : State) (f : Scribe → Scribe) : (s.modScribe f).rootLossSeen = s.rootLossSeen := rfl
@[simp] theorem State.modScribe_scribeLock (s : State) (f : Scribe → Scribe) : (s.modScribe f).scribeLock = s.scribeLock := rfl
@[simp] theorem State.modScribe_refPresent (s : State) (f : Scribe → Scribe) : (s.modScribe f).refPresent = s.refPresent := rfl
@[simp] theorem State.modScribe_cycle0 (s : State) (f : Scribe → Scribe) : (s.modScribe f).cycle0 = s.cycle0 := rfl
@[simp] theorem State.modScribe_arm (s : State) (f : Scribe → Scribe) : (s.modScribe f).arm = s.arm := rfl
@[simp] theorem State.modScribe_wdogExpired (s : State) (f : Scribe → Scribe) : (s.modScribe f).wdogExpired = s.wdogExpired := rfl
@[simp] theorem State.modScribe_armedAt (s : State) (f : Scribe → Scribe) : (s.modScribe f).armedAt = s.armedAt := rfl
@[simp] theorem State.modScribe_coolEnough (s : State) (f : Scribe → Scribe) : (s.modScribe f).coolEnough = s.coolEnough := rfl
@[simp] theorem State.modScribe_lastMarker (s : State) (f : Scribe → Scribe) : (s.modScribe f).lastMarker = s.lastMarker := rfl
@[simp] theorem State.modScribe_trf (s : State) (f : Scribe → Scribe) : (s.modScribe f).trf = s.trf := rfl
@[simp] theorem State.modScribe_xbrPending (s : State) (f : Scribe → Scribe) : (s.modScribe f).xbrPending = s.xbrPending := rfl
@[simp] theorem State.modScribe_xbrRefused (s : State) (f : Scribe → Scribe) : (s.modScribe f).xbrRefused = s.xbrRefused := rfl
@[simp] theorem State.modScribe_flt (s : State) (f : Scribe → Scribe) : (s.modScribe f).flt = s.flt := rfl
@[simp] theorem State.modScribe_fol (s : State) (f : Scribe → Scribe) : (s.modScribe f).fol = s.fol := rfl
@[simp] theorem State.modScribe_host (s : State) (f : Scribe → Scribe) : (s.modScribe f).host = s.host := rfl
@[simp] theorem State.modScribe_signer (s : State) (f : Scribe → Scribe) : (s.modScribe f).signer = s.signer := rfl
@[simp] theorem State.modScribe_pmx (s : State) (f : Scribe → Scribe) : (s.modScribe f).pmx = s.pmx := rfl
@[simp] theorem State.modScribe_lig (s : State) (f : Scribe → Scribe) : (s.modScribe f).lig = s.lig := rfl
@[simp] theorem State.modScribe_tally (s : State) (f : Scribe → Scribe) : (s.modScribe f).tally = s.tally := rfl
@[simp] theorem State.modScribe_railsOk (s : State) (f : Scribe → Scribe) : (s.modScribe f).railsOk = s.railsOk := rfl
@[simp] theorem State.modScribe_firstRise (s : State) (f : Scribe → Scribe) : (s.modScribe f).firstRise = s.firstRise := rfl
@[simp] theorem State.modScribe_resetAt (s : State) (f : Scribe → Scribe) : (s.modScribe f).resetAt = s.resetAt := rfl
@[simp] theorem State.modScribe_writes (s : State) (f : Scribe → Scribe) : (s.modScribe f).writes = s.writes := rfl

@[simp] theorem noteWrite_pending (r : Requester) (o : Nat) (h : Half) (w : Word) (s : State) : (noteWrite r o h w s).pending = s.pending := by unfold noteWrite; split <;> rfl
@[simp] theorem noteWrite_uptime (r : Requester) (o : Nat) (h : Half) (w : Word) (s : State) : (noteWrite r o h w s).uptime = s.uptime := by unfold noteWrite; split <;> rfl
@[simp] theorem noteWrite_draws (r : Requester) (o : Nat) (h : Half) (w : Word) (s : State) : (noteWrite r o h w s).draws = s.draws := by unfold noteWrite; split <;> rfl
@[simp] theorem noteWrite_nextId (r : Requester) (o : Nat) (h : Half) (w : Word) (s : State) : (noteWrite r o h w s).nextId = s.nextId := by unfold noteWrite; split <;> rfl
@[simp] theorem noteWrite_out (r : Requester) (o : Nat) (h : Half) (w : Word) (s : State) : (noteWrite r o h w s).out = s.out := by unfold noteWrite; split <;> rfl
@[simp] theorem noteWrite_due (r : Requester) (o : Nat) (h : Half) (w : Word) (s : State) : (noteWrite r o h w s).due = s.due := by unfold noteWrite; split <;> rfl
@[simp] theorem noteWrite_gregs (r : Requester) (o : Nat) (h : Half) (w : Word) (s : State) : (noteWrite r o h w s).gregs = s.gregs := by unfold noteWrite; split <;> rfl
@[simp] theorem noteWrite_slices (r : Requester) (o : Nat) (h : Half) (w : Word) (s : State) : (noteWrite r o h w s).slices = s.slices := by unfold noteWrite; split <;> rfl
@[simp] theorem noteWrite_frames (r : Requester) (o : Nat) (h : Half) (w : Word) (s : State) : (noteWrite r o h w s).frames = s.frames := by unfold noteWrite; split <;> rfl
@[simp] theorem noteWrite_core (r : Requester) (o : Nat) (h : Half) (w : Word) (s : State) : (noteWrite r o h w s).core = s.core := by unfold noteWrite; split <;> rfl
@[simp] theorem noteWrite_pwrOk (r : Requester) (o : Nat) (h : Half) (w : Word) (s : State) : (noteWrite r o h w s).pwrOk = s.pwrOk := by unfold noteWrite; split <;> rfl
@[simp] theorem noteWrite_rstCmd (r : Requester) (o : Nat) (h : Half) (w : Word) (s : State) : (noteWrite r o h w s).rstCmd = s.rstCmd := by unfold noteWrite; split <;> rfl
@[simp] theorem noteWrite_lastCause (r : Requester) (o : Nat) (h : Half) (w : Word) (s : State) : (noteWrite r o h w s).lastCause = s.lastCause := by unfold noteWrite; split <;> rfl
@[simp] theorem noteWrite_causeSeen (r : Requester) (o : Nat) (h : Half) (w : Word) (s : State) : (noteWrite r o h w s).causeSeen = s.causeSeen := by unfold noteWrite; split <;> rfl
@[simp] theorem noteWrite_coreResets (r : Requester) (o : Nat) (h : Half) (w : Word) (s : State) : (noteWrite r o h w s).coreResets = s.coreResets := by unfold noteWrite; split <;> rfl
@[simp] theorem noteWrite_fatalReset (r : Requester) (o : Nat) (h : Half) (w : Word) (s : State) : (noteWrite r o h w s).fatalReset = s.fatalReset := by unfold noteWrite; split <;> rfl
@[simp] theorem noteWrite_straps (r : Requester) (o : Nat) (h : Half) (w : Word) (s : State) : (noteWrite r o h w s).straps = s.straps := by unfold noteWrite; split <;> rfl
@[simp] theorem noteWrite_strapPins (r : Requester) (o : Nat) (h : Half) (w : Word) (s : State) : (noteWrite r o h w s).strapPins = s.strapPins := by unfold noteWrite; split <;> rfl
@[simp] theorem noteWrite_rootLock (r : Requester) (o : Nat) (h : Half) (w : Word) (s : State) : (noteWrite r o h w s).rootLock = s.rootLock := by unfold noteWrite; split <;> rfl
@[simp] theorem noteWrite_rootLoss (r : Requester) (o : Nat) (h : Half) (w : Word) (s : State) : (noteWrite r o h w s).rootLoss = s.rootLoss := by unfold noteWrite; split <;> rfl
@[simp] theorem noteWrite_rootLossSeen (r : Requester) (o : Nat) (h : Half) (w : Word) (s : State) : (noteWrite r o h w s).rootLossSeen = s.rootLossSeen := by unfold noteWrite; split <;> rfl
@[simp] theorem noteWrite_scribeLock (r : Requester) (o : Nat) (h : Half) (w : Word) (s : State) : (noteWrite r o h w s).scribeLock = s.scribeLock := by unfold noteWrite; split <;> rfl
@[simp] theorem noteWrite_refPresent (r : Requester) (o : Nat) (h : Half) (w : Word) (s : State) : (noteWrite r o h w s).refPresent = s.refPresent := by unfold noteWrite; split <;> rfl
@[simp] theorem noteWrite_cycle0 (r : Requester) (o : Nat) (h : Half) (w : Word) (s : State) : (noteWrite r o h w s).cycle0 = s.cycle0 := by unfold noteWrite; split <;> rfl
@[simp] theorem noteWrite_arm (r : Requester) (o : Nat) (h : Half) (w : Word) (s : State) : (noteWrite r o h w s).arm = s.arm := by unfold noteWrite; split <;> rfl
@[simp] theorem noteWrite_wdogExpired (r : Requester) (o : Nat) (h : Half) (w : Word) (s : State) : (noteWrite r o h w s).wdogExpired = s.wdogExpired := by unfold noteWrite; split <;> rfl
@[simp] theorem noteWrite_armedAt (r : Requester) (o : Nat) (h : Half) (w : Word) (s : State) : (noteWrite r o h w s).armedAt = s.armedAt := by unfold noteWrite; split <;> rfl
@[simp] theorem noteWrite_coolEnough (r : Requester) (o : Nat) (h : Half) (w : Word) (s : State) : (noteWrite r o h w s).coolEnough = s.coolEnough := by unfold noteWrite; split <;> rfl
@[simp] theorem noteWrite_lastMarker (r : Requester) (o : Nat) (h : Half) (w : Word) (s : State) : (noteWrite r o h w s).lastMarker = s.lastMarker := by unfold noteWrite; split <;> rfl
@[simp] theorem noteWrite_trf (r : Requester) (o : Nat) (h : Half) (w : Word) (s : State) : (noteWrite r o h w s).trf = s.trf := by unfold noteWrite; split <;> rfl
@[simp] theorem noteWrite_xbrPending (r : Requester) (o : Nat) (h : Half) (w : Word) (s : State) : (noteWrite r o h w s).xbrPending = s.xbrPending := by unfold noteWrite; split <;> rfl
@[simp] theorem noteWrite_xbrRefused (r : Requester) (o : Nat) (h : Half) (w : Word) (s : State) : (noteWrite r o h w s).xbrRefused = s.xbrRefused := by unfold noteWrite; split <;> rfl
@[simp] theorem noteWrite_flt (r : Requester) (o : Nat) (h : Half) (w : Word) (s : State) : (noteWrite r o h w s).flt = s.flt := by unfold noteWrite; split <;> rfl
@[simp] theorem noteWrite_fol (r : Requester) (o : Nat) (h : Half) (w : Word) (s : State) : (noteWrite r o h w s).fol = s.fol := by unfold noteWrite; split <;> rfl
@[simp] theorem noteWrite_host (r : Requester) (o : Nat) (h : Half) (w : Word) (s : State) : (noteWrite r o h w s).host = s.host := by unfold noteWrite; split <;> rfl
@[simp] theorem noteWrite_signer (r : Requester) (o : Nat) (h : Half) (w : Word) (s : State) : (noteWrite r o h w s).signer = s.signer := by unfold noteWrite; split <;> rfl
@[simp] theorem noteWrite_scribe (r : Requester) (o : Nat) (h : Half) (w : Word) (s : State) : (noteWrite r o h w s).scribe = s.scribe := by unfold noteWrite; split <;> rfl
@[simp] theorem noteWrite_pmx (r : Requester) (o : Nat) (h : Half) (w : Word) (s : State) : (noteWrite r o h w s).pmx = s.pmx := by unfold noteWrite; split <;> rfl
@[simp] theorem noteWrite_lig (r : Requester) (o : Nat) (h : Half) (w : Word) (s : State) : (noteWrite r o h w s).lig = s.lig := by unfold noteWrite; split <;> rfl
@[simp] theorem noteWrite_railsOk (r : Requester) (o : Nat) (h : Half) (w : Word) (s : State) : (noteWrite r o h w s).railsOk = s.railsOk := by unfold noteWrite; split <;> rfl
@[simp] theorem noteWrite_firstRise (r : Requester) (o : Nat) (h : Half) (w : Word) (s : State) : (noteWrite r o h w s).firstRise = s.firstRise := by unfold noteWrite; split <;> rfl
@[simp] theorem noteWrite_resetAt (r : Requester) (o : Nat) (h : Half) (w : Word) (s : State) : (noteWrite r o h w s).resetAt = s.resetAt := by unfold noteWrite; split <;> rfl
@[simp] theorem noteWrite_tally (r : Requester) (o : Nat) (h : Half) (w : Word) (s : State) : (noteWrite r o h w s).tally = s.tally := by unfold noteWrite; split <;> rfl

@[simp] theorem ageWrite_pending (s : State) : (ageWrite s).pending = s.pending := rfl
@[simp] theorem ageWrite_uptime (s : State) : (ageWrite s).uptime = s.uptime := rfl
@[simp] theorem ageWrite_draws (s : State) : (ageWrite s).draws = s.draws := rfl
@[simp] theorem ageWrite_nextId (s : State) : (ageWrite s).nextId = s.nextId := rfl
@[simp] theorem ageWrite_out (s : State) : (ageWrite s).out = s.out := rfl
@[simp] theorem ageWrite_due (s : State) : (ageWrite s).due = s.due := by rfl
@[simp] theorem ageWrite_gregs (s : State) : (ageWrite s).gregs = s.gregs := rfl
@[simp] theorem ageWrite_slices (s : State) : (ageWrite s).slices = s.slices := rfl
@[simp] theorem ageWrite_frames (s : State) : (ageWrite s).frames = s.frames := rfl
@[simp] theorem ageWrite_core (s : State) : (ageWrite s).core = s.core := rfl
@[simp] theorem ageWrite_pwrOk (s : State) : (ageWrite s).pwrOk = s.pwrOk := rfl
@[simp] theorem ageWrite_rstCmd (s : State) : (ageWrite s).rstCmd = s.rstCmd := rfl
@[simp] theorem ageWrite_lastCause (s : State) : (ageWrite s).lastCause = s.lastCause := rfl
@[simp] theorem ageWrite_causeSeen (s : State) : (ageWrite s).causeSeen = s.causeSeen := rfl
@[simp] theorem ageWrite_coreResets (s : State) : (ageWrite s).coreResets = s.coreResets := rfl
@[simp] theorem ageWrite_fatalReset (s : State) : (ageWrite s).fatalReset = s.fatalReset := rfl
@[simp] theorem ageWrite_straps (s : State) : (ageWrite s).straps = s.straps := rfl
@[simp] theorem ageWrite_strapPins (s : State) : (ageWrite s).strapPins = s.strapPins := rfl
@[simp] theorem ageWrite_rootLock (s : State) : (ageWrite s).rootLock = s.rootLock := rfl
@[simp] theorem ageWrite_rootLoss (s : State) : (ageWrite s).rootLoss = s.rootLoss := rfl
@[simp] theorem ageWrite_rootLossSeen (s : State) : (ageWrite s).rootLossSeen = s.rootLossSeen := rfl
@[simp] theorem ageWrite_scribeLock (s : State) : (ageWrite s).scribeLock = s.scribeLock := rfl
@[simp] theorem ageWrite_refPresent (s : State) : (ageWrite s).refPresent = s.refPresent := rfl
@[simp] theorem ageWrite_cycle0 (s : State) : (ageWrite s).cycle0 = s.cycle0 := rfl
@[simp] theorem ageWrite_arm (s : State) : (ageWrite s).arm = s.arm := rfl
@[simp] theorem ageWrite_wdogExpired (s : State) : (ageWrite s).wdogExpired = s.wdogExpired := rfl
@[simp] theorem ageWrite_armedAt (s : State) : (ageWrite s).armedAt = s.armedAt := rfl
@[simp] theorem ageWrite_coolEnough (s : State) : (ageWrite s).coolEnough = s.coolEnough := rfl
@[simp] theorem ageWrite_lastMarker (s : State) : (ageWrite s).lastMarker = s.lastMarker := rfl
@[simp] theorem ageWrite_trf (s : State) : (ageWrite s).trf = s.trf := rfl
@[simp] theorem ageWrite_xbrPending (s : State) : (ageWrite s).xbrPending = s.xbrPending := rfl
@[simp] theorem ageWrite_xbrRefused (s : State) : (ageWrite s).xbrRefused = s.xbrRefused := rfl
@[simp] theorem ageWrite_flt (s : State) : (ageWrite s).flt = s.flt := rfl
@[simp] theorem ageWrite_fol (s : State) : (ageWrite s).fol = s.fol := rfl
@[simp] theorem ageWrite_host (s : State) : (ageWrite s).host = s.host := rfl
@[simp] theorem ageWrite_signer (s : State) : (ageWrite s).signer = s.signer := rfl
@[simp] theorem ageWrite_scribe (s : State) : (ageWrite s).scribe = s.scribe := rfl
@[simp] theorem ageWrite_pmx (s : State) : (ageWrite s).pmx = s.pmx := rfl
@[simp] theorem ageWrite_lig (s : State) : (ageWrite s).lig = s.lig := rfl
@[simp] theorem ageWrite_railsOk (s : State) : (ageWrite s).railsOk = s.railsOk := rfl
@[simp] theorem ageWrite_firstRise (s : State) : (ageWrite s).firstRise = s.firstRise := rfl
@[simp] theorem ageWrite_resetAt (s : State) : (ageWrite s).resetAt = s.resetAt := rfl
@[simp] theorem ageWrite_tally (s : State) : (ageWrite s).tally = s.tally := rfl

-- Slices -----------------------------------------------------------------------------------------------------------

@[simp] theorem State.slice_modSlice (s : State) (i : Fin 16) (f : Slice → Slice) : (s.modSlice i f).slice i = f (s.slice i) := by
  simp [State.slice, State.modSlice]
theorem State.slice_modSlice_ne (s : State) {i j : Fin 16} (f : Slice → Slice) (h : i ≠ j) : (s.modSlice i f).slice j = s.slice j := by
  simp only [State.slice, State.modSlice, Fin.getElem_fin]
  exact Vector.getElem_set_ne i.isLt j.isLt (fun e => h (Fin.ext e))
@[simp] theorem State.setGreg_slice (s : State) (o : Nat) (w : Word) (j : Fin 16) : (s.setGreg o w).slice j = s.slice j := rfl
@[simp] theorem State.draw_slice (s : State) (j : Fin 16) : s.draw.2.slice j = s.slice j := rfl
@[simp] theorem State.emit_slice (s : State) (x : Out) (j : Fin 16) : (s.emit x).slice j = s.slice j := rfl
@[simp] theorem State.reply_slice (s : State) (r : Requester) (o : Nat) (w : Word) (j : Fin 16) : (s.reply r o w).slice j = s.slice j := rfl
@[simp] theorem State.modScribe_slice (s : State) (f : Scribe → Scribe) (j : Fin 16) : (s.modScribe f).slice j = s.slice j := rfl
@[simp] theorem noteWrite_slice (r : Requester) (o : Nat) (h : Half) (w : Word) (s : State) (j : Fin 16) : (noteWrite r o h w s).slice j = s.slice j := by unfold noteWrite; split <;> rfl
@[simp] theorem ageWrite_slice (s : State) (j : Fin 16) : (ageWrite s).slice j = s.slice j := rfl

-- Global registers of updates that leave them -----------------------------------------------------------------------

@[simp] theorem State.modSlice_greg (s : State) (i : Fin 16) (f : Slice → Slice) (o : Nat) : (s.modSlice i f).greg o = s.greg o := rfl
@[simp] theorem State.draw_greg (s : State) (o : Nat) : s.draw.2.greg o = s.greg o := rfl
@[simp] theorem State.emit_greg (s : State) (x : Out) (o : Nat) : (s.emit x).greg o = s.greg o := rfl
@[simp] theorem State.reply_greg (s : State) (r : Requester) (off : Nat) (w : Word) (o : Nat) : (s.reply r off w).greg o = s.greg o := rfl
@[simp] theorem State.modScribe_greg (s : State) (f : Scribe → Scribe) (o : Nat) : (s.modScribe f).greg o = s.greg o := rfl
@[simp] theorem noteWrite_greg (r : Requester) (off : Nat) (h : Half) (w : Word) (s : State) (o : Nat) : (noteWrite r off h w s).greg o = s.greg o := by unfold noteWrite; split <;> rfl
@[simp] theorem ageWrite_greg (s : State) (o : Nat) : (ageWrite s).greg o = s.greg o := rfl

-- Registers, lanes, clusters, threads, packets: what a write leaves ---------------------------------------------------------

@[simp] theorem State.greg_setGreg (s : State) (o : Nat) (w : Word) : (s.setGreg o w).greg o = w := NMap.get_set_self _ _ _ _
theorem State.greg_setGreg_ne (s : State) {o p : Nat} (w : Word) (h : o ≠ p) : (s.setGreg o w).greg p = s.greg p :=
  NMap.get_set_ne _ _ _ _ h
@[simp] theorem Slice.reg_setReg (x : Slice) (o : Nat) (w : Word) : (x.setReg o w).reg o = w := NMap.get_set_self _ _ _ _
theorem Slice.reg_setReg_ne (x : Slice) {o p : Nat} (w : Word) (h : o ≠ p) : (x.setReg o w).reg p = x.reg p := NMap.get_set_ne _ _ _ _ h
@[simp] theorem State.reg_setReg (s : State) (i : Fin 16) (o : Nat) (w : Word) : (s.setReg i o w).reg i o = w := by
  simp [State.reg, State.setReg]
theorem State.reg_setReg_ne (s : State) (i : Fin 16) {o p : Nat} (w : Word) (h : o ≠ p) : (s.setReg i o w).reg i p = s.reg i p := by
  simp [State.reg, State.setReg, Slice.reg_setReg_ne _ _ h]
@[simp] theorem Slice.lane_modLane (x : Slice) (k : Nat) (f : Lane → Lane) : (x.modLane k f).lane k = f (x.lane k) := NMap.get_set_self _ _ _ _
@[simp] theorem State.lane_modLane (s : State) (i : Fin 16) (k : Nat) (f : Lane → Lane) : (s.modLane i k f).lane i k = f (s.lane i k) := by
  simp [State.lane, State.modLane]
@[simp] theorem Slice.cluster_modCluster (x : Slice) (c : Nat) (f : Cluster → Cluster) : (x.modCluster c f).cluster c = f (x.cluster c) :=
  NMap.get_set_self _ _ _ _
@[simp] theorem State.thread_setThread (s : State) (i : Fin 16) (t : Nat) (th : Thread) : (s.setThread i t th).thread i t = some th := by
  simp [State.thread, State.setThread]
@[simp] theorem State.thread_delThread (s : State) (i : Fin 16) (t : Nat) : (s.delThread i t).thread i t = none := by
  simp [State.thread, State.delThread]
@[simp] theorem State.packet_setPacket (s : State) (i : Fin 16) (p : Nat) (k : Packet) : (s.setPacket i p k).packet i p = some k := by
  simp [State.packet, State.setPacket]
@[simp] theorem State.packet_delPacket (s : State) (i : Fin 16) (p : Nat) : (s.delPacket i p).packet i p = none := by
  simp [State.packet, State.delPacket]

end Sys2Proof.Machine
end

