-- ==== Sys2Proof/Laws/Command.lean ====
section
/-!
SUPPORT. The shared operations of commands: a register write that reaches its block, a command judged by its register, the end
of a command.
-/
namespace Sys2Proof.Machine
open Sys2Proof

/-- A register that answers takes a write; with no write remembered there is no collision (R406). -/
theorem writeAt_free {r : Requester} {off : Nat} {h : Half} {w : Word} {f : State → State} {s : State} (ha : s.answers off = true)
    (hl : s.writes = []) : writeAt r off h w f s = f (noteWrite r off h w s) := by
  simp [writeAt, ha, State.collides, hl]

/-- A register that does not answer takes no write, and the Scribe learns it (R410, R474). -/
theorem writeAt_silent {r : Requester} {off : Nat} {h : Half} {w : Word} {f : State → State} {s : State} (ha : s.answers off = false) :
    writeAt r off h w f s = if r = .scribe then s.emit (.fenced off) else s := by simp [writeAt, ha, State.refusesScribe]

theorem answers_of_up {s : State} (h : s.core = .up) (off : Nat) : s.answers off = true := by simp [State.answers, State.up, h]

theorem sliceCmd_free {i : Fin 16} {o : Nat} {r : Requester} {w : Word} {f : State → State} {s : State} (hu : s.core = .up)
    (hl : s.writes = []) : sliceCmd i o r w f s = f (noteWrite r (sliceOff i o) .both w s) :=
  writeAt_free (answers_of_up hu _) hl

theorem globalCmd_free {o : Nat} {r : Requester} {w : Word} {f : State → State} {s : State} (hu : s.core = .up)
    (hl : s.writes = []) : globalCmd o r w f s = f (noteWrite r (globalOff o) .both w s) :=
  writeAt_free (answers_of_up hu _) hl

theorem whenUp_up {f : State → State} {s : State} (h : s.core = .up) : whenUp f s = f s := by simp [whenUp, State.up, h]

theorem whenUp_down {f : State → State} {s : State} (h : s.core ≠ .up) : whenUp f s = s := by simp [whenUp, State.up, h]

/-- A permitted command at a register that is not busy runs, and its status is taken (R4). -/
theorem runCommand_run {get : State → CmdReg} {put : CmdReg → State → State} {refuse : State → State}
    {body : State → CmdStatus × State} {s : State} {perm : Bool} (hp : perm = true) (hb : (get s).busy = false)
    (hr : (body s).1 ≠ .stateRefused) : runCommand perm get put refuse body s = put (CmdReg.take (body s).1) (body s).2 := by
  simp [runCommand, hp, hb, hr]

/-- A command that finds its register busy is counted and has no other effect (R4). -/
theorem runCommand_busy {get : State → CmdReg} {put : CmdReg → State → State} {refuse : State → State}
    {body : State → CmdStatus × State} {s : State} {perm : Bool} (hp : perm = true) (hb : (get s).busy = true) :
    runCommand perm get put refuse body s = refuse s := by
  simp [runCommand, hp, hb]

/-- A requester without the right gets PERMISSION (R4). -/
theorem runCommand_denied {get : State → CmdReg} {put : CmdReg → State → State} {refuse : State → State}
    {body : State → CmdStatus × State} {s : State} (hb : (get s).busy = false) :
    runCommand false get put refuse body s = put { busy := false, status := .permission } s := by
  simp [runCommand, hb]

/-- With no condition that turns the command away, its action runs. -/
theorem judge_run {checks : List (Bool × CmdStatus)} {s : State} {act : State → CmdStatus × State} (h : ∀ c ∈ checks, c.1 = false) :
    judge checks s act = act s := by
  have : checks.find? (·.1) = none := by
    rw [List.find?_eq_none]
    intro c hc
    simp [h c hc]
  simp [judge, this]

/-- Without fault reactions that wait, the end of a command is the ageing of the fabric's memory alone. -/
theorem settle_of_due {s : State} (h : s.due = []) : settle s = ageWrite s := by
  simp [settle, settleFaults, h, settleN]

/-- What the fabric remembers after a command is of its PCLK cycle. -/
theorem ageWrite_fresh (s : State) : ∀ x ∈ (ageWrite s).writes, x.cycle = (ageWrite s).uptime / 4 := by
  intro x hx
  simpa using (List.mem_filter.mp hx).2

end Sys2Proof.Machine
end

