-- ==== Sys2Proof/Laws/Due.lean ====
section
/-!
SUPPORT. Operations that bring about no fault reaction: one lemma per operation, which leaves `State.due` as it was.
-/
namespace Sys2Proof.Machine
open Sys2Proof
@[simp] theorem due_mk (x0 x1 x2 x3 x4 x5 x6 x7 x8 x9 x10 x11 x12 x13 x14 x15 x16 x17 x18 x19 x20 x21 x22 x23 x24 x25 x26 x27 x28 x29 x30 x31 x32 x33 x34 x35 x36 x37 x38 x39 x40 x41 x42 x43) :
    State.due (State.mk x0 x1 x2 x3 x4 x5 x6 x7 x8 x9 x10 x11 x12 x13 x14 x15 x16 x17 x18 x19 x20 x21 x22 x23 x24 x25 x26 x27 x28 x29 x30 x31 x32 x33 x34 x35 x36 x37 x38 x39 x40 x41 x42 x43) = x5 := rfl
@[simp] theorem foldl_due {α : Type} (f : State → α → State) (l : List α) (s : State) (hf : ∀ a x, (f a x).due = a.due) :
    (l.foldl f s).due = s.due := by
  induction l generalizing s with
  | nil => rfl
  | cons x l ih => simp [List.foldl, ih, hf]
theorem ite_due {c : Prop} [Decidable c] {a b s : State} (ha : a.due = s.due) (hb : b.due = s.due) :
    (if c then a else b).due = s.due := by
  split <;> assumption
@[simp] theorem State.setReg_due (s : State) (i : Fin 16) (o : Nat) (w : Word) : (State.setReg s i o w).due = s.due := by
  rfl
@[simp] theorem State.count_due (s : State) (i : Fin 16) (o : Nat) (hi : Nat) (lo : Nat) :
    (State.count s i o hi lo).due = s.due := by
  rfl
@[simp] theorem State.gcount_due (s : State) (o : Nat) (hi : Nat) (lo : Nat) : (State.gcount s o hi lo).due = s.due := by
  rfl
@[simp] theorem State.countDrop_due (s : State) (i : Fin 16) (code : Nat) : (State.countDrop s i code).due = s.due := by
  rfl
@[simp] theorem runCommand_due (perm : Bool) (get : State → CmdReg) (put : CmdReg → State → State) (refuse : State → State)
    (body : State → CmdStatus × State) (s : State) (hp : ∀ c a, (put c a).due = a.due) (hr : ∀ a, (refuse a).due = a.due)
    (hb : (body s).2.due = s.due) : (runCommand perm get put refuse body s).due = s.due := by
  unfold runCommand
  dsimp only
  repeat' split
  all_goals simp [hp, hr, hb]
@[simp] theorem judge_due (checks : List (Bool × CmdStatus)) (s : State) (act : State → CmdStatus × State)
    (h : (act s).2.due = s.due) : (judge checks s act).2.due = s.due := by
  unfold judge
  split
  · rfl
  · exact h
@[simp] theorem State.modLane_due (s : State) (i : Fin 16) (k : Nat) (f : Lane → Lane) :
    (State.modLane s i k f).due = s.due := by
  rfl
@[simp] theorem State.countPort_due (s : State) (i : Fin 16) (k : Nat) (n : Nat) (by_ : Nat) :
    (State.countPort s i k n by_).due = s.due := by
  rfl
@[simp] theorem State.modCluster_due (s : State) (i : Fin 16) (c : Nat) (f : Cluster → Cluster) :
    (State.modCluster s i c f).due = s.due := by
  rfl
@[simp] theorem State.setThread_due (s : State) (i : Fin 16) (t : Nat) (th : Thread) :
    (State.setThread s i t th).due = s.due := by
  rfl
@[simp] theorem State.delThread_due (s : State) (i : Fin 16) (t : Nat) : (State.delThread s i t).due = s.due := by
  rfl
@[simp] theorem State.setPacket_due (s : State) (i : Fin 16) (p : Nat) (k : Packet) :
    (State.setPacket s i p k).due = s.due := by
  rfl
@[simp] theorem State.delPacket_due (s : State) (i : Fin 16) (p : Nat) : (State.delPacket s i p).due = s.due := by
  rfl
@[simp] theorem State.modPacket_due (s : State) (i : Fin 16) (p : Nat) (f : Packet → Packet) :
    (State.modPacket s i p f).due = s.due := by
  unfold State.modPacket
  repeat' split
  all_goals simp
@[simp] theorem State.setFrame_due (s : State) (n : Nat) (f : Frame) : (State.setFrame s n f).due = s.due := by
  rfl
@[simp] theorem State.modPf_due (s : State) (n : Nat) (f : Pf → Pf) : (State.modPf s n f).due = s.due := by
  rfl
@[simp] theorem State.modLink_due (s : State) (l : Nat) (f : Link → Link) : (State.modLink s l f).due = s.due := by
  rfl
@[simp] theorem State.msi_due (s : State) (pf : Nat) (vector : Nat) : (State.msi s pf vector).due = s.due := by
  simp only [State.msi]
  repeat' split
  all_goals simp
@[simp] theorem complete_due (pf : Nat) (status : Nat) (data : List Byte) (s : State) :
    (complete pf status data s).due = s.due := by
  rfl
@[simp] theorem refuseRead_due (pf : Nat) (status : Nat) (s : State) : (refuseRead pf status s).due = s.due := by
  rfl
@[simp] theorem unmapped_due (pf : Nat) (write : Bool) (s : State) : (unmapped pf write s).due = s.due := by
  unfold unmapped
  repeat' split
  all_goals simp
@[simp] theorem State.modFu_due (s : State) (u : Nat) (f : FaultUnit → FaultUnit) : (State.modFu s u f).due = s.due := by
  unfold State.modFu
  repeat' split
  all_goals simp
@[simp] theorem State.setSrc_due (s : State) (u : Nat) (id : Nat) (x : FaultSrc) : (State.setSrc s u id x).due = s.due := by
  simp [State.setSrc]
@[simp] theorem faultInterrupt_due (u : Nat) (s : State) : (faultInterrupt u s).due = s.due := by
  simp only [faultInterrupt]
  repeat' split
  all_goals simp
@[simp] theorem notifyEntry_due (e : HistEntry) (s : State) : (notifyEntry e s).due = s.due := by
  simp only [notifyEntry]
  repeat' split
  all_goals simp
@[simp] theorem writeHist_due (u : Nat) (e : HistEntry) (s : State) : (writeHist u e s).due = s.due := by
  simp [writeHist]
@[simp] theorem histEvent_due (u : Nat) (id : Nat) (kind : Nat) (syn : Nat) (forced : Bool) (s : State) :
    (histEvent u id kind syn forced s).due = s.due := by
  simp only [histEvent]
  repeat' split
  all_goals simp
@[simp] theorem addendOf_due (num : Int) (den : Int) (s : State) : (addendOf num den s).2.2.due = s.due := by
  simp only [addendOf]
  repeat' split
  all_goals simp
@[simp] theorem applyCorr_due (num : Int) (den : Int) (s : State) : (applyCorr num den s).due = s.due := by
  simp [applyCorr]
@[simp] theorem slewAddend_due (e : Int) (s : State) : (slewAddend e s).due = s.due := by
  simp [slewAddend]
@[simp] theorem toHoldover_due (s : State) : (toHoldover s).due = s.due := by
  rfl
@[simp] theorem noteRun_due (e : Int) (integ : Int) (tau : Nat) (s : State) : (noteRun e integ tau s).due = s.due := by
  rfl
@[simp] theorem runLoop_due (e : Int) (tau : Nat) (s : State) : (runLoop e tau s).due = s.due := by
  unfold runLoop
  dsimp only
  rw [noteRun_due, applyCorr_due]
@[simp] theorem judgeLock_due (e : Int) (s : State) : (judgeLock e s).due = s.due := by
  rfl
@[simp] theorem freqMeasure_due (f : Int) (s : State) : (freqMeasure f s).due = s.due := by
  unfold freqMeasure
  repeat' split
  all_goals simp
@[simp] theorem loadInteg_due (s : State) : (loadInteg s).due = s.due := by
  unfold loadInteg
  repeat' split
  all_goals simp
@[simp] theorem boundCfgWrite_due (r : Requester) (h : Half) (w : Word) (s : State) :
    (boundCfgWrite r h w s).due = s.due := by
  unfold boundCfgWrite
  repeat' split
  all_goals simp
@[simp] theorem boundLower_due (s : State) : (boundLower s).due = s.due := by
  unfold boundLower
  repeat' split
  all_goals simp
@[simp] theorem refuseTrf_due (s : State) : (refuseTrf s).due = s.due := by
  rfl
@[simp] theorem trfCommand_due (w : Word) (s : State) : (trfCommand w s).due = s.due := by
  unfold trfCommand
  refine runCommand_due _ _ _ _ _ _ (by simp) (by simp) ?_
  split
  · exact judge_due _ _ _ (by simp)
  · exact judge_due _ _ _ (by simp)
  · simp
  · rfl
@[simp] theorem trfCmd_due (r : Requester) (w : Word) (s : State) : (trfCmd r w s).due = s.due := by
  unfold trfCmd
  split
  · simp
  · exact runCommand_due _ _ _ _ _ _ (by simp) (by simp) rfl
@[simp] theorem freerunApply_due (s : State) : (freerunApply s).due = s.due := by
  unfold freerunApply
  repeat' split
  all_goals simp
@[simp] theorem time0Read_due (u : Option (Fin 16)) (s : State) : (time0Read u s).2.due = s.due := by
  unfold time0Read
  split
  · rw [due_mk]
  · simp
@[simp] theorem tickTime_due (s : State) : (tickTime s).due = s.due := by
  rfl
@[simp] theorem pmcInterrupt_due (i : Fin 16) (s : State) : (pmcInterrupt i s).due = s.due := by
  simp only [pmcInterrupt]
  repeat' split
  all_goals simp
@[simp] theorem pmcBump_due (i : Fin 16) (k : Nat) (n : Nat) (s : State) : (pmcBump i k n s).1.due = s.due := by
  simp only [pmcBump]
  repeat' split
  all_goals simp
@[simp] theorem pmcEventS_due (i : Fin 16) (ev n : Nat) (a : PmcAttr) (s : State) :
    (pmcEventS i ev n a s).1.due = s.due := by
  have h : ∀ (f : State × List Nat × Bool → Nat → State × List Nat × Bool) (_ : ∀ acc k, (f acc k).1.due = acc.1.due)
      (l : List Nat) (acc : State × List Nat × Bool), (l.foldl f acc).1.due = acc.1.due := by
    intro f hf l
    induction l with
    | nil => intro acc; rfl
    | cons k l ih => intro acc; rw [List.foldl_cons, ih, hf]
  rw [pmcEventS]
  dsimp only
  split
  · rw [State.setReg_due, h]
    intro acc k
    split <;> simp
  · rw [h]
    intro acc k
    split <;> simp
@[simp] theorem pmcEvent_due (i : Fin 16) (ev : Nat) (n : Nat) (a : PmcAttr) (s : State) :
    (pmcEvent i ev n a s).due = s.due := by
  simp [pmcEvent]
@[simp] theorem pmcSample_due (i : Fin 16) (rec_ : Sample) (s : State) : (pmcSample i rec_ s).due = s.due := by
  simp only [pmcSample]
  repeat' split
  all_goals simp
@[simp] theorem sampleDrain_due (i : Fin 16) (s : State) :
    (sampleDrain i s).due = s.due := by
  simp only [sampleDrain]
  split
  · rfl
  · split
    · simp
    · simp
@[simp] theorem State.countRetired_due (s : State) (i : Fin 16) (c : Nat) : (State.countRetired s i c).due = s.due := by
  rfl
@[simp] theorem State.countWasted_due (s : State) (i : Fin 16) (c : Nat) : (State.countWasted s i c).due = s.due := by
  rfl
@[simp] theorem State.useSlot_due (s : State) (i : Fin 16) (t : Nat) (cls : Nat) (pc : Nat) (retired : Bool) :
    (State.useSlot s i t cls pc retired).due = s.due := by
  first
  | rfl
  | (simp [State.useSlot]; done)
  | (unfold State.useSlot; (repeat' split) <;> simp)
  | (simp only [State.useSlot]; (repeat' split) <;> first | rfl | simp)
@[simp] theorem wasteSlot_due (i : Fin 16) (t : Nat) (s : State) :
    (wasteSlot i t s).due = s.due := by
  unfold wasteSlot
  split
  · rfl
  · split
    · rw [pmcEvent_due, State.countWasted_due, State.modSlice_due, foldl_due]
      intro b k
      split <;> simp
    · rfl
@[simp] theorem linkCell_due (i : Fin 16) (chain : List Nat) (c : Nat) (s : State) :
    (linkCell i chain c s).due = s.due := by
  simp only [linkCell]
  repeat' split
  all_goals simp
@[simp] theorem freeOrder_due (n : Nat) (l : List Nat) (s : State) : (freeOrder n l s).2.due = s.due := by
  induction n generalizing s l with
  | zero => rfl
  | succ n ih =>
    unfold freeOrder
    split
    · rfl
    · simp [ih]
@[simp] theorem freelistRebuild_due (i : Fin 16) (k : Nat) (s : State) : (freelistRebuild i k s).due = s.due := by
  simp only [freelistRebuild]
  repeat' split
  all_goals simp
@[simp] theorem putBpm_due (i : Fin 16) (c : CmdReg) (s : State) : (putBpm i c s).due = s.due := by
  rfl
@[simp] theorem refuseBpm_due (i : Fin 16) (s : State) : (refuseBpm i s).due = s.due := by
  rfl
@[simp] theorem setResult_due (i : Fin 16) (w : Word) (s : State) : (setResult i w s).due = s.due := by
  rfl
@[simp] theorem bpmQuery_due (i : Fin 16) (s : State) : (bpmQuery i s).2.due = s.due := by
  simp [bpmQuery]
@[simp] theorem bpmFormat_due (i : Fin 16) (s : State) : (bpmFormat i s).2.due = s.due := by
  simp [bpmFormat]
@[simp] theorem formatDone_due (i : Fin 16) (s : State) : (formatDone i s).due = s.due := by
  unfold formatDone
  repeat' split
  all_goals simp
@[simp] theorem bankDrained_due (i : Fin 16) (k : Nat) (s : State) : (bankDrained i k s).due = s.due := by
  simp only [bankDrained]
  repeat' split
  all_goals simp
@[simp] theorem bankRetain_due (i : Fin 16) (k : Nat) (s : State) : (bankRetain i k s).2.due = s.due := by
  simp [bankRetain]
@[simp] theorem bankWake_due (i : Fin 16) (k : Nat) (s : State) : (bankWake i k s).2.due = s.due := by
  simp only [bankWake]
  repeat' split
  all_goals simp
@[simp] theorem bankWakeDone_due (i : Fin 16) (s : State) : (bankWakeDone i s).due = s.due := by
  unfold bankWakeDone
  repeat' split
  all_goals simp
@[simp] theorem State.modRing_due (s : State) (i : Fin 16) (r : Nat) (f : Ring → Ring) :
    (State.modRing s i r f).due = s.due := by
  rfl
@[simp] theorem State.setTag_due (s : State) (t : Nat) (x : Option ReadTag) : (State.setTag s t x).due = s.due := by
  rfl
theorem takeTag_due {i : Fin 16} {r : Nat} {frame : Bool} {s s1 : State} {t : Nat} (h : takeTag i r frame s = some (t, s1)) :
    s1.due = s.due := by
  unfold takeTag at h
  dsimp only at h
  split at h
  · cases h
  · split at h
    · simp only [Option.map_eq_some_iff, Prod.mk.injEq] at h
      obtain ⟨x, -, -, rfl⟩ := h
      simp
    · cases h
@[simp] theorem issueRead_due (i : Fin 16) (r : Nat) (frame : Bool) (addr n : Nat) (s : State) :
    (issueRead i r frame addr n s).due = s.due := by
  unfold issueRead
  split
  · split
    · rename_i h
      simp [takeTag_due h]
    · simp
  · rfl
@[simp] theorem fetchFrame_due (i : Fin 16) (r : Nat) (addr : Nat) (n : Nat) (s : State) :
    (fetchFrame i r addr n s).due = s.due := by
  simp only [fetchFrame]
  repeat' split
  all_goals simp
@[simp] theorem kickRing_due (i : Fin 16) (r : Nat) (s : State) : (kickRing i r s).due = s.due := by
  simp only [kickRing]
  repeat' split
  all_goals simp
@[simp] theorem signalRing_due (i : Fin 16) (r : Nat) (s : State) : (signalRing i r s).due = s.due := by
  simp only [signalRing]
  repeat' split
  all_goals simp
@[simp] theorem advanceHead_due (i : Fin 16) (r : Nat) (s : State) : (advanceHead i r s).due = s.due := by
  simp [advanceHead]
@[simp] theorem dmaBytes_due (i : Fin 16) (r : Nat) (n : Nat) (s : State) :
    (dmaBytes i r n s).due = s.due := by
  first
  | rfl
  | (simp [dmaBytes]; done)
  | (unfold dmaBytes; (repeat' split) <;> simp)
  | (simp only [dmaBytes]; (repeat' split) <;> first | rfl | simp)
@[simp] theorem completeRx_due (i : Fin 16) (r : Nat) (addr : Nat) (bytes : List Byte) (comp : List Byte) (s : State) :
    (completeRx i r addr bytes comp s).due = s.due := by
  unfold completeRx
  repeat' split
  all_goals simp
@[simp] theorem coalesceTimeout_due (i : Fin 16) (r : Nat) (s : State) : (coalesceTimeout i r s).due = s.due := by
  simp only [coalesceTimeout]
  repeat' split
  all_goals simp
@[simp] theorem rngBaseWrite_due (i : Fin 16) (q : Requester) (r : Nat) (h : Half) (w : Word) (s : State) :
    (rngBaseWrite i q r h w s).due = s.due := by
  unfold rngBaseWrite
  repeat' split
  all_goals simp
@[simp] theorem State.modDram_due (s : State) (i : Fin 16) (f : Dram → Dram) : (State.modDram s i f).due = s.due := by
  rfl
@[simp] theorem dramAccess_due (i : Fin 16) (a : Nat) (s : State) : (dramAccess i a s).due = s.due := by
  rfl
@[simp] theorem dramBurstsAt_due (i : Fin 16) (ev : Nat) (req : Nat) (addrs : List Nat) (s : State) :
    (dramBurstsAt i ev req addrs s).due = s.due := by
  first
  | rfl
  | (simp [dramBurstsAt]; done)
  | (unfold dramBurstsAt; (repeat' split) <;> simp)
  | (simp only [dramBurstsAt]; (repeat' split) <;> first | rfl | simp)
@[simp] theorem dramBursts_due (i : Fin 16) (ev : Nat) (req : Nat) (a : Nat) (n : Nat) (s : State) :
    (dramBursts i ev req a n s).due = s.due := by
  simp [dramBursts]
@[simp] theorem dramRead_due (i : Fin 16) (req : Nat) (a : Nat) (n : Nat) (s : State) :
    (dramRead i req a n s).due = s.due := by
  simp [dramRead]
@[simp] theorem dramWrite_due (i : Fin 16) (req : Nat) (a : Nat) (n : Nat) (s : State) :
    (dramWrite i req a n s).due = s.due := by
  simp [dramWrite]
@[simp] theorem ringRead_due (i : Fin 16) (place : Nat) (n : Nat) (s : State) :
    (ringRead i place n s).due = s.due := by
  first
  | rfl
  | (simp [ringRead]; done)
  | (unfold ringRead; (repeat' split) <;> simp)
  | (simp only [ringRead]; (repeat' split) <;> first | rfl | simp)
@[simp] theorem ringWrite_due (i : Fin 16) (place : Nat) (n : Nat) (s : State) :
    (ringWrite i place n s).due = s.due := by
  first
  | rfl
  | (simp [ringWrite]; done)
  | (unfold ringWrite; (repeat' split) <;> simp)
  | (simp only [ringWrite]; (repeat' split) <;> first | rfl | simp)
@[simp] theorem tblAccess_due (i : Fin 16) (req : Nat) (n : Nat) (s : State) : (tblAccess i req n s).due = s.due := by
  simp [tblAccess]
@[simp] theorem State.modTier_due (s : State) (i : Fin 16) (far : Bool) (f : Tier → Tier) :
    (State.modTier s i far f).due = s.due := by
  rfl
@[simp] theorem State.modTbl_due (s : State) (i : Fin 16) (f : Tables → Tables) : (State.modTbl s i f).due = s.due := by
  rfl
@[simp] theorem slotAccess_due (i : Fin 16) (req : Nat) (far : Bool) (write : Bool) (n : Nat) (s : State) :
    (slotAccess i req far write n s).due = s.due := by
  unfold slotAccess
  repeat' split
  all_goals simp
@[simp] theorem place_due (i : Fin 16) (req : Nat) (far : Bool) (useStash : Bool) (e : Entry) (s : State) :
    (place i req far useStash e s).2.due = s.due := by
  have f : ∀ (l : List Nat) (a : State), (l.foldl (fun a n => slotAccess i req far true n a) a).due = a.due :=
    fun l a => foldl_due _ _ _ (fun a n => by simp)
  unfold place
  dsimp only
  split
  · rw [State.modSlice_due]
  · rw [State.modTier_due, f, State.modSlice_due]
@[simp] theorem setKeys_due (i : Fin 16) (n : Nat) (k : Nat) (s : State) : (setKeys i n k s).due = s.due := by
  simp [setKeys]
@[simp] theorem setLoc_due (i : Fin 16) (far : Bool) (n : Nat) (s : State) : (setLoc i far n s).due = s.due := by
  rfl
@[simp] theorem slotEcc_none (i : Fin 16) (far : Bool) (n : Nat) (s : State) : slotEcc i far 0 n s = s := rfl
@[simp] theorem tblFlush_due (i : Fin 16) (far : Bool) (s : State) : (tblFlush i far s).2.due = s.due := by
  rfl
@[simp] theorem tblDigestSet_due (i : Fin 16) (far : Bool) (n : Nat) (s : State) :
    (tblDigestSet i far n s).2.due = s.due := by
  rfl
@[simp] theorem tblDigestRead_due (i : Fin 16) (far : Bool) (n : Nat) (s : State) :
    (tblDigestRead i far n s).2.due = s.due := by
  rfl
@[simp] theorem searchReads_due (i : Fin 16) (req : Nat) (far : Bool) (wide : Bool) (key : Nat) (s : State) :
    (searchReads i req far wide key s).due = s.due := by
  unfold searchReads
  repeat' split
  all_goals simp
@[simp] theorem commandReads_due (i : Fin 16) (w : Word) (s : State) : (commandReads i w s).due = s.due := by
  simp only [commandReads]
  repeat' split
  all_goals simp
@[simp] theorem putTbl_due (i : Fin 16) (c : CmdReg) (s : State) : (putTbl i c s).due = s.due := by
  rfl
@[simp] theorem refuseTbl_due (i : Fin 16) (s : State) : (refuseTbl i s).due = s.due := by
  rfl
@[simp] theorem endWaiting_due (i : Fin 16) (f : Word → State → CmdStatus × State) (s : State) (h : ∀ w a, (f w a).2.due = a.due) :
    (endWaiting i f s).due = s.due := by
  unfold endWaiting
  split
  · rfl
  · dsimp only
    split <;> simp [h]
@[simp] theorem tblTimeout_due (i : Fin 16) (s : State) : (tblTimeout i s).due = s.due := by
  unfold tblTimeout
  repeat' split
  all_goals simp
@[simp] theorem migrateOne_due (i : Fin 16) (far : Bool) (n : Nat) (s : State) : (migrateOne i far n s).due = s.due := by
  simp only [migrateOne]
  repeat' split
  all_goals simp
@[simp] theorem eccWriteback_due (i : Fin 16) (s : State) : (eccWriteback i s).due = s.due := by
  simp only [eccWriteback]
  repeat' split
  all_goals simp
@[simp] theorem retireTier_due (i : Fin 16) (far : Bool) (gone : Nat) (s : State) :
    (retireTier i far gone s).due = s.due := by
  first
  | rfl
  | (simp [retireTier]; done)
  | (unfold retireTier; (repeat' split) <;> simp)
  | (simp only [retireTier]; (repeat' split) <;> first | rfl | simp)
@[simp] theorem retireFar_due (i : Fin 16) (s : State) :
    (retireFar i s).due = s.due := by
  first
  | rfl
  | (simp [retireFar]; done)
  | (unfold retireFar; (repeat' split) <;> simp)
  | (simp only [retireFar]; (repeat' split) <;> first | rfl | simp)
@[simp] theorem State.modRmx_due (s : State) (i : Fin 16) (f : Rmx → Rmx) : (State.modRmx s i f).due = s.due := by
  rfl
@[simp] theorem rmxSearch_due (i : Fin 16) (c : RmxCopy) (b : Nat) (rmw : Nat) (key : Nat) (s : State) :
    (rmxSearch i c b rmw key s).2.due = s.due := by
  simp only [rmxSearch]
  repeat' split
  all_goals simp
@[simp] theorem setRmxVal_due (i : Fin 16) (o : Nat) (n : Nat) (s : State) : (setRmxVal i o n s).due = s.due := by
  rfl
@[simp] theorem rmxWriteRow_due (i : Fin 16) (n : Nat) (s : State) : (rmxWriteRow i n s).2.due = s.due := by
  rfl
@[simp] theorem rmxCopyAll_due (i : Fin 16) (s : State) : (rmxCopyAll i s).2.due = s.due := by
  rfl
@[simp] theorem rmxClear_due (i : Fin 16) (b : Nat) (s : State) : (rmxClear i b s).2.due = s.due := by
  rfl
@[simp] theorem rmxReadCfg_due (i : Fin 16) (copy : Nat) (b : Nat) (s : State) : (rmxReadCfg i copy b s).2.due = s.due := by
  rfl
@[simp] theorem putRmx_due (i : Fin 16) (c : CmdReg) (s : State) : (putRmx i c s).due = s.due := by
  rfl
@[simp] theorem refuseRmx_due (i : Fin 16) (s : State) : (refuseRmx i s).due = s.due := by
  rfl
@[simp] theorem rmxCfgWrite_due (i : Fin 16) (r : Requester) (sig : Bool) (b : Nat) (h : Half) (w : Word) (s : State) :
    (rmxCfgWrite i r sig b h w s).due = s.due := by
  unfold rmxCfgWrite
  repeat' split
  all_goals simp
@[simp] theorem State.modEg_due (s : State) (i : Fin 16) (f : Egress → Egress) : (State.modEg s i f).due = s.due := by
  rfl
@[simp] theorem State.modSch_due (s : State) (i : Fin 16) (f : Sched → Sched) : (State.modSch s i f).due = s.due := by
  rfl
@[simp] theorem meterOp_due (i : Fin 16) (bank : Nat) (n : Nat) (len : Nat) (colour : Nat) (s : State) :
    (meterOp i bank n len colour s).2.due = s.due := by
  simp only [meterOp]
  repeat' split
  all_goals simp
@[simp] theorem countColour_due (i : Fin 16) (colour : Nat) (s : State) : (countColour i colour s).due = s.due := by
  rfl
@[simp] theorem tokenInit_due (i : Fin 16) (a : Nat) (b : Nat) (s : State) : (tokenInit i a b s).due = s.due := by
  rfl
@[simp] theorem gclSwitchTime_due (i : Fin 16) (s : State) : (gclSwitchTime i s).due = s.due := by
  simp only [gclSwitchTime]
  repeat' split
  all_goals simp
@[simp] theorem setSchData_due (i : Fin 16) (ws : List Word) (s : State) : (setSchData i ws s).due = s.due := by
  rfl
@[simp] theorem schRead_due (i : Fin 16) (w : Word) (s : State) : (schRead i w s).2.due = s.due := by
  simp [schRead]
@[simp] theorem schWrite_due (i : Fin 16) (w : Word) (s : State) : (schWrite i w s).2.due = s.due := by
  simp [schWrite]
@[simp] theorem schCopy_due (i : Fin 16) (s : State) : (schCopy i s).2.due = s.due := by
  simp [schCopy]
@[simp] theorem gclSwitch_due (i : Fin 16) (n : Nat) (s : State) : (gclSwitch i n s).2.due = s.due := by
  simp [gclSwitch]
@[simp] theorem gclCancel_due (i : Fin 16) (n : Nat) (s : State) : (gclCancel i n s).2.due = s.due := by
  simp [gclCancel]
@[simp] theorem putSch_due (i : Fin 16) (c : CmdReg) (s : State) : (putSch i c s).due = s.due := by
  rfl
@[simp] theorem refuseSch_due (i : Fin 16) (s : State) : (refuseSch i s).due = s.due := by
  rfl
@[simp] theorem schCommand_due (i : Fin 16) (r : Requester) (w : Word) (s : State) : (schCommand i r w s).due = s.due := by
  unfold schCommand
  repeat' split
  all_goals simp
@[simp] theorem gclFolio_due (i : Fin 16) (epoch : Nat) (commit : Bool) (s : State) :
    (gclFolio i epoch commit s).due = s.due := by
  simp only [gclFolio]
  split <;> rfl
@[simp] theorem gclRollback_due (i : Fin 16) (s : State) : (gclRollback i s).due = s.due := by
  rfl
@[simp] theorem State.modCpb_due (s : State) (i : Fin 16) (f : Cpb → Cpb) : (State.modCpb s i f).due = s.due := by
  rfl
@[simp] theorem closeBlock_due (i : Fin 16) (reason : Nat) (s : State) : (closeBlock i reason s).due = s.due := by
  unfold closeBlock
  repeat' split
  all_goals simp
@[simp] theorem appendRecord_due (i : Fin 16) (ctrl : Bool) (body : List Byte) (s : State) :
    (appendRecord i ctrl body s).due = s.due := by
  simp only [appendRecord]
  repeat' split
  all_goals simp
@[simp] theorem writeReady_due (i : Fin 16) (s : State) :
    (writeReady i s).due = s.due := by
  simp only [writeReady]
  repeat' split
  all_goals simp
@[simp] theorem writeAll_due (i : Fin 16) (y0 : Nat) (y1 : State) :
    (writeAll i y0 y1).due = y1.due := by
  induction y0 generalizing y1 with
  | zero => rfl
  | succ n ih =>
    rw [writeAll]
    split
    · rw [ih, writeReady_due]
    · rfl
@[simp] theorem sendReport_due (i : Fin 16) (pkt : Nat) (late : Bool) (uncertain : Bool) (outcome : Nat) (s : State) :
    (sendReport i pkt late uncertain outcome s).due = s.due := by
  rfl
@[simp] theorem joinGap_due (i : Fin 16) (capture : Stamp) (s : State) : (joinGap i capture s).due = s.due := by
  rfl
@[simp] theorem putCpb_due (i : Fin 16) (c : CmdReg) (s : State) : (putCpb i c s).due = s.due := by
  rfl
@[simp] theorem refuseCpb_due (i : Fin 16) (s : State) : (refuseCpb i s).due = s.due := by
  rfl
@[simp] theorem newRun_due (i : Fin 16) (s : State) : (newRun i s).due = s.due := by
  rfl
@[simp] theorem sealCfgWrite_due (r : Requester) (h : Half) (w : Word) (s : State) : (sealCfgWrite r h w s).due = s.due := by
  simp only [sealCfgWrite]
  repeat' split
  all_goals simp
@[simp] theorem sealMarker_due (s : State) : (sealMarker s).due = s.due := by
  rfl
@[simp] theorem cutFrame_due (i : Fin 16) (k : Nat) (s : State) : (cutFrame i k s).due = s.due := by
  unfold cutFrame
  repeat' split
  all_goals simp
@[simp] theorem cutForExpress_due (i : Fin 16) (k : Nat) (s : State) :
    (cutForExpress i k s).due = s.due := by
  simp only [cutForExpress]
  repeat' split
  all_goals simp
@[simp] theorem sendPause_due (i : Fin 16) (k : Nat) (prios : Nat) (quanta : Nat) (s : State) :
    (sendPause i k prios quanta s).due = s.due := by
  simp [sendPause]
@[simp] theorem updatePause_due (i : Fin 16) (k : Nat) (s0 : State) : (updatePause i k s0).due = s0.due := by
  simp only [updatePause]
  repeat' split
  all_goals simp
@[simp] theorem updatePauses_due (i : Fin 16) (s : State) : (updatePauses i s).due = s.due := by
  simp [updatePauses, apply_ite State.due]
@[simp] theorem pausesAfter_due (i : Fin 16) (f : State → State) (s : State) (hf : (f s).due = s.due) :
    (pausesAfter i f s).due = s.due := by
  simp [pausesAfter, hf]
@[simp] theorem State.setInbound_due (s : State) (i : Fin 16) (n : Nat) (b : Inbound) :
    (State.setInbound s i n b).due = s.due := by
  rfl
@[simp] theorem reportCopy_due (c : EgCopy) (outcome : Nat) (s : State) : (reportCopy c outcome s).due = s.due := by
  unfold reportCopy
  repeat' split
  all_goals simp
@[simp] theorem takeHead_due (i : Fin 16) (q : Nat) (s : State) :
    (takeHead i q s).due = s.due := by
  rfl
@[simp] theorem headSent_due (i : Fin 16) (k : Nat) (v : Nat) (q : Nat) (c : EgCopy) (s : State) :
    (headSent i k v q c s).due = s.due := by
  simp only [headSent]
  repeat' split
  all_goals simp
@[simp] theorem egressStep_due (i : Fin 16) (old : Nat) (s : State) :
    (egressStep i old s).due = s.due := by
  simp [egressStep]
@[simp] theorem holdFrame_due (i : Fin 16) (k : Nat) (id : Nat) (s : State) : (holdFrame i k id s).due = s.due := by
  unfold holdFrame
  repeat' split
  all_goals simp
theorem resumeFrame_due {i : Fin 16} {k : Nat} {s s1 : State} (h : resumeFrame i k s = some s1) : s1.due = s.due := by
  rw [resumeFrame] at h
  dsimp only at h
  repeat' (split at h)
  all_goals (first | (simp at h; done) | (simp only [Option.some.injEq] at h; subst h; simp))

@[simp] theorem ligCfgWrite_due (i : Fin 16) (r : Requester) (k : Nat) (h : Half) (w : Word) (s : State) :
    (ligCfgWrite i r k h w s).due = s.due := by
  simp only [ligCfgWrite]
  repeat' split
  all_goals simp
@[simp] theorem resetHighWater_due (i : Fin 16) (k : Nat) (s : State) : (resetHighWater i k s).due = s.due := by
  rfl
@[simp] theorem modLig_due (f : LigSeed → LigSeed) (s : State) : (modLig f s).due = s.due := by
  rfl
@[simp] theorem ligSeedCommand_due (r : Requester) (w : Word) (s : State) : (ligSeedCommand r w s).due = s.due := by
  unfold ligSeedCommand
  refine runCommand_due _ _ _ _ _ _ (by simp) (by simp) ?_
  split
  · exact judge_due _ _ _ (by simp)
  · exact judge_due _ _ _ (by simp)
  · rfl
@[simp] theorem seedSwitch_due (s : State) : (seedSwitch s).due = s.due := by
  unfold seedSwitch
  repeat' split
  all_goals simp
@[simp] theorem seedErase_due (i : Fin 16) (s : State) : (seedErase i s).due = s.due := by
  unfold seedErase
  repeat' split
  all_goals simp
@[simp] theorem eqxRead_due (i : Fin 16) (g : Nat) (s : State) : (eqxRead i g s).2.due = s.due := by
  rfl
@[simp] theorem eqxWrite_due (i : Fin 16) (g : Nat) (s : State) : (eqxWrite i g s).2.due = s.due := by
  simp [eqxWrite]
@[simp] theorem eqxCommand_due (i : Fin 16) (r : Requester) (w : Word) (s : State) : (eqxCommand i r w s).due = s.due := by
  unfold eqxCommand
  repeat' split
  all_goals simp
@[simp] theorem mclRead_due (i : Fin 16) (l : Nat) (s : State) : (mclRead i l s).2.due = s.due := by
  rfl
@[simp] theorem mclWrite_due (i : Fin 16) (l : Nat) (s : State) : (mclWrite i l s).2.due = s.due := by
  simp [mclWrite]
@[simp] theorem mclCommand_due (i : Fin 16) (r : Requester) (w : Word) (s : State) : (mclCommand i r w s).due = s.due := by
  unfold mclCommand
  repeat' split
  all_goals simp
@[simp] theorem startTraining_due (i : Fin 16) (s : State) : (startTraining i s).due = s.due := by
  rfl
@[simp] theorem takeRegions_due (i : Fin 16) (g : Word) (s : State) : (takeRegions i g s).due = s.due := by
  rfl
@[simp] theorem startDrain_due (i : Fin 16) (s : State) :
    (startDrain i s).due = s.due := by
  simp only [startDrain]
  repeat' split
  all_goals simp
@[simp] theorem drmSetSpeed_due (i : Fin 16) (speed : Nat) (s : State) : (drmSetSpeed i speed s).2.due = s.due := by
  unfold drmSetSpeed
  refine judge_due _ _ _ ?_
  repeat' split
  all_goals simp
@[simp] theorem putDrm_due (i : Fin 16) (c : CmdReg) (s : State) : (putDrm i c s).due = s.due := by
  rfl
@[simp] theorem refuseDrm_due (i : Fin 16) (s : State) : (refuseDrm i s).due = s.due := by
  rfl
@[simp] theorem relock_due (i : Fin 16) (s : State) : (relock i s).due = s.due := by
  rfl
@[simp] theorem setTrain_due (i : Fin 16) (lane : Nat) (rank : Nat) (eye : Nat) (wr : Nat) (rd : Nat) (s : State) :
    (setTrain i lane rank eye wr rd s).due = s.due := by
  rfl
@[simp] theorem trainLane_due (i : Fin 16) (lane : Nat) (rank : Nat) (rd : BitVec 128) (wr : BitVec 128) (s : State) :
    (trainLane i lane rank rd wr s).2.due = s.due := by
  simp only [trainLane]
  repeat' split
  all_goals simp
@[simp] theorem trainAll_due (i : Fin 16) (rd wr : List (BitVec 128)) (l : List (Nat × Nat)) (s : State) :
    (trainAll i rd wr l s).2.due = s.due := by
  induction l generalizing s with
  | nil => rfl
  | cons x l ih =>
    unfold trainAll
    dsimp only
    split <;> simp [ih]
@[simp] theorem dramRefresh_due (i : Fin 16) (rank : Nat) (bank : Nat) (retries : Nat) (s : State) :
    (dramRefresh i rank bank retries s).due = s.due := by
  simp only [dramRefresh]
  repeat' split
  all_goals simp
@[simp] theorem rowClose_due (i : Fin 16) (rank : Nat) (bank : Nat) (s : State) : (rowClose i rank bank s).due = s.due := by
  simp only [rowClose]
  repeat' split
  all_goals simp
@[simp] theorem rankPowerDown_due (i : Fin 16) (rank : Nat) (s : State) : (rankPowerDown i rank s).due = s.due := by
  simp only [rankPowerDown]
  repeat' split
  all_goals simp
@[simp] theorem refuseRpl_due (i : Fin 16) (s : State) : (refuseRpl i s).due = s.due := by
  rfl
@[simp] theorem rplGroupWrite_due (i : Fin 16) (r : Requester) (g : Nat) (one : Bool) (h : Half) (w : Word) (s : State) :
    (rplGroupWrite i r g one h w s).due = s.due := by
  simp only [rplGroupWrite]
  repeat' split
  all_goals simp
@[simp] theorem phyRelock_due (i : Fin 16) (s : State) : (phyRelock i s).due = s.due := by
  simp only [phyRelock]
  repeat' split
  all_goals simp
@[simp] theorem countPartDrop_due (i : Fin 16) (s : State) : (countPartDrop i s).due = s.due := by
  rfl
@[simp] theorem partMapWrite_due (r : Requester) (h : Half) (w : Word) (s : State) : (partMapWrite r h w s).due = s.due := by
  unfold partMapWrite
  repeat' split
  all_goals simp
@[simp] theorem xbrApplyDone_due (s : State) : (xbrApplyDone s).due = s.due := by
  rfl
@[simp] theorem dropAtIngress_due (i : Fin 16) (code : Nat) (s : State) : (dropAtIngress i code s).due = s.due := by
  unfold dropAtIngress
  repeat' split
  all_goals simp
@[simp] theorem orphan_due (e : Fin 16) (t : Target) (s : State) : (orphan e t s).due = s.due := by
  unfold orphan
  repeat' split
  all_goals simp
@[simp] theorem epochSplit_due (e : Fin 16) (epoch : Nat) (s : State) : (epochSplit e epoch s).due = s.due := by
  simp only [epochSplit]
  repeat' split
  all_goals simp
@[simp] theorem pushCross_due (i : Fin 16) (e : Fin 16) (x : Cross) (s : State) : (pushCross i e x s).due = s.due := by
  unfold pushCross
  dsimp only
  repeat' split
  all_goals simp
@[simp] theorem linkChain_due (e : Fin 16) (cells : List Nat) (s : State) :
    (linkChain e cells s).due = s.due := by
  simp only [linkChain]
  repeat' split
  all_goals simp
@[simp] theorem countCells_due (i : Fin 16) (e : Fin 16) (cls : Nat) (n : Nat) (s : State) :
    (countCells i e cls n s).due = s.due := by
  simp [countCells]
@[simp] theorem loseCross_due (i : Fin 16) (x : Cross) (code : Nat) (s : State) :
    (loseCross i x code s).due = s.due := by
  simp only [loseCross]
  repeat' split
  all_goals simp
@[simp] theorem countParts_due (e : Fin 16) (x : Cross) (code : Nat) (s : State) :
    (countParts e x code s).due = s.due := by
  simp only [countParts]
  repeat' split
  all_goals simp
@[simp] theorem refusedCell_due (e : Fin 16) (s : State) :
    (refusedCell e s).due = s.due := by
  simp only [refusedCell]
  repeat' split
  all_goals simp
@[simp] theorem cutChain_due (e : Fin 16) (key : Nat) (s : State) :
    (cutChain e key s).due = s.due := by
  simp only [cutChain]
  repeat' split
  all_goals simp
@[simp] theorem endFragment_due (i : Fin 16) (n : Nat) (s : State) : (endFragment i n s).due = s.due := by
  rfl
@[simp] theorem frameStart_due (i : Fin 16) (k : Nat) (interp : Nat) (s : State) :
    (frameStart i k interp s).due = s.due := by
  unfold frameStart
  dsimp only
  repeat' split
  all_goals first | rfl | simp
@[simp] theorem State.modFrg_due (s : State) (i : Fin 16) (f : FragTable → FragTable) :
    (State.modFrg s i f).due = s.due := by
  rfl
@[simp] theorem fragInsert_due (i : Fin 16) (n : Nat) (key : List Byte) (t : Nat) (s : State) :
    (fragInsert i n key t s).2.due = s.due := by
  simp only [fragInsert]
  repeat' split
  all_goals simp
@[simp] theorem fragLookup_due (i : Fin 16) (key : List Byte) (t : Nat) (s : State) :
    (fragLookup i key t s).2.due = s.due := by
  unfold fragLookup
  repeat' split
  all_goals simp
@[simp] theorem putFrg_due (i : Fin 16) (c : CmdReg) (s : State) : (putFrg i c s).due = s.due := by
  rfl
@[simp] theorem refuseSlc_due (i : Fin 16) (s : State) : (refuseSlc i s).due = s.due := by
  rfl
@[simp] theorem frgFlushDone_due (i : Fin 16) (s : State) : (frgFlushDone i s).due = s.due := by
  unfold frgFlushDone
  repeat' split
  all_goals simp
@[simp] theorem fragExpiry_due (i : Fin 16) (k : Nat) (s : State) : (fragExpiry i k s).due = s.due := by
  unfold fragExpiry
  repeat' split
  all_goals simp
@[simp] theorem startThread_due (i : Fin 16) (t : Nat) (n : Nat) (p : Packet) (s : State) :
    (startThread i t n p s).due = s.due := by
  rfl
@[simp] theorem popHead_due (i : Fin 16) (c : Nat) (s : State) : (popHead i c s).due = s.due := by
  rfl
@[simp] theorem packetStart_due (i : Fin 16) (c : Nat) (s : State) : (packetStart i c s).due = s.due := by
  unfold packetStart
  repeat' split
  all_goals simp
@[simp] theorem workSteal_due (i : Fin 16) (thief : Nat) (victim : Nat) (s : State) :
    (workSteal i thief victim s).due = s.due := by
  simp only [workSteal]
  repeat' split
  all_goals simp
@[simp] theorem portEnable_due (i : Fin 16) (k : Nat) (s : State) : (portEnable i k s).2.due = s.due := by
  simp [portEnable]
@[simp] theorem putPrt_due (i : Fin 16) (k : Nat) (c : CmdReg) (s : State) : (putPrt i k c s).due = s.due := by
  rfl
@[simp] theorem linkUp_due (i : Fin 16) (k : Nat) (deskew : Nat) (s : State) : (linkUp i k deskew s).due = s.due := by
  unfold linkUp
  repeat' split
  all_goals simp
@[simp] theorem calValidRise_due (i : Fin 16) (k : Nat) (s : State) : (calValidRise i k s).due = s.due := by
  simp only [calValidRise]
  repeat' split
  all_goals simp
@[simp] theorem calAdjWrite_due (i : Fin 16) (k : Nat) (r : Requester) (h : Half) (w : Word) (s : State) :
    (calAdjWrite i k r h w s).due = s.due := by
  unfold calAdjWrite
  repeat' split
  all_goals simp
@[simp] theorem pauseRepeat_due (i : Fin 16) (k : Nat) (s : State) : (pauseRepeat i k s).due = s.due := by
  simp only [pauseRepeat]
  repeat' split
  all_goals simp
@[simp] theorem preemptVerify_due (i : Fin 16) (k : Nat) (good : Bool) (s : State) :
    (preemptVerify i k good s).due = s.due := by
  simp only [preemptVerify]
  repeat' split
  all_goals simp
@[simp] theorem healthDown_due (s : State) : (healthDown s).due = s.due := by
  unfold healthDown
  repeat' split
  all_goals simp
@[simp] theorem healthWrite_due (r : Requester) (h : Half) (w : Word) (s : State) : (healthWrite r h w s).due = s.due := by
  simp only [healthWrite]
  repeat' split
  all_goals simp
@[simp] theorem watchdogExpiry_due (s : State) : (watchdogExpiry s).due = s.due := by
  unfold watchdogExpiry
  repeat' split
  all_goals simp
@[simp] theorem completeSamples_due (i : Fin 16) (t : Nat) (th : Thread) (flags : Nat) (p : Nat → Bool) (s : State) :
    (completeSamples i t th flags p s).due = s.due := by
  simp [completeSamples]
@[simp] theorem completeSync_due (i : Fin 16) (t : Nat) (th : Thread) (flags : Nat) (all : Bool) (s : State) :
    (completeSync i t th flags all s).due = s.due := by
  first
  | rfl
  | (simp [completeSync]; done)
  | (unfold completeSync; (repeat' split) <;> simp)
  | (simp only [completeSync]; (repeat' split) <;> first | rfl | simp)
@[simp] theorem syncDone_due (i : Fin 16) (s : State) :
    (syncDone i s).due = s.due := by
  rw [syncDone, foldl_due]
  intro a t
  split <;> simp
@[simp] theorem stopThread_due (i : Fin 16) (t : Nat) (s : State) : (stopThread i t s).due = s.due := by
  unfold stopThread
  repeat' split
  all_goals simp
@[simp] theorem icacheFill_due (i : Fin 16) (c : Nat) (s : State) : (icacheFill i c s).due = s.due := by
  unfold icacheFill
  split
  · rfl
  · dsimp only
    rw [foldl_due]
    · simp
    · intro a x
      split <;> simp
@[simp] theorem redispatch_due (i : Fin 16) (c : Nat) (s : State) : (redispatch i c s).due = s.due := by
  unfold redispatch
  dsimp only
  rw [foldl_due, foldl_due]
  all_goals (intro a x; simp)
@[simp] theorem countCause_due (i : Fin 16) (c : Nat) (s : State) : (countCause i c s).due = s.due := by
  unfold countCause
  repeat' split
  all_goals simp
@[simp] theorem pick_due (l : List Nat) (s : State) : (pick l s).2.due = s.due := by
  unfold pick
  repeat' split
  all_goals simp
@[simp] theorem Plan.cause_due (p : Plan) (w : Word) (th : Thread) (s : State) : (Plan.cause p w th s).2.due = s.due := by
  unfold Plan.cause
  dsimp only
  repeat' split
  all_goals simp
@[simp] theorem spadArbitrate_due (i : Fin 16) (t : Nat) (a : Option Nat) (s : State) :
    (spadArbitrate i t a s).due = s.due := by
  first
  | rfl
  | (simp [spadArbitrate]; done)
  | (unfold spadArbitrate; (repeat' split) <;> simp)
  | (simp only [spadArbitrate]; (repeat' split) <;> first | rfl | simp)
@[simp] theorem aluPlan_due (r : AluRow) (w : Word) (th : Thread) (x : Thread) (a : State) :
    ((aluPlan r w th).act x a).2.due = a.due := by
  rfl
@[simp] theorem nopPlan_due (w : Word) (x : Thread) (a : State) : ((nopPlan w).act x a).2.due = a.due := by
  rfl
@[simp] theorem extPlan_due (w : Word) (th : Thread) (p : Packet) (s : State) (x : Thread) (a : State) :
    ((extPlan w th p s).act x a).2.due = a.due := by
  rfl
@[simp] theorem extrPlan_due (w : Word) (th : Thread) (x : Thread) (a : State) :
    ((extrPlan w th).act x a).2.due = a.due := by
  rfl
@[simp] theorem insPlan_due (w : Word) (th : Thread) (x : Thread) (a : State) : ((insPlan w th).act x a).2.due = a.due := by
  rfl
@[simp] theorem branchPlan_due (bad : Bool) (taken : Bool) (reads : List Ref) (w : Word) (x : Thread) (a : State) :
    ((branchPlan bad taken reads w).act x a).2.due = a.due := by
  rfl
@[simp] theorem brPlan_due (w : Word) (x : Thread) (a : State) : ((brPlan w).act x a).2.due = a.due := by
  rfl
@[simp] theorem callPlan_due (w : Word) (th : Thread) (x : Thread) (a : State) :
    ((callPlan w th).act x a).2.due = a.due := by
  rfl
@[simp] theorem jrPlan_due (w : Word) (th : Thread) (x : Thread) (a : State) : ((jrPlan w th).act x a).2.due = a.due := by
  rfl
@[simp] theorem bcPlan_due (w : Word) (th : Thread) (x : Thread) (a : State) : ((bcPlan w th).act x a).2.due = a.due := by
  rfl
@[simp] theorem cbPlan_due (w : Word) (th : Thread) (x : Thread) (a : State) : ((cbPlan w th).act x a).2.due = a.due := by
  rfl
@[simp] theorem cbiPlan_due (w : Word) (th : Thread) (x : Thread) (a : State) : ((cbiPlan w th).act x a).2.due = a.due := by
  rfl
@[simp] theorem bbitPlan_due (w : Word) (th : Thread) (x : Thread) (a : State) :
    ((bbitPlan w th).act x a).2.due = a.due := by
  rfl
@[simp] theorem btPlan_due (w : Word) (th : Thread) (x : Thread) (a : State) : ((btPlan w th).act x a).2.due = a.due := by
  rfl
@[simp] theorem ldPlan_due (i : Fin 16) (t : Nat) (w : Word) (th : Thread) (x : Thread) (a : State) :
    ((ldPlan i t w th).act x a).2.due = a.due := by
  rfl
@[simp] theorem stPlan_due (i : Fin 16) (t : Nat) (w : Word) (th : Thread) (x : Thread) (a : State) :
    ((stPlan i t w th).act x a).2.due = a.due := by
  rfl
@[simp] theorem sfaPlan_due (i : Fin 16) (t : Nat) (w : Word) (th : Thread) (x : Thread) (a : State) :
    ((sfaPlan i t w th).act x a).2.due = a.due := by
  rfl
@[simp] theorem csrrPlan_due (i : Fin 16) (t : Nat) (w : Word) (th : Thread) (s : State) (x : Thread) (a : State) :
    ((csrrPlan i t w th s).act x a).2.due = a.due := by
  rfl
@[simp] theorem csrwPlan_due (w : Word) (th : Thread) (x : Thread) (a : State) :
    ((csrwPlan w th).act x a).2.due = a.due := by
  rfl
@[simp] theorem trapPlan_due (w : Word) (x : Thread) (a : State) : ((trapPlan w).act x a).2.due = a.due := by
  rfl
@[simp] theorem endPlan_due (w : Word) (x : Thread) (a : State) : ((endPlan w).act x a).2.due = a.due := by
  rfl
@[simp] theorem asyncPlan_due (cls : Nat) (bad : Bool) (fenced : List Nat) (reads : List Ref) (w : Word) (o : AsyncOp) (x : Thread) (a : State) :
    ((asyncPlan cls bad fenced reads w o).act x a).2.due = a.due := by
  rfl
@[simp] theorem Plan.srm_due (p : Plan) (i : Fin 16) (th : Thread) (on : Bool) (h : ∀ x a, (p.act x a).2.due = a.due) (x : Thread) (a : State) :
    ((p.srm i th on).act x a).2.due = a.due := by
  unfold Plan.srm
  split <;> simp [h]
@[simp] theorem lkpEmPlan_due (i : Fin 16) (w : Word) (th : Thread) (s : State) (x : Thread) (a : State) :
    ((lkpEmPlan i w th s).act x a).2.due = a.due := by
  rfl
@[simp] theorem lkpRmPlan_due (i : Fin 16) (w : Word) (th : Thread) (s : State) (x : Thread) (a : State) :
    ((lkpRmPlan i w th s).act x a).2.due = a.due := by
  rfl
@[simp] theorem lkpSrPlan_due (i : Fin 16) (w : Word) (th : Thread) (s : State) (x : Thread) (a : State) :
    ((lkpSrPlan i w th s).act x a).2.due = a.due := by
  rfl
@[simp] theorem waitPlan_due (w : Word) (th : Thread) (x : Thread) (a : State) :
    ((waitPlan w th).act x a).2.due = a.due := by
  rfl
@[simp] theorem meterPlan_due (i : Fin 16) (w : Word) (th : Thread) (p : Packet) (s : State) (x : Thread) (a : State) :
    ((meterPlan i w th p s).act x a).2.due = a.due := by
  simp [meterPlan]
@[simp] theorem seqPlan_due (i : Fin 16) (w : Word) (th : Thread) (s : State) (x : Thread) (a : State) :
    ((seqPlan i w th s).act x a).2.due = a.due := by
  simp [seqPlan]
@[simp] theorem hashFastPlan_due (w : Word) (th : Thread) (x : Thread) (a : State) :
    ((hashFastPlan w th).act x a).2.due = a.due := by
  rfl
@[simp] theorem hashShaPlan_due (i : Fin 16) (w : Word) (th : Thread) (p : Packet) (s : State) (x : Thread) (a : State) :
    ((hashShaPlan i w th p s).act x a).2.due = a.due := by
  rfl
@[simp] theorem entryPlan_due (cls : Nat) (bad : Bool) (reads : List Ref) (off : Nat) (width : Nat) (e : Edit) (th : Thread) (x : Thread) (a : State) :
    ((entryPlan cls bad reads off width e th).act x a).2.due = a.due := by
  rfl
@[simp] theorem editSetPlan_due (w : Word) (th : Thread) (x : Thread) (a : State) :
    ((editSetPlan w th).act x a).2.due = a.due := by
  rfl
@[simp] theorem editInsPlan_due (w : Word) (th : Thread) (x : Thread) (a : State) :
    ((editInsPlan w th).act x a).2.due = a.due := by
  rfl
@[simp] theorem editDelPlan_due (w : Word) (th : Thread) (x : Thread) (a : State) :
    ((editDelPlan w th).act x a).2.due = a.due := by
  rfl
@[simp] theorem editCsumIp4Plan_due (w : Word) (th : Thread) (x : Thread) (a : State) :
    ((editCsumIp4Plan w th).act x a).2.due = a.due := by
  rfl
@[simp] theorem editCsumL4Plan_due (w : Word) (th : Thread) (x : Thread) (a : State) :
    ((editCsumL4Plan w th).act x a).2.due = a.due := by
  rfl
@[simp] theorem editTruncPlan_due (w : Word) (th : Thread) (x : Thread) (a : State) :
    ((editTruncPlan w th).act x a).2.due = a.due := by
  rfl
@[simp] theorem stampReadNowPlan_due (i : Fin 16) (w : Word) (s : State) (x : Thread) (a : State) :
    ((stampReadNowPlan i w s).act x a).2.due = a.due := by
  rfl
@[simp] theorem stampInsRxPlan_due (w : Word) (th : Thread) (x : Thread) (a : State) :
    ((stampInsRxPlan w th).act x a).2.due = a.due := by
  rfl
@[simp] theorem stampInsTxPlan_due (w : Word) (th : Thread) (x : Thread) (a : State) :
    ((stampInsTxPlan w th).act x a).2.due = a.due := by
  rfl
@[simp] theorem stampCorrPlan_due (w : Word) (th : Thread) (x : Thread) (a : State) :
    ((stampCorrPlan w th).act x a).2.due = a.due := by
  rfl
@[simp] theorem ledgPlan_due (w : Word) (th : Thread) (x : Thread) (a : State) :
    ((ledgPlan w th).act x a).2.due = a.due := by
  rfl
@[simp] theorem markPlan_due (w : Word) (th : Thread) (x : Thread) (a : State) :
    ((markPlan w th).act x a).2.due = a.due := by
  rfl
@[simp] theorem fragPlan_due (i : Fin 16) (w : Word) (th : Thread) (p : Packet) (s : State) (x : Thread) (a : State) :
    ((fragPlan i w th p s).act x a).2.due = a.due := by
  simp only [fragPlan]
  repeat' split
  all_goals simp
@[simp] theorem emitPlan_due (i : Fin 16) (w : Word) (th : Thread) (s : State) (target : Target) (time : Bool) (cut : Bool) (slice : Option Nat) (x : Thread) (a : State) :
    ((emitPlan i w th s target time cut slice).act x a).2.due = a.due := by
  rfl
@[simp] theorem emitQueuePlan_due (i : Fin 16) (w : Word) (th : Thread) (p : Packet) (s : State) (x : Thread) (a : State) :
    ((emitQueuePlan i w th p s).act x a).2.due = a.due := by
  rfl
@[simp] theorem emitPortPlan_due (i : Fin 16) (w : Word) (th : Thread) (p : Packet) (s : State) (x : Thread) (a : State) :
    ((emitPortPlan i w th p s).act x a).2.due = a.due := by
  rfl
@[simp] theorem emitMergePlan_due (i : Fin 16) (w : Word) (th : Thread) (s : State) (x : Thread) (a : State) :
    ((emitMergePlan i w th s).act x a).2.due = a.due := by
  rfl
@[simp] theorem emitEqxPlan_due (i : Fin 16) (w : Word) (th : Thread) (s : State) (x : Thread) (a : State) :
    ((emitEqxPlan i w th s).act x a).2.due = a.due := by
  rfl
@[simp] theorem emitMcastPlan_due (i : Fin 16) (w : Word) (th : Thread) (s : State) (x : Thread) (a : State) :
    ((emitMcastPlan i w th s).act x a).2.due = a.due := by
  rfl
@[simp] theorem puntPlan_due (w : Word) (th : Thread) (x : Thread) (a : State) :
    ((puntPlan w th).act x a).2.due = a.due := by
  rfl
@[simp] theorem rplyPlan_due (i : Fin 16) (w : Word) (th : Thread) (s : State) (x : Thread) (a : State) :
    ((rplyPlan i w th s).act x a).2.due = a.due := by
  rfl
@[simp] theorem dropPlan_due (w : Word) (x : Thread) (a : State) : ((dropPlan w).act x a).2.due = a.due := by
  rfl
@[simp] theorem learnPost_due (i : Fin 16) (key : Nat) (result : Word) (s : State) :
    (learnPost i key result s).due = s.due := by
  unfold learnPost
  repeat' split
  all_goals simp
@[simp] theorem learnPlan_due (i : Fin 16) (w : Word) (th : Thread) (s : State) (x : Thread) (a : State) :
    ((learnPlan i w th s).act x a).2.due = a.due := by
  simp [learnPlan]
@[simp] theorem putFol_due (c : CmdReg) (s : State) : (putFol c s).due = s.due := by
  rfl
@[simp] theorem refuseFol_due (s : State) : (refuseFol s).due = s.due := by
  rfl
@[simp] theorem State.mapFol_due (s : State) (f : SliceFolio → SliceFolio) : (State.mapFol s f).due = s.due := by
  rfl
@[simp] theorem folOpen_due (copy : Bool) (s : State) : (folOpen copy s).due = s.due := by
  rfl
@[simp] theorem folPend_due (rollback : Bool) (s : State) : (folPend rollback s).due = s.due := by
  rfl
@[simp] theorem folCancel_due (s : State) : (folCancel s).due = s.due := by
  unfold folCancel
  dsimp only
  split
  · simp
  · rw [foldl_due]
    · simp
    · intro a k
      simp
@[simp] theorem folAbort_due (s : State) : (folAbort s).due = s.due := by
  unfold folAbort
  repeat' split
  all_goals simp
@[simp] theorem folCommand_due (r : Requester) (w : Word) (s : State) : (folCommand r w s).due = s.due := by
  unfold folCommand
  refine runCommand_due _ _ _ _ _ _ (by simp) (by simp) ?_
  split
  · exact judge_due _ _ _ (by simp)
  · exact judge_due _ _ _ (by simp)
  · exact judge_due _ _ _ (by simp)
  · exact judge_due _ _ _ (by simp)
  · rfl
@[simp] theorem retireSlice_due (f : Folio) (s : State) (i : Fin 16) :
    (retireSlice f s i).due = s.due := by
  unfold retireSlice
  dsimp only
  split <;> split <;> simp
@[simp] theorem stagingReady_due (s : State) : (stagingReady s).due = s.due := by
  unfold stagingReady
  repeat' split
  all_goals simp
@[simp] theorem sliceArmed_due (i : Fin 16) (s : State) : (sliceArmed i s).due = s.due := by
  simp only [sliceArmed]
  repeat' split
  all_goals simp
@[simp] theorem applySwitch_due (i : Fin 16) (epoch : Option Nat) (s : State) : (applySwitch i epoch s).due = s.due := by
  unfold applySwitch
  repeat' split
  all_goals simp
@[simp] theorem applyRecorded_due (i : Fin 16) (s : State) : (applyRecorded i s).due = s.due := by
  simp [applyRecorded]
@[simp] theorem folioSwitch_due (i : Fin 16) (s : State) : (folioSwitch i s).due = s.due := by
  simp only [folioSwitch]
  repeat' split
  all_goals simp
@[simp] theorem sliceDrained_due (i : Fin 16) (s : State) : (sliceDrained i s).due = s.due := by
  simp only [sliceDrained]
  repeat' split
  all_goals simp
@[simp] theorem folTimeWrite_due (r : Requester) (one : Bool) (h : Half) (w : Word) (s : State) :
    (folTimeWrite r one h w s).due = s.due := by
  unfold folTimeWrite
  repeat' split
  all_goals simp
@[simp] theorem folSliceWrite_due (i : Fin 16) (r : Requester) (k : Nat) (h : Half) (w : Word) (s : State) :
    (folSliceWrite i r k h w s).due = s.due := by
  unfold folSliceWrite
  repeat' split
  all_goals simp
@[simp] theorem State.modSeq_due (s : State) (i : Fin 16) (f : Sequencer → Sequencer) :
    (State.modSeq s i f).due = s.due := by
  rfl
@[simp] theorem seqEnter_due (i : Fin 16) (c : Nat) (s : State) : (seqEnter i c s).due = s.due := by
  rfl
@[simp] theorem seqTake_due (i : Fin 16) (s : State) : (seqTake i s).due = s.due := by
  simp only [seqTake]
  repeat' split
  all_goals simp
@[simp] theorem seqLoad_due (i : Fin 16) (img : List Byte) (s : State) : (seqLoad i img s).due = s.due := by
  unfold seqLoad
  repeat' split
  all_goals simp
@[simp] theorem programWrite_due (i : Fin 16) (r : Requester) (bank : Nat) (n : Nat) (h : Half) (w : Word) (s : State) :
    (programWrite i r bank n h w s).due = s.due := by
  unfold programWrite
  repeat' split
  all_goals simp
@[simp] theorem spadWindow_due (i : Fin 16) (r : Requester) (c : Nat) (n : Nat) (h : Half) (data : Option Word) (s : State) :
    (spadWindow i r c n h data s).due = s.due := by
  unfold spadWindow
  repeat' split
  all_goals simp
@[simp] theorem pgmTrapWrite_due (i : Fin 16) (r : Requester) (h : Half) (w : Word) (s : State) :
    (pgmTrapWrite i r h w s).due = s.due := by
  simp only [pgmTrapWrite]
  repeat' split
  all_goals simp
@[simp] theorem putSlc_due (i : Fin 16) (c : CmdReg) (s : State) : (putSlc i c s).due = s.due := by
  rfl
@[simp] theorem slcCommand_due (i : Fin 16) (r : Requester) (w : Word) (s : State) : (slcCommand i r w s).due = s.due := by
  unfold slcCommand
  repeat' split
  all_goals simp
@[simp] theorem applyPfMap_due (l : Nat) (s : State) : (applyPfMap l s).due = s.due := by
  simp [applyPfMap, apply_ite State.due]
@[simp] theorem eachRing_due (i : Fin 16) (f : Nat → State → State) (s : State) (h : ∀ r a, (f r a).due = a.due) :
    (eachRing i f s).due = s.due := by
  unfold eachRing
  exact foldl_due _ _ _ (fun a x => h x.1 a)
@[simp] theorem clearEn_due (i : Fin 16) (r : Nat) (s : State) : (clearEn i r s).due = s.due := by
  rfl
@[simp] theorem pcieUp_due (l : Nat) (width : Nat) (speed : Nat) (flit : Bool) (s : State) :
    (pcieUp l width speed flit s).due = s.due := by
  unfold pcieUp
  repeat' split
  all_goals simp
@[simp] theorem pcieDown_due (l : Nat) (s : State) : (pcieDown l s).due = s.due := by
  unfold pcieDown
  repeat' split
  all_goals simp
@[simp] theorem State.setWindow_due (s : State) (pf : Nat) (e : Nat) (w : Window) :
    (State.setWindow s pf e w).due = s.due := by
  rfl
@[simp] theorem winWrite_due (pf : Nat) (e : Nat) (s : State) : (winWrite pf e s).2.due = s.due := by
  simp [winWrite]
@[simp] theorem winRead_due (pf : Nat) (e : Nat) (s : State) : (winRead pf e s).2.due = s.due := by
  simp [winRead]
@[simp] theorem winFlushDone_due (s : State) : (winFlushDone s).due = s.due := by
  rfl
@[simp] theorem setOwner_due (pf : Nat) (i : Fin 16) (s : State) : (setOwner pf i s).2.due = s.due := by
  simp [setOwner]
@[simp] theorem putHst_due (c : CmdReg) (s : State) : (putHst c s).due = s.due := by
  rfl
@[simp] theorem refuseHst_due (s : State) : (refuseHst s).due = s.due := by
  rfl
@[simp] theorem kickWaiting_due (s : State) : (kickWaiting s).due = s.due := by
  simp [kickWaiting, apply_ite State.due]
@[simp] theorem freeTag_due (t : Nat) (s : State) : (freeTag t s).due = s.due := by
  simp [freeTag]
@[simp] theorem readBytes_due (i : Fin 16) (r : Nat) (status : Nat) (data : List Byte) (s : State) :
    (readBytes i r status data s).due = s.due := by
  first
  | rfl
  | (simp [readBytes]; done)
  | (unfold readBytes; (repeat' split) <;> simp)
  | (simp only [readBytes]; (repeat' split) <;> first | rfl | simp)
@[simp] theorem quarantineExpiry_due (t : Nat) (s : State) : (quarantineExpiry t s).due = s.due := by
  unfold quarantineExpiry
  repeat' split
  all_goals simp
@[simp] theorem completeTx_due (i : Fin 16) (r : Nat) (st : CmdStatus) (s : State) : (completeTx i r st s).due = s.due := by
  simp [completeTx]
@[simp] theorem releasePins_due (before : State) (s : State) :
    (releasePins before s).due = s.due := by
  first
  | rfl
  | (simp [releasePins]; done)
  | (unfold releasePins; (repeat' split) <;> simp)
  | (simp only [releasePins]; (repeat' split) <;> first | rfl | simp)
@[simp] theorem flashWrite_due (region : Nat) (off : Nat) (bs : List Byte) (s : State) :
    (flashWrite region off bs s).due = s.due := by
  rfl
@[simp] theorem scribeBoot_due (s : State) : (scribeBoot s).due = s.due := by
  unfold scribeBoot
  repeat' split
  all_goals (first | rfl | simp)
@[simp] theorem setMbx_due (bs : List Byte) (s : State) : (setMbx bs s).due = s.due := by
  simp [setMbx]
@[simp] theorem sendOn_due (q : ScribeReq) (m : List Byte) (s : State) :
    (sendOn q m s).due = s.due := by
  unfold sendOn
  split
  · split
    · simp
    · rfl
  · split
    · exact foldl_due _ _ _ (fun a p => by simp)
    · simp
@[simp] theorem discard_due (path : Nat) (s : State) : (discard path s).due = s.due := by
  unfold discard
  repeat' split
  all_goals (first | rfl | simp)
@[simp] theorem respond_due (q : ScribeReq) (st : CmdStatus) (payload : List Byte) (s : State) :
    (respond q st payload s).due = s.due := by
  have h : (if st = .stateRefused then s.gcount Reg.SCB_COUNT 15 0 else s).due = s.due := ite_due (by simp) rfl
  unfold respond
  dsimp only
  exact (sendOn_due _ _ _).trans (ite_due ((State.modScribe_due _ _).trans h) h)
@[simp] theorem noteRequest_due (m : List Byte) (s : State) : (noteRequest m s).due = s.due := by
  rw [noteRequest]
  by_cases h : msgOpcode m = 1
  · rw [if_pos h]
  · rw [if_neg h]
    exact State.modScribe_due _ _
@[simp] theorem scribeArrive_due (q : ScribeReq) (s : State) :
    (scribeArrive q s).due = s.due := by
  unfold scribeArrive
  dsimp only
  refine ite_due (by simp) (ite_due (by simp) (ite_due (by simp) (ite_due (ite_due ?_ ?_) (by simp))))
  · exact (State.modScribe_due _ _).trans (noteRequest_due _ _)
  · exact (respond_due _ _ _ _).trans (noteRequest_due _ _)
@[simp] theorem scbCommand_due (r : Requester) (w : Word) (s : State) : (scbCommand r w s).due = s.due := by
  unfold scbCommand
  split
  · rfl
  · refine runCommand_due _ _ _ _ _ _ (fun c a => State.modScribe_due _ _) (by simp) ?_
    dsimp only
    split
    · exact (scribeArrive_due _ _).trans (State.modScribe_due _ _)
    · rfl
@[simp] theorem mbxWrite_due (r : Requester) (k : Nat) (h : Half) (w : Word) (s : State) :
    (mbxWrite r k h w s).due = s.due := by
  unfold mbxWrite
  repeat' split
  all_goals simp
@[simp] theorem tamperCfgWrite_due (r : Requester) (h : Half) (w : Word) (s : State) :
    (tamperCfgWrite r h w s).due = s.due := by
  unfold tamperCfgWrite
  repeat' split
  all_goals simp
@[simp] theorem opHello_due (x0 : Nat) (x1 : List Byte) (s : State) : (opHello x0 x1 s).2.2.due = s.due := by
  rfl
@[simp] theorem readPart_due (obj : List Byte) (off : Nat) (len : Nat) (s : State) :
    (readPart obj off len s).2.2.due = s.due := by
  unfold readPart
  repeat' split
  all_goals simp
@[simp] theorem opSealRead_due (x0 : Nat) (p : List Byte) (s : State) : (opSealRead x0 p s).2.2.due = s.due := by
  unfold opSealRead
  repeat' split
  all_goals simp
@[simp] theorem opCertRead_due (x0 : Nat) (p : List Byte) (s : State) : (opCertRead x0 p s).2.2.due = s.due := by
  unfold opCertRead
  repeat' split
  all_goals simp
@[simp] theorem opTamperClear_due (low : Nat) (x1 : Nat) (p : List Byte) (s : State) :
    (opTamperClear low x1 p s).2.2.due = s.due := by
  simp only [opTamperClear]
  repeat' split
  all_goals (first | rfl | simp)
@[simp] theorem opNotifySet_due (x0 : Nat) (p : List Byte) (s : State) : (opNotifySet x0 p s).2.2.due = s.due := by
  unfold opNotifySet
  repeat' split
  all_goals (first | rfl | simp)
@[simp] theorem opFwWrite_due (x0 : Nat) (p : List Byte) (s : State) : (opFwWrite x0 p s).2.2.due = s.due := by
  simp only [opFwWrite]
  repeat' split
  all_goals simp
@[simp] theorem opCommitSvn_due (x0 : Nat) (p : List Byte) (s : State) : (opCommitSvn x0 p s).2.2.due = s.due := by
  unfold opCommitSvn
  repeat' split
  all_goals (first | rfl | simp)
@[simp] theorem opMcuReload_due (x0 : Nat) (p : List Byte) (s : State) : (opMcuReload x0 p s).2.2.due = s.due := by
  unfold opMcuReload
  split <;> (try split) <;> (try split) <;> (try split) <;> first | rfl | (simp; done) | (simp [apply_ite State.due]; done)
@[simp] theorem mctpReply_due (bs : List Byte) (s : State) : (mctpReply bs s).due = s.due := by
  unfold mctpReply
  repeat' split
  all_goals simp
@[simp] theorem setEid_due (op eid : Nat) (s : State) : (setEid op eid s).due = s.due := by
  unfold setEid
  split
  · rw [mctpReply_due]
    split
    · exact State.modScribe_due _ _
    · rfl
  · simp
@[simp] theorem getEid_due (s : State) : (getEid s).due = s.due := by
  simp [getEid]
@[simp] theorem mctpVersion_due (s : State) : (mctpVersion s).due = s.due := by
  simp [mctpVersion]
@[simp] theorem mctpTypes_due (s : State) : (mctpTypes s).due = s.due := by
  simp [mctpTypes]
@[simp] theorem mctpVendor_due (s : State) : (mctpVendor s).due = s.due := by
  simp [mctpVendor]
@[simp] theorem arpReply_due (mac : List Byte) (ip : List Byte) (target : List Byte) (s : State) :
    (arpReply mac ip target s).due = s.due := by
  unfold arpReply
  repeat' split
  all_goals simp
@[simp] theorem echoReply_due (v6 : Bool) (ip : List Byte) (body : List Byte) (s : State) :
    (echoReply v6 ip body s).due = s.due := by
  unfold echoReply
  repeat' split
  all_goals simp
@[simp] theorem neighbourReply_due (target : List Byte) (ip : List Byte) (s : State) :
    (neighbourReply target ip s).due = s.due := by
  unfold neighbourReply
  repeat' split
  all_goals simp
@[simp] theorem alertResponse_due (s : State) : (alertResponse s).due = s.due := by
  unfold alertResponse
  repeat' split
  all_goals simp
@[simp] theorem drivePin_due (n : Nat) (s : State) :
    (drivePin n s).due = s.due := by
  unfold drivePin
  dsimp only
  repeat' split
  all_goals simp
@[simp] theorem pmxSwitch_due (old : Pmx) (s : State) :
    (pmxSwitch old s).due = s.due := by
  rw [pmxSwitch, foldl_due]
  intro a n
  split
  · simp
  · split
    · rw [drivePin_due]
      rfl
    · rfl
@[simp] theorem pmxApply_due (s : State) : (pmxApply s).2.due = s.due := by
  unfold pmxApply
  repeat' split
  all_goals simp
@[simp] theorem pmxCommand_due (r : Requester) (w : Word) (s : State) : (pmxCommand r w s).due = s.due := by
  unfold pmxCommand
  refine runCommand_due _ _ _ _ _ _ (by simp) (by simp) ?_
  split <;> simp
@[simp] theorem pulse_due (f : Nat) (s : State) : (pulse f s).due = s.due := by
  rfl
@[simp] theorem pulsesFall_due (t : Nat) (s : State) :
    (pulsesFall t s).due = s.due := by
  first
  | rfl
  | (simp [pulsesFall]; done)
  | (unfold pulsesFall; (repeat' split) <;> simp)
  | (simp only [pulsesFall]; (repeat' split) <;> first | rfl | simp)
@[simp] theorem ppsOut_due (f : Nat) (s : State) : (ppsOut f s).due = s.due := by
  unfold ppsOut
  repeat' split
  all_goals simp
@[simp] theorem gateTrig_due (g : Nat) (s : State) : (gateTrig g s).due = s.due := by
  simp only [gateTrig]
  repeat' split
  all_goals simp
@[simp] theorem captureFault_due (i : Fin 16) (k : Nat) (s : State) :
    (captureFault i k s).due = s.due := by
  simp only [captureFault]
  repeat' split
  all_goals simp
@[simp] theorem faultIntDeferred_due (u : Nat) (s : State) : (faultIntDeferred u s).due = s.due := by
  simp only [faultIntDeferred]
  repeat' split
  all_goals simp
@[simp] theorem fltRefused_due (u : Nat) (s : State) : (fltRefused u s).due = s.due := by
  unfold fltRefused
  repeat' split
  all_goals simp
@[simp] theorem fltHistRead_due (u : Nat) (n : Nat) (s : State) : (fltHistRead u n s).2.due = s.due := by
  simp [fltHistRead]
@[simp] theorem latchStraps_due (s : State) : (latchStraps s).due = s.due := by
  rfl
@[simp] theorem applyStraps_due (s : State) : (applyStraps s).due = s.due := by
  unfold applyStraps
  dsimp only
  generalize h : List.foldl (fun (a : State) (p : Nat) => a.modPf p _) _ _ = x
  have hx : x.due = s.due := by rw [← h]; simp
  rw [due_mk]
  exact hx
@[simp] theorem endStart_due (s : State) : (endStart s).due = s.due := by
  unfold endStart
  repeat' split
  all_goals simp
@[simp] theorem linksDown_due (s : State) : (linksDown s).due = s.due := by
  simp [linksDown]
@[simp] theorem rootPllLock_due (s : State) : (rootPllLock s).due = s.due := by
  unfold rootPllLock
  repeat' split
  all_goals simp
@[simp] theorem strapOwners_due (s : State) :
    (strapOwners s).due = s.due := by
  first
  | rfl
  | (simp [strapOwners]; done)
  | (unfold strapOwners; (repeat' split) <;> simp)
  | (simp only [strapOwners]; (repeat' split) <;> first | rfl | simp)
@[simp] theorem pwrOkRise_due (pins : Word) (s : State) : (pwrOkRise pins s).due = s.due := by
  unfold pwrOkRise
  repeat' split
  all_goals simp
@[simp] theorem putRst_due (c : CmdReg) (s : State) : (putRst c s).due = s.due := by
  rfl
@[simp] theorem refuseRst_due (s : State) : (refuseRst s).due = s.due := by
  rfl
@[simp] theorem rstStart_due (s : State) : (rstStart s).2.due = s.due := by
  exact judge_due _ _ _ rfl
@[simp] theorem rstStatusWrite_due (r : Requester) (h : Half) (w : Word) (s : State) :
    (rstStatusWrite r h w s).due = s.due := by
  unfold rstStatusWrite
  repeat' split
  all_goals simp
@[simp] theorem clkStatusWrite_due (r : Requester) (h : Half) (w : Word) (s : State) :
    (clkStatusWrite r h w s).due = s.due := by
  unfold clkStatusWrite
  repeat' split
  all_goals simp
@[simp] theorem gpioRead_due (s : State) : (gpioRead s).2.due = s.due := by
  rfl
@[simp] theorem peek_due (off : Nat) (s : State) : (peek off s).2.due = s.due := by
  unfold peek
  repeat' split
  all_goals simp
@[simp] theorem clearSlice_due (i : Fin 16) (o : Nat) (h : Half) (s : State) : (clearSlice i o h s).due = s.due := by
  unfold clearSlice
  repeat' split
  all_goals simp
@[simp] theorem clearGlobal_due (o : Nat) (h : Half) (s : State) : (clearGlobal o h s).due = s.due := by
  unfold clearGlobal
  repeat' split
  all_goals simp
@[simp] theorem pmcSmpRead_due (i : Fin 16) (s : State) : (pmcSmpRead i s).2.due = s.due := by
  rfl
@[simp] theorem readSlice_due (r : Requester) (i : Fin 16) (o : Nat) (h : Half) (s : State) :
    (readSlice r i o h s).2.due = s.due := by
  unfold readSlice
  repeat' split
  all_goals simp
@[simp] theorem readGlobal_due (r : Requester) (o : Nat) (h : Half) (s : State) : (readGlobal r o h s).2.due = s.due := by
  unfold readGlobal
  repeat' split
  all_goals simp
@[simp] theorem readReg_due (r : Requester) (off : Nat) (h : Half) (s : State) : (readReg r off h s).2.due = s.due := by
  unfold readReg
  repeat' split
  all_goals simp
@[simp] theorem readAt_due (r : Requester) (off : Nat) (h : Half) (s : State) : (readAt r off h s).due = s.due := by
  unfold readAt
  split <;> simp
@[simp] theorem regRead_due (r : Requester) (off : Nat) (size : Nat) (s : State) : (regRead r off size s).due = s.due := by
  unfold regRead
  repeat' split
  all_goals simp
@[simp] theorem pmcIntDeferred_due (i : Fin 16) (s : State) : (pmcIntDeferred i s).due = s.due := by
  simp only [pmcIntDeferred]
  repeat' split
  all_goals simp
@[simp] theorem pmcCfgWrite_due (i : Fin 16) (r : Requester) (k : Nat) (h : Half) (w : Word) (s : State) :
    (pmcCfgWrite i r k h w s).due = s.due := by
  simp only [pmcCfgWrite]
  repeat' split
  all_goals simp
@[simp] theorem latchList_due (n k : Nat) (s : State) : (latchList n k s).2.due = s.due := by
  induction n generalizing s k with
  | zero => rfl
  | succ n ih =>
    rw [latchList]
    dsimp only
    rw [ih]
    split <;> simp
@[simp] theorem State.modTally_due (s : State) (f : Tally → Tally) : (State.modTally s f).due = s.due := by
  rfl
@[simp] theorem tallyTick_due (s : State) : (tallyTick s).due = s.due := by
  unfold tallyTick
  repeat' split
  all_goals simp
@[simp] theorem tallySend_due (pf : Nat) (a : Nat) (x : Snapshot) (s : State) :
    (tallySend pf a x s).due = s.due := by
  first
  | rfl
  | (simp [tallySend]; done)
  | (unfold tallySend; (repeat' split) <;> simp)
  | (simp only [tallySend]; (repeat' split) <;> first | rfl | simp)
@[simp] theorem tallyStopped_due (s : State) :
    (tallyStopped s).due = s.due := by
  first
  | rfl
  | (simp [tallyStopped]; done)
  | (unfold tallyStopped; (repeat' split) <;> simp)
  | (simp only [tallyStopped]; (repeat' split) <;> first | rfl | simp)
@[simp] theorem tallyDone_due (s : State) : (tallyDone s).due = s.due := by
  unfold tallyDone
  repeat' split
  all_goals simp
@[simp] theorem tallyWrite_due (r : Requester) (o : Nat) (h : Half) (w : Word) (s : State) :
    (tallyWrite r o h w s).due = s.due := by
  simp only [tallyWrite]
  repeat' split
  all_goals simp
@[simp] theorem refuseAt_due (off : Nat) (s : State) : (refuseAt off s).due = s.due := by
  simp only [refuseAt]
  repeat' split
  all_goals simp
@[simp] theorem plainSlice_due (i : Fin 16) (r : Requester) (o : Nat) (h : Half) (w : Word) (s : State) :
    (plainSlice i r o h w s).due = s.due := by
  unfold plainSlice
  repeat' split
  all_goals simp
@[simp] theorem pmcCtrWrite_due (i : Fin 16) (k : Nat) (s : State) :
    (pmcCtrWrite i k s).due = s.due := by
  unfold pmcCtrWrite
  dsimp only
  split
  · rfl
  · simp
@[simp] theorem plainGlobal_due (may : Bool) (o : Nat) (h : Half) (w : Word) (s : State) :
    (plainGlobal may o h w s).due = s.due := by
  unfold plainGlobal
  repeat' split
  all_goals simp
@[simp] theorem seedNextWrite_due (r : Requester) (h : Half) (w : Word) (s : State) :
    (seedNextWrite r h w s).due = s.due := by
  unfold seedNextWrite
  repeat' split
  all_goals simp
@[simp] theorem winDataWrite_due (r : Requester) (o : Nat) (h : Half) (w : Word) (s : State) :
    (winDataWrite r o h w s).due = s.due := by
  unfold winDataWrite
  repeat' split
  all_goals simp
@[simp] theorem gpioWrite_due (r : Requester) (h : Half) (w : Word) (s : State) : (gpioWrite r h w s).due = s.due := by
  unfold gpioWrite
  split
  · dsimp only
    rw [foldl_due]
    · simp
    · intro a k
      repeat' split
      all_goals simp
  · rfl
@[simp] theorem writeWindow_due (i : Fin 16) (r : Requester) (o : Nat) (h : Half) (w : Word) (s : State) :
    (writeWindow i r o h w s).due = s.due := by
  unfold writeWindow
  repeat' split
  all_goals simp
@[simp] theorem writeAt_due (r : Requester) (off : Nat) (h : Half) (w : Word) (f : State → State) (s : State)
    (hf : ∀ a, (f a).due = a.due) (hw : s.writes = []) : (writeAt r off h w f s).due = s.due := by
  unfold writeAt
  dsimp only
  split
  · rw [State.collides, hw]
    simp [hf]
  · split <;> simp
@[simp] theorem sliceCmd_due (i : Fin 16) (o : Nat) (r : Requester) (w : Word) (f : State → State) (s : State)
    (hf : ∀ a, (f a).due = a.due) (hw : s.writes = []) : (sliceCmd i o r w f s).due = s.due := by
  simp [sliceCmd, hf, hw]
@[simp] theorem globalCmd_due (o : Nat) (r : Requester) (w : Word) (f : State → State) (s : State)
    (hf : ∀ a, (f a).due = a.due) (hw : s.writes = []) : (globalCmd o r w f s).due = s.due := by
  simp [globalCmd, hf, hw]
@[simp] theorem frozenRequest_due (pf : Nat) (l : Nat) (posted : Bool) (s : State) :
    (frozenRequest pf l posted s).due = s.due := by
  unfold frozenRequest
  repeat' split
  all_goals simp
@[simp] theorem isolated_due (s : State) : (isolated s).due = s.due := by
  rfl
@[simp] theorem hostAccessEvent_due (i : Fin 16) (pf : Nat) (s : State) : (hostAccessEvent i pf s).due = s.due := by
  simp [hostAccessEvent]
@[simp] theorem sendPending_due (pf : Nat) (s : State) : (sendPending pf s).due = s.due := by
  simp [sendPending, apply_ite State.due]
@[simp] theorem msixAccess_due (pf : Fin 16) (off : Nat) (len : Nat) (data : Option (List Byte)) (s : State) :
    (msixAccess pf off len data s).due = s.due := by
  simp only [msixAccess]
  repeat' split
  all_goals simp
@[simp] theorem readRegs_due (n off : Nat) (s : State) : (readRegs n off s).2.due = s.due := by
  induction n generalizing s off with
  | zero => rfl
  | succ n ih => simp [readRegs, ih]
@[simp] theorem opRegRead_due (x0 : Nat) (p : List Byte) (s : State) : (opRegRead x0 p s).2.2.due = s.due := by
  simp only [opRegRead]
  repeat' split
  all_goals simp
@[simp] theorem clearAlert_due (u : Nat) (s : State) : (clearAlert u s).due = s.due := by
  simp only [clearAlert]
  repeat' split
  all_goals (first | rfl | simp)
@[simp] theorem opFaultRead_due (x0 : Nat) (p : List Byte) (s : State) : (opFaultRead x0 p s).2.2.due = s.due := by
  simp only [opFaultRead]
  repeat' split
  all_goals simp
@[simp] theorem backSlots_due (i : Fin 16) (s : State) : (backSlots i s).due = s.due := by
  simp [backSlots]
@[simp] theorem tickSlice_due (s : State) (i : Fin 16) : (tickSlice s i).due = s.due := by
  simp [tickSlice]
@[simp] theorem stepSlices_due (before : State) (s : State) :
    (stepSlices before s).due = s.due := by
  simp [stepSlices]
@[simp] theorem whenUp_due (f : State → State) (s : State) (hf : ∀ a, (f a).due = a.due) : (whenUp f s).due = s.due := by
  unfold whenUp
  split
  · exact hf s
  · rfl
@[simp] theorem spadAccess_due (i : Fin 16) (r : Requester) (c : Nat) (n : Nat) (h : Half) (data : Option Word) (s : State)
    (hw : s.writes = []) : (spadAccess i r c n h data s).due = s.due := by
  unfold spadAccess
  repeat' split
  all_goals simp [hw]
@[simp] theorem time0At_due (r : Requester) (unit : Option (Fin 16)) (h : Half) (s : State) :
    (time0At r unit h s).due = s.due := by
  unfold time0At
  repeat' split
  all_goals simp
@[simp] theorem fltHistAt_due (r : Requester) (u : Nat) (e : Nat) (h : Half) (s : State) :
    (fltHistAt r u e h s).due = s.due := by
  simp [fltHistAt]
@[simp] theorem State.withFetchWord_due (s : State) (nbits : Nat) (w : Nat) :
    (State.withFetchWord s nbits w).due = s.due := by
  rfl
end Sys2Proof.Machine
end

