-- ==== Sys2Proof/Laws/Pmc.lean ====
section
/-!
SUPPORT. What counting an event, a sample and a slot may change: the performance counters of one slice, and what leaves toward
the host (R453 to R459).
-/
namespace Sys2Proof.Machine
open Sys2Proof

theorem State.modSlice_modSlice (s : State) (i : Fin 16) (f g : Slice → Slice) :
    (s.modSlice i f).modSlice i g = s.modSlice i (fun x => g (f x)) := by
  simp [State.modSlice, Vector.set_set]

/-- A slice register of the PMC block. -/
def pmcReg (o : Nat) : Prop := 0x100000 ≤ o ∧ o < 0x102000

/-- The two slices differ in their performance counters and samples alone. -/
structure Slice.PmcOnly (x y : Slice) : Prop where
  rest    : y = { x with regs := y.regs, pmc := y.pmc }
  regs    : ∀ o, ¬ pmcReg o → y.reg o = x.reg o
  retired : y.pmc.retired = x.pmc.retired
  wasted  : y.pmc.wasted = x.pmc.wasted
/-- The two states differ in the performance counters of slice `i`, and in what has left toward the host, alone. -/
structure PmcOnly (i : Fin 16) (s u : State) : Prop where
  rest   : u = { s with slices := u.slices, host := u.host, out := u.out }
  others : ∀ j, j ≠ i → u.slice j = s.slice j
  slice  : (s.slice i).PmcOnly (u.slice i)

theorem Slice.PmcOnly.refl (x : Slice) : x.PmcOnly x := ⟨rfl, fun _ _ => rfl, rfl, rfl⟩
theorem Slice.PmcOnly.trans {x y z : Slice} (h : x.PmcOnly y) (k : y.PmcOnly z) : x.PmcOnly z := by
  refine ⟨?_, fun o ho => (k.regs o ho).trans (h.regs o ho), k.retired.trans h.retired, k.wasted.trans h.wasted⟩
  have h1 := k.rest
  rw [h.rest] at h1
  exact h1
theorem PmcOnly.refl (i : Fin 16) (s : State) : PmcOnly i s s := ⟨rfl, fun _ _ => rfl, .refl _⟩
theorem PmcOnly.trans {i : Fin 16} {s t u : State} (h : PmcOnly i s t) (k : PmcOnly i t u) : PmcOnly i s u := by
  refine ⟨?_, fun j hj => (k.others j hj).trans (h.others j hj), h.slice.trans k.slice⟩
  have h1 := k.rest
  rw [h.rest] at h1
  exact h1

theorem PmcOnly.due {i : Fin 16} {s u : State} (h : PmcOnly i s u) : u.due = s.due := by rw [h.rest]
theorem PmcOnly.writes {i : Fin 16} {s u : State} (h : PmcOnly i s u) : u.writes = s.writes := by rw [h.rest]
theorem PmcOnly.threads {i : Fin 16} {s u : State} (h : PmcOnly i s u) : (u.slice i).threads = (s.slice i).threads := by rw [h.slice.rest]
theorem PmcOnly.clusters {i : Fin 16} {s u : State} (h : PmcOnly i s u) : (u.slice i).clusters = (s.slice i).clusters := by rw [h.slice.rest]

/-- A change of slice `i` that touches its counters alone. -/
theorem PmcOnly.modSlice {i : Fin 16} {s : State} {f : Slice → Slice} (h : (s.slice i).PmcOnly (f (s.slice i))) :
    PmcOnly i s (s.modSlice i f) := by
  refine ⟨rfl, fun j hj => State.slice_modSlice_ne s f hj.symm, ?_⟩
  rw [State.slice_modSlice]
  exact h
theorem Slice.PmcOnly.setReg (x : Slice) (o : Nat) (w : Word) (h : pmcReg o) : x.PmcOnly (x.setReg o w) := by
  refine ⟨rfl, fun r hr => ?_, rfl, rfl⟩
  have : o ≠ r := fun e => hr (e ▸ h)
  simp [Slice.reg, Slice.setReg, NMap.get_set_ne _ _ _ _ this]
theorem PmcOnly.setReg (i : Fin 16) (s : State) (o : Nat) (w : Word) (h : pmcReg o) : PmcOnly i s (s.setReg i o w) :=
  .modSlice (.setReg _ o w h)
theorem PmcOnly.count (i : Fin 16) (s : State) (o hi lo : Nat) (h : pmcReg o) : PmcOnly i s (s.count i o hi lo) :=
  .modSlice (.setReg _ o _ h)
theorem PmcOnly.msi (i : Fin 16) (s : State) (pf v : Nat) : PmcOnly i s (s.msi pf v) := by
  unfold State.msi
  simp only
  split
  · split <;> exact ⟨rfl, fun _ _ => rfl, .refl _⟩
  · exact .refl _ _

theorem pmcInterrupt_only (i : Fin 16) (s : State) : PmcOnly i s (pmcInterrupt i s) := by
  have send : ∀ v, PmcOnly i s (((s.modSlice i (fun y => { y with pmc := { y.pmc with lastInt := some s.uptime } }))).msi
      (s.slice i).owner.val v) := fun v =>
    PmcOnly.trans (PmcOnly.modSlice ⟨rfl, fun _ _ => rfl, rfl, rfl⟩) (.msi i _ _ _)
  unfold pmcInterrupt
  simp only
  split
  · split
    · exact .refl _ _
    · split
      · exact .modSlice ⟨rfl, fun _ _ => rfl, rfl, rfl⟩
      · exact send _
  · exact send _
theorem pmcBump_only (i : Fin 16) {k : Nat} (n : Nat) (s : State) (hk : k < 16) : PmcOnly i s (pmcBump i k n s).1 := by
  have h1 : pmcReg (pmcCtr k) := by simp [pmcReg, pmcCtr, Reg.PMC_CTR]; omega
  have h2 : pmcReg Reg.PMC_STATUS := by simp [pmcReg, Reg.PMC_STATUS]
  unfold pmcBump
  simp only
  have h0 : PmcOnly i s (s.modSlice i (fun y => { y with pmc := { y.pmc with added := NMap.set 0 y.pmc.added k (NMap.get 0 y.pmc.added k + n) } })) :=
    .modSlice ⟨rfl, fun _ _ => rfl, rfl, rfl⟩
  split
  · exact h0.trans (.setReg i _ _ _ h1)
  · have h3 := fun w1 w2 => h0.trans (PmcOnly.trans (.setReg i _ (pmcCtr k) w1 h1) (.setReg i _ Reg.PMC_STATUS w2 h2))
    show PmcOnly i s (ite _ _ _)
    split
    · exact PmcOnly.trans (h3 _ _) (pmcInterrupt_only i _)
    · exact h3 _ _
/-- A fold of steps each of which touches the counters alone. -/
theorem PmcOnly.foldl {i : Fin 16} {α β : Type} (get : β → State) (f : β → α → β) (l : List α) (b : β)
    (h : ∀ b, ∀ a ∈ l, PmcOnly i (get b) (get (f b a))) : PmcOnly i (get b) (get (l.foldl f b)) := by
  induction l generalizing b with
  | nil => exact .refl _ _
  | cons a l ih => exact PmcOnly.trans (h b a List.mem_cons_self) (ih (f b a) (fun b a ha => h b a (List.mem_cons_of_mem _ ha)))
/-- Counting an event changes nothing but the counters of its slice and what leaves toward the host. -/
theorem pmcEventS_only (i : Fin 16) (ev n : Nat) (a : PmcAttr) (s : State) : PmcOnly i s (pmcEventS i ev n a s).1 := by
  unfold pmcEventS
  simp only
  have hf := PmcOnly.foldl (i := i) (fun (r : State × List Nat × Bool) => r.1)
    (fun acc k => if (s.slice i).pmcCounts k ev a then
      ((pmcBump i k n acc.1).1, if (pmcBump i k n acc.1).2 && bitAt (s.reg i (pmcCfg k)) 62 then acc.2.1 ++ [k] else acc.2.1,
        acc.2.2 || (pmcBump i k n acc.1).2) else acc) (List.range 16) (s, [], false) (by
      intro b k hk
      show PmcOnly i b.1 (ite _ _ _ : State × List Nat × Bool).1
      split
      · exact pmcBump_only i n b.1 (List.mem_range.mp hk)
      · exact .refl _ _)
  split
  · exact PmcOnly.trans hf (.setReg i _ _ _ (by simp [pmcReg, Reg.PMC_CTRL]))
  · exact hf
theorem pmcEvent_only (i : Fin 16) (ev n : Nat) (a : PmcAttr) (s : State) : PmcOnly i s (pmcEvent i ev n a s) := pmcEventS_only i ev n a s
theorem pmcSample_only (i : Fin 16) (r : Sample) (s : State) : PmcOnly i s (pmcSample i r s) := by
  unfold pmcSample
  split
  · split
    · exact .modSlice ⟨rfl, fun _ _ => rfl, rfl, rfl⟩
    · exact .count i s Reg.PMC_SMP_STATUS 31 0 (by simp [pmcReg, Reg.PMC_SMP_STATUS])
  · exact .refl _ _
/-- The slot that an issue takes is kept with the counters (R457). -/
theorem useSlot_only (s : State) (i : Fin 16) (t cls pc : Nat) (retired : Bool) : PmcOnly i s (s.useSlot i t cls pc retired) :=
  .modSlice ⟨rfl, fun _ _ => rfl, rfl, rfl⟩
theorem pmcSamples_only (i : Fin 16) {α : Type} (l : List α) (f : α → Sample) (s : State) :
    PmcOnly i s (l.foldl (fun a k => pmcSample i (f k) a) s) :=
  PmcOnly.foldl (fun b => b) _ l s (fun b a _ => pmcSample_only i (f a) b)

end Sys2Proof.Machine
end

