-- ==== Sys2Proof/Laws/Issue.lean ====
section
/-!
SUPPORT. One issue of an instruction: what a plan that meets no exception does (R140, R141, R156).
-/
namespace Sys2Proof.Machine
open Sys2Proof

/-- A plan that breaks no condition and meets none raises no exception. -/
theorem Plan.cause_none {p : Plan} {w : Word} {th : Thread} {s : State} (hb : p.bad = false) (hz : p.zero = [])
    (hpc : th.pc ≠ 0x7FFF ∨ p.target.isSome = true ∨ p.ends = true) (hw : p.window = none)
    (ht : ∀ t, p.tag = some t → th.tag t ≠ .pending) (hr : th.tagsOf (p.reads ++ p.writes) = []) (hs : p.spad = none)
    (hf : p.fenced = []) (hsoft : p.soft = none) (hro : p.ro = false) : p.cause w th s = (none, s) := by
  have hpast : (if p.target.isNone && !p.ends && decide (th.pc = 0x7FFF) then [0x8000] else ([] : List Nat)) = [] := by
    rcases hpc with h | h | h
    · simp [h]
    · cases hq : p.target <;> simp_all
    · simp [h]
  unfold Plan.cause
  cases hq : p.tag with
  | none => simp only [hb, hz, hpast, hw, hr, hs, hf, hsoft, hro]; simp
  | some t => simp only [hb, hz, hpast, hw, hr, hs, hf, hsoft, hro, ht t hq]; simp

/-- The state in which a judged instruction acts: its scratchpad access is arbitrated, and its issue is counted. -/
theorem runPlan_sync {i : Fin 16} {t : Nat} {w : Word} {th : Thread} {p : Plan} {s : State} (hc : p.cause w th s = (none, s))
    (ht : p.tag = none)
    (hold : ∀ u, (p.act { th with firstAt := some (th.firstAt.getD s.cycle), nextAt := s.cycle + 1, pc := p.target.getD (th.pc + 1) } u).1.hold = .none) :
    ∃ e, PmcOnly i (spadArbitrate i t p.access (s.countRetired i (t / 64))) e ∧
      let r := p.act { th with firstAt := some (th.firstAt.getD s.cycle), nextAt := s.cycle + 1, pc := p.target.getD (th.pc + 1) } e
      PmcOnly i (r.2.setThread i t r.1) (runPlan i t w th p s) := by
  refine ⟨_, (useSlot_only _ i t p.cls th.pc true).trans (pmcEventS_only i 0x10 1 { cluster := t / 64, cls := p.cls, range := th.pc } _), ?_⟩
  unfold runPlan
  simp only [hc, ht, hold]
  exact .modSlice ⟨rfl, fun _ _ => rfl, rfl, rfl⟩

/-- A thread that is free, whose line is cached and whose next word is `w`, issues it. -/
theorem issue_go {i : Fin 16} {t : Nat} {w : Word} {plan : Thread → Packet → State → Plan} {s : State} {th : Thread} {p : Packet}
    (h1 : s.thread i t = some th) (h2 : s.packet i th.pkt = some p) (h3 : th.hold = .none)
    (h4 : ((s.slice i).cluster (t / 64)).cached (icacheLine th.bank th.pc) = true) (h5 : (s.slice i).instr th.bank th.pc = w) :
    issue i t w plan s = (let s1 := s.modCluster i (t / 64) (fun c => c.touch (icacheLine th.bank th.pc)); runPlan i t w th (plan th p s1) s1) := by
  unfold issue
  simp only [h1, h2, h3, h4, h5, if_true]

end Sys2Proof.Machine
end

