-- ==== Sys2Proof/Laws/Lasting.lean ====
section
/-!
SUPPORT. What no operation but those of the Scribe's OTP opcodes touches: the queue, the cycle count, the OTP.  One lemma per
operation: it leaves `State.lasting` as it was.
-/
namespace Sys2Proof.Machine
open Sys2Proof
@[simp] theorem lasting_mk (x0 x1 x2 x3 x4 x5 x6 x7 x8 x9 x10 x11 x12 x13 x14 x15 x16 x17 x18 x19 x20 x21 x22 x23 x24 x25 x26 x27 x28 x29 x30 x31 x32 x33 x34 x35 x36 x37 x38 x39 x40 x41 x42 x43) :
    State.lasting (State.mk x0 x1 x2 x3 x4 x5 x6 x7 x8 x9 x10 x11 x12 x13 x14 x15 x16 x17 x18 x19 x20 x21 x22 x23 x24 x25 x26 x27 x28 x29 x30 x31 x32 x33 x34 x35 x36 x37 x38 x39 x40 x41 x42 x43) = (x0, x1, x39.otp) := rfl
@[simp] theorem lasting_eta (s : State) : (s.pending, s.uptime, s.scribe.otp) = s.lasting := rfl
@[simp] theorem otp_mk (x0 x1 x2 x3 x4 x5 x6 x7 x8 x9 x10 x11 x12 x13 x14 x15 x16 x17 x18 x19 x20 x21 x22 x23 x24 x25 x26 x27 x28) :
    Scribe.otp (Scribe.mk x0 x1 x2 x3 x4 x5 x6 x7 x8 x9 x10 x11 x12 x13 x14 x15 x16 x17 x18 x19 x20 x21 x22 x23 x24 x25 x26 x27 x28) = Otp.mk x3 x4 x5 x6 x8 x9 := rfl
@[simp] theorem otp_eta (c : Scribe) : Otp.mk c.minSvn c.lc c.seed c.mgmt c.tampers c.acked = c.otp := rfl
@[simp] theorem foldl_lasting {α : Type} (f : State → α → State) (l : List α) (s : State) (hf : ∀ a x, (f a x).lasting = a.lasting) :
    (l.foldl f s).lasting = s.lasting := by
  induction l generalizing s with
  | nil => rfl
  | cons x l ih => simp [List.foldl, ih, hf]
theorem ite_lasting {c : Prop} [Decidable c] {a b s : State} (ha : a.lasting = s.lasting) (hb : b.lasting = s.lasting) :
    (if c then a else b).lasting = s.lasting := by
  split <;> assumption
@[simp] theorem State.modSlice_lasting (s : State) (i : Fin 16) (f : Slice → Slice) :
    (State.modSlice s i f).lasting = s.lasting := by
  rfl
@[simp] theorem State.setReg_lasting (s : State) (i : Fin 16) (o : Nat) (w : Word) :
    (State.setReg s i o w).lasting = s.lasting := by
  rfl
@[simp] theorem State.setGreg_lasting (s : State) (o : Nat) (w : Word) : (State.setGreg s o w).lasting = s.lasting := by
  rfl
@[simp] theorem State.count_lasting (s : State) (i : Fin 16) (o : Nat) (hi : Nat) (lo : Nat) :
    (State.count s i o hi lo).lasting = s.lasting := by
  rfl
@[simp] theorem State.gcount_lasting (s : State) (o : Nat) (hi : Nat) (lo : Nat) :
    (State.gcount s o hi lo).lasting = s.lasting := by
  rfl
@[simp] theorem State.countDrop_lasting (s : State) (i : Fin 16) (code : Nat) :
    (State.countDrop s i code).lasting = s.lasting := by
  rfl
@[simp] theorem State.draw_lasting (s : State) : (State.draw s).2.lasting = s.lasting := by
  rfl
@[simp] theorem State.emit_lasting (s : State) (o : Out) : (State.emit s o).lasting = s.lasting := by
  rfl
@[simp] theorem State.reply_lasting (s : State) (r : Requester) (off : Nat) (w : Word) :
    (State.reply s r off w).lasting = s.lasting := by
  rfl
@[simp] theorem runCommand_lasting (perm : Bool) (get : State → CmdReg) (put : CmdReg → State → State) (refuse : State → State)
    (body : State → CmdStatus × State) (s : State) (hp : ∀ c a, (put c a).lasting = a.lasting) (hr : ∀ a, (refuse a).lasting = a.lasting)
    (hb : (body s).2.lasting = s.lasting) : (runCommand perm get put refuse body s).lasting = s.lasting := by
  unfold runCommand
  dsimp only
  repeat' split
  all_goals simp [hp, hr, hb]
@[simp] theorem judge_lasting (checks : List (Bool × CmdStatus)) (s : State) (act : State → CmdStatus × State)
    (h : (act s).2.lasting = s.lasting) : (judge checks s act).2.lasting = s.lasting := by
  unfold judge
  split
  · rfl
  · exact h
@[simp] theorem State.modLane_lasting (s : State) (i : Fin 16) (k : Nat) (f : Lane → Lane) :
    (State.modLane s i k f).lasting = s.lasting := by
  rfl
@[simp] theorem State.countPort_lasting (s : State) (i : Fin 16) (k : Nat) (n : Nat) (by_ : Nat) :
    (State.countPort s i k n by_).lasting = s.lasting := by
  rfl
@[simp] theorem State.modCluster_lasting (s : State) (i : Fin 16) (c : Nat) (f : Cluster → Cluster) :
    (State.modCluster s i c f).lasting = s.lasting := by
  rfl
@[simp] theorem State.setThread_lasting (s : State) (i : Fin 16) (t : Nat) (th : Thread) :
    (State.setThread s i t th).lasting = s.lasting := by
  rfl
@[simp] theorem State.delThread_lasting (s : State) (i : Fin 16) (t : Nat) :
    (State.delThread s i t).lasting = s.lasting := by
  rfl
@[simp] theorem State.setPacket_lasting (s : State) (i : Fin 16) (p : Nat) (k : Packet) :
    (State.setPacket s i p k).lasting = s.lasting := by
  rfl
@[simp] theorem State.delPacket_lasting (s : State) (i : Fin 16) (p : Nat) :
    (State.delPacket s i p).lasting = s.lasting := by
  rfl
@[simp] theorem State.modPacket_lasting (s : State) (i : Fin 16) (p : Nat) (f : Packet → Packet) :
    (State.modPacket s i p f).lasting = s.lasting := by
  unfold State.modPacket
  repeat' split
  all_goals simp
@[simp] theorem State.setFrame_lasting (s : State) (n : Nat) (f : Frame) : (State.setFrame s n f).lasting = s.lasting := by
  rfl
@[simp] theorem State.modPf_lasting (s : State) (n : Nat) (f : Pf → Pf) : (State.modPf s n f).lasting = s.lasting := by
  rfl
@[simp] theorem State.modLink_lasting (s : State) (l : Nat) (f : Link → Link) :
    (State.modLink s l f).lasting = s.lasting := by
  rfl
@[simp] theorem State.msi_lasting (s : State) (pf : Nat) (vector : Nat) : (State.msi s pf vector).lasting = s.lasting := by
  simp only [State.msi]
  repeat' split
  all_goals simp
@[simp] theorem complete_lasting (pf : Nat) (status : Nat) (data : List Byte) (s : State) :
    (complete pf status data s).lasting = s.lasting := by
  rfl
@[simp] theorem refuseRead_lasting (pf : Nat) (status : Nat) (s : State) : (refuseRead pf status s).lasting = s.lasting := by
  rfl
@[simp] theorem unmapped_lasting (pf : Nat) (write : Bool) (s : State) : (unmapped pf write s).lasting = s.lasting := by
  unfold unmapped
  repeat' split
  all_goals simp
@[simp] theorem State.modFu_lasting (s : State) (u : Nat) (f : FaultUnit → FaultUnit) :
    (State.modFu s u f).lasting = s.lasting := by
  unfold State.modFu
  repeat' split
  all_goals simp
@[simp] theorem State.setSrc_lasting (s : State) (u : Nat) (id : Nat) (x : FaultSrc) :
    (State.setSrc s u id x).lasting = s.lasting := by
  simp [State.setSrc]
@[simp] theorem faultInterrupt_lasting (u : Nat) (s : State) : (faultInterrupt u s).lasting = s.lasting := by
  simp only [faultInterrupt]
  repeat' split
  all_goals simp
@[simp] theorem notifyEntry_lasting (e : HistEntry) (s : State) : (notifyEntry e s).lasting = s.lasting := by
  simp only [notifyEntry]
  repeat' split
  all_goals (first | rfl | simp)
@[simp] theorem writeHist_lasting (u : Nat) (e : HistEntry) (s : State) : (writeHist u e s).lasting = s.lasting := by
  simp [writeHist]
@[simp] theorem histEvent_lasting (u : Nat) (id : Nat) (kind : Nat) (syn : Nat) (forced : Bool) (s : State) :
    (histEvent u id kind syn forced s).lasting = s.lasting := by
  simp only [histEvent]
  repeat' split
  all_goals simp
@[simp] theorem rise_lasting (u : Nat) (id : Nat) (syn : Nat) (forced : Bool) (s : State) :
    (rise u id syn forced s).lasting = s.lasting := by
  simp only [rise]
  repeat' split
  all_goals simp
@[simp] theorem raiseEvent_lasting (u : Nat) (id : Nat) (syn : Nat) (forced : Bool) (s : State) :
    (raiseEvent u id syn forced s).lasting = s.lasting := by
  simp only [raiseEvent]
  repeat' split
  all_goals simp
@[simp] theorem setCond_lasting (u : Nat) (id : Nat) (c : Bool) (syn : Nat) (s : State) :
    (setCond u id c syn s).lasting = s.lasting := by
  simp only [setCond]
  repeat' split
  all_goals simp
@[simp] theorem liftSource_lasting (u : Nat) (id : Nat) (kind : Nat) (s : State) :
    (liftSource u id kind s).lasting = s.lasting := by
  simp only [liftSource]
  repeat' split
  all_goals simp
@[simp] theorem addendOf_lasting (num : Int) (den : Int) (s : State) : (addendOf num den s).2.2.lasting = s.lasting := by
  simp only [addendOf]
  repeat' split
  all_goals simp
@[simp] theorem applyCorr_lasting (num : Int) (den : Int) (s : State) : (applyCorr num den s).lasting = s.lasting := by
  simp [applyCorr]
@[simp] theorem slewAddend_lasting (e : Int) (s : State) : (slewAddend e s).lasting = s.lasting := by
  simp [slewAddend]
@[simp] theorem toHoldover_lasting (s : State) : (toHoldover s).lasting = s.lasting := by
  rfl
@[simp] theorem noteRun_lasting (e : Int) (integ : Int) (tau : Nat) (s : State) :
    (noteRun e integ tau s).lasting = s.lasting := by
  rfl
@[simp] theorem runLoop_lasting (e : Int) (tau : Nat) (s : State) : (runLoop e tau s).lasting = s.lasting := by
  unfold runLoop
  dsimp only
  rw [noteRun_lasting, applyCorr_lasting]
@[simp] theorem judgeLock_lasting (e : Int) (s : State) : (judgeLock e s).lasting = s.lasting := by
  rfl
@[simp] theorem noteSample_lasting (ref : RefTerm) (s : State) : (noteSample ref s).lasting = s.lasting := by
  simp [noteSample]
@[simp] theorem acceptSample_lasting (ref : RefTerm) (e : Int) (s : State) : (acceptSample ref e s).lasting = s.lasting := by
  simp only [acceptSample]
  repeat' split
  all_goals simp
@[simp] theorem offsetWrite_lasting (r : Requester) (h : Half) (w : Word) (s : State) :
    (offsetWrite r h w s).lasting = s.lasting := by
  simp only [offsetWrite]
  repeat' split
  all_goals simp
@[simp] theorem ppsEdge_lasting (interp : Nat) (s : State) : (ppsEdge interp s).lasting = s.lasting := by
  unfold ppsEdge
  repeat' split
  all_goals simp
@[simp] theorem refLoss_lasting (s : State) : (refLoss s).lasting = s.lasting := by
  unfold refLoss
  repeat' split
  all_goals simp
@[simp] theorem freqMeasure_lasting (f : Int) (s : State) : (freqMeasure f s).lasting = s.lasting := by
  unfold freqMeasure
  repeat' split
  all_goals simp
@[simp] theorem freqLoss_lasting (lost : Bool) (s : State) : (freqLoss lost s).lasting = s.lasting := by
  unfold freqLoss
  repeat' split
  all_goals simp
@[simp] theorem loadInteg_lasting (s : State) : (loadInteg s).lasting = s.lasting := by
  unfold loadInteg
  repeat' split
  all_goals simp
@[simp] theorem trfCtrlWrite_lasting (r : Requester) (h : Half) (w : Word) (s : State) :
    (trfCtrlWrite r h w s).lasting = s.lasting := by
  simp only [trfCtrlWrite]
  repeat' split
  all_goals simp
@[simp] theorem boundCfgWrite_lasting (r : Requester) (h : Half) (w : Word) (s : State) :
    (boundCfgWrite r h w s).lasting = s.lasting := by
  unfold boundCfgWrite
  repeat' split
  all_goals (first | rfl | simp)
@[simp] theorem boundLower_lasting (s : State) : (boundLower s).lasting = s.lasting := by
  unfold boundLower
  repeat' split
  all_goals simp
@[simp] theorem refuseTrf_lasting (s : State) : (refuseTrf s).lasting = s.lasting := by
  rfl
@[simp] theorem trfCommand_lasting (w : Word) (s : State) : (trfCommand w s).lasting = s.lasting := by
  unfold trfCommand
  refine runCommand_lasting _ _ _ _ _ _ (by simp) (by simp) ?_
  split
  · exact judge_lasting _ _ _ (by simp)
  · exact judge_lasting _ _ _ (by simp)
  · simp
  · rfl
@[simp] theorem trfCmd_lasting (r : Requester) (w : Word) (s : State) : (trfCmd r w s).lasting = s.lasting := by
  unfold trfCmd
  split
  · simp
  · exact runCommand_lasting _ _ _ _ _ _ (by simp) (by simp) rfl
@[simp] theorem stepTime_lasting (f : Nat → Nat) (s : State) : (stepTime f s).lasting = s.lasting := by
  simp [stepTime]
@[simp] theorem todApply_lasting (s : State) : (todApply s).lasting = s.lasting := by
  unfold todApply
  repeat' split
  all_goals simp
@[simp] theorem servoStepApply_lasting (s : State) : (servoStepApply s).lasting = s.lasting := by
  unfold servoStepApply
  repeat' split
  all_goals simp
@[simp] theorem freerunApply_lasting (s : State) : (freerunApply s).lasting = s.lasting := by
  unfold freerunApply
  repeat' split
  all_goals simp
@[simp] theorem checkSlice_lasting (late : Nat) (i : Fin 16) (s : State) : (checkSlice late i s).lasting = s.lasting := by
  simp only [checkSlice]
  repeat' split
  all_goals simp
@[simp] theorem timeMarker_lasting (lost : BitVec 16) (late : List Nat) (s : State) :
    (timeMarker lost late s).lasting = s.lasting := by
  simp [timeMarker, apply_ite State.lasting]
@[simp] theorem checkMissed_lasting (i : Fin 16) (s : State) : (checkMissed i s).lasting = s.lasting := by
  unfold checkMissed
  repeat' split
  all_goals simp
@[simp] theorem time0Read_lasting (u : Option (Fin 16)) (s : State) : (time0Read u s).2.lasting = s.lasting := by
  unfold time0Read
  split
  · rw [lasting_mk]
    rfl
  · simp
@[simp] theorem tickTime_lasting (s : State) : (tickTime s).lasting = s.lasting := by
  rfl
@[simp] theorem pmcInterrupt_lasting (i : Fin 16) (s : State) : (pmcInterrupt i s).lasting = s.lasting := by
  simp only [pmcInterrupt]
  repeat' split
  all_goals simp
@[simp] theorem pmcBump_lasting (i : Fin 16) (k : Nat) (n : Nat) (s : State) : (pmcBump i k n s).1.lasting = s.lasting := by
  simp only [pmcBump]
  repeat' split
  all_goals simp
@[simp] theorem pmcEventS_lasting (i : Fin 16) (ev n : Nat) (a : PmcAttr) (s : State) :
    (pmcEventS i ev n a s).1.lasting = s.lasting := by
  have h : ∀ (f : State × List Nat × Bool → Nat → State × List Nat × Bool) (_ : ∀ acc k, (f acc k).1.lasting = acc.1.lasting)
      (l : List Nat) (acc : State × List Nat × Bool), (l.foldl f acc).1.lasting = acc.1.lasting := by
    intro f hf l
    induction l with
    | nil => intro acc; rfl
    | cons k l ih => intro acc; rw [List.foldl_cons, ih, hf]
  rw [pmcEventS]
  dsimp only
  split
  · rw [State.setReg_lasting, h]
    intro acc k
    split <;> simp
  · rw [h]
    intro acc k
    split <;> simp
@[simp] theorem pmcEvent_lasting (i : Fin 16) (ev : Nat) (n : Nat) (a : PmcAttr) (s : State) :
    (pmcEvent i ev n a s).lasting = s.lasting := by
  simp [pmcEvent]
@[simp] theorem pmcSample_lasting (i : Fin 16) (rec_ : Sample) (s : State) : (pmcSample i rec_ s).lasting = s.lasting := by
  simp only [pmcSample]
  repeat' split
  all_goals simp
@[simp] theorem sampleDrain_lasting (i : Fin 16) (s : State) :
    (sampleDrain i s).lasting = s.lasting := by
  simp only [sampleDrain]
  split
  · rfl
  · split
    · simp
    · simp
@[simp] theorem State.countRetired_lasting (s : State) (i : Fin 16) (c : Nat) :
    (State.countRetired s i c).lasting = s.lasting := by
  rfl
@[simp] theorem State.countWasted_lasting (s : State) (i : Fin 16) (c : Nat) :
    (State.countWasted s i c).lasting = s.lasting := by
  rfl
@[simp] theorem State.useSlot_lasting (s : State) (i : Fin 16) (t : Nat) (cls : Nat) (pc : Nat) (retired : Bool) :
    (State.useSlot s i t cls pc retired).lasting = s.lasting := by
  first
  | rfl
  | (simp [State.useSlot]; done)
  | (unfold State.useSlot; (repeat' split) <;> simp)
  | (simp only [State.useSlot]; (repeat' split) <;> first | rfl | simp)
@[simp] theorem wasteSlot_lasting (i : Fin 16) (t : Nat) (s : State) :
    (wasteSlot i t s).lasting = s.lasting := by
  unfold wasteSlot
  split
  · rfl
  · split
    · rw [pmcEvent_lasting, State.countWasted_lasting, State.modSlice_lasting, foldl_lasting]
      intro b k
      split <;> simp
    · rfl
@[simp] theorem allocGeneral_lasting (i : Fin 16) (owner : Nat) (c7 : Bool) (s : State) :
    (allocGeneral i owner c7 s).2.lasting = s.lasting := by
  simp only [allocGeneral]
  repeat' split
  all_goals simp
@[simp] theorem refuseFree_lasting (i : Fin 16) (kind : Nat) (ptr : Nat) (given : Nat) (s : State) :
    (refuseFree i kind ptr given s).lasting = s.lasting := by
  simp [refuseFree]
@[simp] theorem listBroken_lasting (i : Fin 16) (ptr : Nat) (s : State) :
    (listBroken i ptr s).lasting = s.lasting := by
  simp only [listBroken]
  repeat' split
  all_goals simp
@[simp] theorem freePtr_lasting (i : Fin 16) (ptr : Nat) (owner : Nat) (s : State) :
    (freePtr i ptr owner s).1.lasting = s.lasting := by
  simp only [freePtr]
  repeat' split
  all_goals simp
@[simp] theorem freeChain_lasting (i : Fin 16) (owner : Nat) (y0 : List Nat) (y1 : State) :
    (freeChain i owner y0 y1).2.lasting = y1.lasting := by
  induction y0 generalizing y1 with
  | nil => rfl
  | cons c cs ih =>
    simp only [freeChain]
    repeat' split
    all_goals simp [ih]
@[simp] theorem linkCell_lasting (i : Fin 16) (chain : List Nat) (c : Nat) (s : State) :
    (linkCell i chain c s).lasting = s.lasting := by
  simp only [linkCell]
  repeat' split
  all_goals simp
@[simp] theorem allocPool_lasting (i : Fin 16) (n : Nat) (owner : Nat) (s : State) :
    (allocPool i n owner s).2.lasting = s.lasting := by
  simp only [allocPool]
  repeat' split
  all_goals simp
@[simp] theorem freeOrder_lasting (n : Nat) (l : List Nat) (s : State) : (freeOrder n l s).2.lasting = s.lasting := by
  induction n generalizing s l with
  | zero => rfl
  | succ n ih =>
    unfold freeOrder
    split
    · rfl
    · simp [ih]
@[simp] theorem freelistRebuild_lasting (i : Fin 16) (k : Nat) (s : State) :
    (freelistRebuild i k s).lasting = s.lasting := by
  simp only [freelistRebuild]
  repeat' split
  all_goals simp
@[simp] theorem putBpm_lasting (i : Fin 16) (c : CmdReg) (s : State) : (putBpm i c s).lasting = s.lasting := by
  rfl
@[simp] theorem refuseBpm_lasting (i : Fin 16) (s : State) : (refuseBpm i s).lasting = s.lasting := by
  rfl
@[simp] theorem setResult_lasting (i : Fin 16) (w : Word) (s : State) : (setResult i w s).lasting = s.lasting := by
  rfl
@[simp] theorem bpmAlloc_lasting (i : Fin 16) (s : State) : (bpmAlloc i s).2.lasting = s.lasting := by
  unfold bpmAlloc
  dsimp only
  refine judge_lasting _ _ _ ?_
  split <;> rename_i h <;> (have h' := congrArg (fun z => z.2.lasting) h; simp at h') <;> simp [← h']
@[simp] theorem bpmFree_lasting (i : Fin 16) (s : State) : (bpmFree i s).2.lasting = s.lasting := by
  simp [bpmFree]
@[simp] theorem bpmQuery_lasting (i : Fin 16) (s : State) : (bpmQuery i s).2.lasting = s.lasting := by
  simp [bpmQuery]
@[simp] theorem bpmFormat_lasting (i : Fin 16) (s : State) : (bpmFormat i s).2.lasting = s.lasting := by
  simp [bpmFormat]
@[simp] theorem formatDone_lasting (i : Fin 16) (s : State) : (formatDone i s).lasting = s.lasting := by
  unfold formatDone
  repeat' split
  all_goals simp
@[simp] theorem bankDrained_lasting (i : Fin 16) (k : Nat) (s : State) : (bankDrained i k s).lasting = s.lasting := by
  simp only [bankDrained]
  repeat' split
  all_goals simp
@[simp] theorem bankRetain_lasting (i : Fin 16) (k : Nat) (s : State) : (bankRetain i k s).2.lasting = s.lasting := by
  simp [bankRetain]
@[simp] theorem bankWake_lasting (i : Fin 16) (k : Nat) (s : State) : (bankWake i k s).2.lasting = s.lasting := by
  simp only [bankWake]
  repeat' split
  all_goals simp
@[simp] theorem bankWakeDone_lasting (i : Fin 16) (s : State) : (bankWakeDone i s).lasting = s.lasting := by
  unfold bankWakeDone
  repeat' split
  all_goals simp
@[simp] theorem bpmCommand_lasting (i : Fin 16) (r : Requester) (w : Word) (x3 : State) :
    (bpmCommand i r w x3).lasting = x3.lasting := by
  unfold bpmCommand
  repeat' split
  all_goals simp
@[simp] theorem State.modRing_lasting (s : State) (i : Fin 16) (r : Nat) (f : Ring → Ring) :
    (State.modRing s i r f).lasting = s.lasting := by
  rfl
@[simp] theorem State.setTag_lasting (s : State) (t : Nat) (x : Option ReadTag) :
    (State.setTag s t x).lasting = s.lasting := by
  rfl
theorem takeTag_lasting {i : Fin 16} {r : Nat} {frame : Bool} {s s1 : State} {t : Nat} (h : takeTag i r frame s = some (t, s1)) :
    s1.lasting = s.lasting := by
  unfold takeTag at h
  dsimp only at h
  split at h
  · cases h
  · split at h
    · simp only [Option.map_eq_some_iff, Prod.mk.injEq] at h
      obtain ⟨x, -, -, rfl⟩ := h
      simp
    · cases h
@[simp] theorem issueRead_lasting (i : Fin 16) (r : Nat) (frame : Bool) (addr n : Nat) (s : State) :
    (issueRead i r frame addr n s).lasting = s.lasting := by
  unfold issueRead
  split
  · split
    · rename_i h
      simp [takeTag_lasting h]
    · simp
  · rfl
@[simp] theorem fetchFrame_lasting (i : Fin 16) (r : Nat) (addr : Nat) (n : Nat) (s : State) :
    (fetchFrame i r addr n s).lasting = s.lasting := by
  simp only [fetchFrame]
  repeat' split
  all_goals simp
@[simp] theorem kickRing_lasting (i : Fin 16) (r : Nat) (s : State) : (kickRing i r s).lasting = s.lasting := by
  simp only [kickRing]
  repeat' split
  all_goals simp
@[simp] theorem freeStaging_lasting (i : Fin 16) (r : Nat) (buf : Option Nat) (s : State) :
    (freeStaging i r buf s).lasting = s.lasting := by
  unfold freeStaging
  repeat' split
  all_goals simp
@[simp] theorem dropItem_lasting (i : Fin 16) (r : Nat) (it : RxItem) (s : State) :
    (dropItem i r it s).lasting = s.lasting := by
  unfold dropItem
  repeat' split
  all_goals simp
@[simp] theorem postItem_lasting (i : Fin 16) (r : Nat) (it : RxItem) (s : State) :
    (postItem i r it s).lasting = s.lasting := by
  simp only [postItem]
  repeat' split
  all_goals simp
@[simp] theorem clearRing_lasting (i : Fin 16) (r : Nat) (s : State) : (clearRing i r s).lasting = s.lasting := by
  simp [clearRing]
@[simp] theorem haltRing_lasting (i : Fin 16) (r : Nat) (st : RingState) (s : State) :
    (haltRing i r st s).lasting = s.lasting := by
  simp [haltRing]
@[simp] theorem ringFail_lasting (i : Fin 16) (r : Nat) (cause : Nat) (s : State) :
    (ringFail i r cause s).lasting = s.lasting := by
  first
  | rfl
  | (simp [ringFail]; done)
  | (unfold ringFail; (repeat' split) <;> simp)
  | (simp only [ringFail]; (repeat' split) <;> first | rfl | simp)
@[simp] theorem ringError_lasting (i : Fin 16) (r : Nat) (cause : Nat) (s : State) :
    (ringError i r cause s).lasting = s.lasting := by
  unfold ringError
  repeat' split
  all_goals simp
@[simp] theorem signalRing_lasting (i : Fin 16) (r : Nat) (s : State) : (signalRing i r s).lasting = s.lasting := by
  simp only [signalRing]
  repeat' split
  all_goals simp
@[simp] theorem advanceHead_lasting (i : Fin 16) (r : Nat) (s : State) : (advanceHead i r s).lasting = s.lasting := by
  simp [advanceHead]
@[simp] theorem dmaBytes_lasting (i : Fin 16) (r : Nat) (n : Nat) (s : State) :
    (dmaBytes i r n s).lasting = s.lasting := by
  first
  | rfl
  | (simp [dmaBytes]; done)
  | (unfold dmaBytes; (repeat' split) <;> simp)
  | (simp only [dmaBytes]; (repeat' split) <;> first | rfl | simp)
@[simp] theorem completeRx_lasting (i : Fin 16) (r : Nat) (addr : Nat) (bytes : List Byte) (comp : List Byte) (s : State) :
    (completeRx i r addr bytes comp s).lasting = s.lasting := by
  unfold completeRx
  repeat' split
  all_goals simp
@[simp] theorem rxDeliver_lasting (i : Fin 16) (r : Nat) (s : State) : (rxDeliver i r s).lasting = s.lasting := by
  simp only [rxDeliver]
  repeat' split
  all_goals simp
@[simp] theorem coalesceTimeout_lasting (i : Fin 16) (r : Nat) (s : State) :
    (coalesceTimeout i r s).lasting = s.lasting := by
  simp only [coalesceTimeout]
  repeat' split
  all_goals simp
@[simp] theorem rngCfgWrite_lasting (i : Fin 16) (q : Requester) (r : Nat) (h : Half) (w : Word) (s : State) :
    (rngCfgWrite i q r h w s).lasting = s.lasting := by
  simp only [rngCfgWrite]
  repeat' split
  all_goals simp
@[simp] theorem rngBaseWrite_lasting (i : Fin 16) (q : Requester) (r : Nat) (h : Half) (w : Word) (s : State) :
    (rngBaseWrite i q r h w s).lasting = s.lasting := by
  unfold rngBaseWrite
  repeat' split
  all_goals simp
@[simp] theorem rngTailWrite_lasting (i : Fin 16) (q : Requester) (r : Nat) (h : Half) (w : Word) (s : State) :
    (rngTailWrite i q r h w s).lasting = s.lasting := by
  simp only [rngTailWrite]
  repeat' split
  all_goals simp
@[simp] theorem State.modDram_lasting (s : State) (i : Fin 16) (f : Dram → Dram) :
    (State.modDram s i f).lasting = s.lasting := by
  rfl
@[simp] theorem dramAccess_lasting (i : Fin 16) (a : Nat) (s : State) : (dramAccess i a s).lasting = s.lasting := by
  rfl
@[simp] theorem dramBurstsAt_lasting (i : Fin 16) (ev : Nat) (req : Nat) (addrs : List Nat) (s : State) :
    (dramBurstsAt i ev req addrs s).lasting = s.lasting := by
  first
  | rfl
  | (simp [dramBurstsAt]; done)
  | (unfold dramBurstsAt; (repeat' split) <;> simp)
  | (simp only [dramBurstsAt]; (repeat' split) <;> first | rfl | simp)
@[simp] theorem dramBursts_lasting (i : Fin 16) (ev : Nat) (req : Nat) (a : Nat) (n : Nat) (s : State) :
    (dramBursts i ev req a n s).lasting = s.lasting := by
  simp [dramBursts]
@[simp] theorem dramRead_lasting (i : Fin 16) (req : Nat) (a : Nat) (n : Nat) (s : State) :
    (dramRead i req a n s).lasting = s.lasting := by
  simp [dramRead]
@[simp] theorem dramWrite_lasting (i : Fin 16) (req : Nat) (a : Nat) (n : Nat) (s : State) :
    (dramWrite i req a n s).lasting = s.lasting := by
  simp [dramWrite]
@[simp] theorem dramEcc_lasting (i : Fin 16) (a : Nat) (err : Nat) (s : State) :
    (dramEcc i a err s).lasting = s.lasting := by
  unfold dramEcc
  repeat' split
  all_goals simp
@[simp] theorem ringRead_lasting (i : Fin 16) (place : Nat) (n : Nat) (s : State) :
    (ringRead i place n s).lasting = s.lasting := by
  first
  | rfl
  | (simp [ringRead]; done)
  | (unfold ringRead; (repeat' split) <;> simp)
  | (simp only [ringRead]; (repeat' split) <;> first | rfl | simp)
@[simp] theorem ringWrite_lasting (i : Fin 16) (place : Nat) (n : Nat) (s : State) :
    (ringWrite i place n s).lasting = s.lasting := by
  first
  | rfl
  | (simp [ringWrite]; done)
  | (unfold ringWrite; (repeat' split) <;> simp)
  | (simp only [ringWrite]; (repeat' split) <;> first | rfl | simp)
@[simp] theorem tblAccess_lasting (i : Fin 16) (req : Nat) (n : Nat) (s : State) :
    (tblAccess i req n s).lasting = s.lasting := by
  simp [tblAccess]
@[simp] theorem State.modTier_lasting (s : State) (i : Fin 16) (far : Bool) (f : Tier → Tier) :
    (State.modTier s i far f).lasting = s.lasting := by
  rfl
@[simp] theorem State.modTbl_lasting (s : State) (i : Fin 16) (f : Tables → Tables) :
    (State.modTbl s i f).lasting = s.lasting := by
  rfl
@[simp] theorem slotAccess_lasting (i : Fin 16) (req : Nat) (far : Bool) (write : Bool) (n : Nat) (s : State) :
    (slotAccess i req far write n s).lasting = s.lasting := by
  unfold slotAccess
  repeat' split
  all_goals simp
@[simp] theorem place_lasting (i : Fin 16) (req : Nat) (far : Bool) (useStash : Bool) (e : Entry) (s : State) :
    (place i req far useStash e s).2.lasting = s.lasting := by
  have f : ∀ (l : List Nat) (a : State), (l.foldl (fun a n => slotAccess i req far true n a) a).lasting = a.lasting :=
    fun l a => foldl_lasting _ _ _ (fun a n => by simp)
  unfold place
  dsimp only
  split
  · rw [State.modSlice_lasting]
  · rw [State.modTier_lasting, f, State.modSlice_lasting]
@[simp] theorem entryEcc_lasting (i : Fin 16) (far : Bool) (n : Nat) (double : Bool) (s : State) :
    (entryEcc i far n double s).lasting = s.lasting := by
  unfold entryEcc
  repeat' split
  all_goals simp
@[simp] theorem recordEcc_lasting (i : Fin 16) (bank : Nat) (n : Nat) (double : Bool) (s : State) :
    (recordEcc i bank n double s).lasting = s.lasting := by
  unfold recordEcc
  repeat' split
  all_goals simp
@[simp] theorem dramEccFar_lasting (i : Fin 16) (far : Bool) (n : Nat) (err : Nat) (s : State) :
    (dramEccFar i far n err s).lasting = s.lasting := by
  unfold dramEccFar
  repeat' split
  all_goals simp
@[simp] theorem slotEcc_lasting (i : Fin 16) (far : Bool) (err : Nat) (n : Nat) (s : State) :
    (slotEcc i far err n s).lasting = s.lasting := by
  simp only [slotEcc]
  repeat' split
  all_goals simp
@[simp] theorem searchEcc_lasting (i : Fin 16) (far : Bool) (wide : Bool) (key : Nat) (err : Nat) (s : State) :
    (searchEcc i far wide key err s).lasting = s.lasting := by
  unfold searchEcc
  dsimp only
  split
  · rfl
  · split <;> simp
@[simp] theorem setKeys_lasting (i : Fin 16) (n : Nat) (k : Nat) (s : State) : (setKeys i n k s).lasting = s.lasting := by
  simp [setKeys]
@[simp] theorem setLoc_lasting (i : Fin 16) (far : Bool) (n : Nat) (s : State) : (setLoc i far n s).lasting = s.lasting := by
  rfl
@[simp] theorem tblInsert_lasting (i : Fin 16) (far : Bool) (wide : Bool) (vis : Nat) (err : Nat) (s0 : State) :
    (tblInsert i far wide vis err s0).2.lasting = s0.lasting := by
  simp only [tblInsert]
  repeat' split
  all_goals simp
@[simp] theorem tblDelete_lasting (i : Fin 16) (far : Bool) (wide : Bool) (vis : Nat) (err : Nat) (s0 : State) :
    (tblDelete i far wide vis err s0).2.lasting = s0.lasting := by
  unfold tblDelete
  split
  · simp
  · dsimp only
    split
    · simp
    · split <;> simp
@[simp] theorem tblUpdate_lasting (i : Fin 16) (far : Bool) (wide : Bool) (vis : Nat) (err : Nat) (s0 : State) :
    (tblUpdate i far wide vis err s0).2.lasting = s0.lasting := by
  unfold tblUpdate
  repeat' split
  all_goals simp
@[simp] theorem tblLookup_lasting (i : Fin 16) (wide : Bool) (vis : Nat) (err : Nat) (s : State) :
    (tblLookup i wide vis err s).2.lasting = s.lasting := by
  unfold tblLookup
  dsimp only
  repeat' split
  all_goals simp
@[simp] theorem tblReadSlot_lasting (i : Fin 16) (far : Bool) (n : Nat) (err : Nat) (s0 : State) :
    (tblReadSlot i far n err s0).2.lasting = s0.lasting := by
  unfold tblReadSlot
  dsimp only
  repeat' split
  all_goals simp
@[simp] theorem tblReadRecord_lasting (i : Fin 16) (bank : Nat) (n : Nat) (err : Nat) (s : State) :
    (tblReadRecord i bank n err s).2.lasting = s.lasting := by
  simp only [tblReadRecord]
  repeat' split
  all_goals simp
@[simp] theorem tblWriteSlot_lasting (i : Fin 16) (far : Bool) (wide : Bool) (n : Nat) (err : Nat) (s0 : State) :
    (tblWriteSlot i far wide n err s0).2.lasting = s0.lasting := by
  simp only [tblWriteSlot]
  repeat' split
  all_goals simp
@[simp] theorem tblFlush_lasting (i : Fin 16) (far : Bool) (s : State) : (tblFlush i far s).2.lasting = s.lasting := by
  rfl
@[simp] theorem tblDigestSet_lasting (i : Fin 16) (far : Bool) (n : Nat) (s : State) :
    (tblDigestSet i far n s).2.lasting = s.lasting := by
  rfl
@[simp] theorem tblDigestRead_lasting (i : Fin 16) (far : Bool) (n : Nat) (s : State) :
    (tblDigestRead i far n s).2.lasting = s.lasting := by
  rfl
@[simp] theorem searchReads_lasting (i : Fin 16) (req : Nat) (far : Bool) (wide : Bool) (key : Nat) (s : State) :
    (searchReads i req far wide key s).lasting = s.lasting := by
  unfold searchReads
  repeat' split
  all_goals simp
@[simp] theorem commandReads_lasting (i : Fin 16) (w : Word) (s : State) : (commandReads i w s).lasting = s.lasting := by
  simp only [commandReads]
  repeat' split
  all_goals simp
@[simp] theorem tblBody_lasting (i : Fin 16) (w : Word) (err : Nat) (s : State) :
    (tblBody i w err s).2.lasting = s.lasting := by
  simp only [tblBody]
  repeat' split
  all_goals simp
@[simp] theorem putTbl_lasting (i : Fin 16) (c : CmdReg) (s : State) : (putTbl i c s).lasting = s.lasting := by
  rfl
@[simp] theorem refuseTbl_lasting (i : Fin 16) (s : State) : (refuseTbl i s).lasting = s.lasting := by
  rfl
@[simp] theorem tblCommand_lasting (i : Fin 16) (r : Requester) (w : Word) (err : Nat) (s : State) :
    (tblCommand i r w err s).lasting = s.lasting := by
  unfold tblCommand
  refine runCommand_lasting _ _ _ _ _ _ (by simp) (by simp) ?_
  split <;> simp
@[simp] theorem endWaiting_lasting (i : Fin 16) (f : Word → State → CmdStatus × State) (s : State) (h : ∀ w a, (f w a).2.lasting = a.lasting) :
    (endWaiting i f s).lasting = s.lasting := by
  unfold endWaiting
  split
  · rfl
  · dsimp only
    split <;> simp [h]
@[simp] theorem tblTimeout_lasting (i : Fin 16) (s : State) : (tblTimeout i s).lasting = s.lasting := by
  unfold tblTimeout
  repeat' split
  all_goals simp
@[simp] theorem tblFence_lasting (i : Fin 16) (s : State) :
    (tblFence i s).lasting = s.lasting := by
  simp only [tblFence]
  repeat' split
  all_goals simp
@[simp] theorem tblStart_lasting (i : Fin 16) (s : State) : (tblStart i s).lasting = s.lasting := by
  simp [tblStart]
@[simp] theorem someEcc_lasting (i : Fin 16) (far : Bool) (ns : List Nat) (err : Nat) (s : State) :
    (someEcc i far ns err s).lasting = s.lasting := by
  first
  | rfl
  | (simp [someEcc]; done)
  | (unfold someEcc; (repeat' split) <;> simp)
  | (simp only [someEcc]; (repeat' split) <;> first | rfl | simp)
@[simp] theorem flushPass_lasting (i : Fin 16) (far : Bool) (err : Nat) (s0 : State) :
    (flushPass i far err s0).lasting = s0.lasting := by
  unfold flushPass
  split
  · dsimp only
    rw [State.modTier_lasting, foldl_lasting]
    · simp
    · intro a k
      split
      · split
        · rfl
        · split <;> simp
      · rfl
  · rfl
@[simp] theorem migrateOne_lasting (i : Fin 16) (far : Bool) (n : Nat) (s : State) :
    (migrateOne i far n s).lasting = s.lasting := by
  simp only [migrateOne]
  repeat' split
  all_goals simp
@[simp] theorem migrationEnd_lasting (i : Fin 16) (far : Bool) (err : Nat) (s0 : State) :
    (migrationEnd i far err s0).lasting = s0.lasting := by
  simp only [migrationEnd]
  repeat' split
  all_goals simp
@[simp] theorem eccWriteback_lasting (i : Fin 16) (s : State) : (eccWriteback i s).lasting = s.lasting := by
  simp only [eccWriteback]
  repeat' split
  all_goals simp
@[simp] theorem learnEvent_lasting (i : Fin 16) (key : Nat) (result : Word) (code : Nat) (far : Bool) (s : State) :
    (learnEvent i key result code far s).lasting = s.lasting := by
  simp [learnEvent]
@[simp] theorem learnProcess_lasting (i : Fin 16) (err : Nat) (s : State) :
    (learnProcess i err s).lasting = s.lasting := by
  simp only [learnProcess]
  repeat' split
  all_goals simp
@[simp] theorem sweepStart_lasting (i : Fin 16) (far : Bool) (s : State) : (sweepStart i far s).lasting = s.lasting := by
  unfold sweepStart
  repeat' split
  all_goals simp
@[simp] theorem sweepPassStart_lasting (i : Fin 16) (s : State) : (sweepPassStart i s).lasting = s.lasting := by
  unfold sweepPassStart
  repeat' split
  all_goals simp
@[simp] theorem sweepEntry_lasting (i : Fin 16) (far : Bool) (err : Nat) (hit : Bool) (s : State) :
    (sweepEntry i far err hit s).lasting = s.lasting := by
  simp only [sweepEntry]
  repeat' split
  all_goals simp
@[simp] theorem compareSeg_lasting (i : Fin 16) (far : Bool) (n : Nat) (s : State) :
    (compareSeg i far n s).lasting = s.lasting := by
  simp only [compareSeg]
  repeat' split
  all_goals simp
@[simp] theorem sweepPassEnd_lasting (i : Fin 16) (far : Bool) (s : State) : (sweepPassEnd i far s).lasting = s.lasting := by
  simp only [sweepPassEnd]
  repeat' split
  all_goals simp
@[simp] theorem retireTier_lasting (i : Fin 16) (far : Bool) (gone : Nat) (s : State) :
    (retireTier i far gone s).lasting = s.lasting := by
  first
  | rfl
  | (simp [retireTier]; done)
  | (unfold retireTier; (repeat' split) <;> simp)
  | (simp only [retireTier]; (repeat' split) <;> first | rfl | simp)
@[simp] theorem retireFar_lasting (i : Fin 16) (s : State) :
    (retireFar i s).lasting = s.lasting := by
  first
  | rfl
  | (simp [retireFar]; done)
  | (unfold retireFar; (repeat' split) <;> simp)
  | (simp only [retireFar]; (repeat' split) <;> first | rfl | simp)
@[simp] theorem State.modRmx_lasting (s : State) (i : Fin 16) (f : Rmx → Rmx) :
    (State.modRmx s i f).lasting = s.lasting := by
  rfl
@[simp] theorem RmxCopy.asRead_lasting (c : RmxCopy) (err : Nat) (s : State) :
    (RmxCopy.asRead c err s).2.lasting = s.lasting := by
  first
  | rfl
  | (simp [RmxCopy.asRead]; done)
  | (unfold RmxCopy.asRead; (repeat' split) <;> simp)
  | (simp only [RmxCopy.asRead]; (repeat' split) <;> first | rfl | simp)
@[simp] theorem rmxSearch_lasting (i : Fin 16) (c : RmxCopy) (b : Nat) (rmw : Nat) (key : Nat) (s : State) :
    (rmxSearch i c b rmw key s).2.lasting = s.lasting := by
  simp only [rmxSearch]
  repeat' split
  all_goals simp
@[simp] theorem setRmxVal_lasting (i : Fin 16) (o : Nat) (n : Nat) (s : State) :
    (setRmxVal i o n s).lasting = s.lasting := by
  rfl
@[simp] theorem rmxEcc_lasting (i : Fin 16) (copy : Nat) (n : Nat) (double : Bool) (s : State) :
    (rmxEcc i copy n double s).lasting = s.lasting := by
  unfold rmxEcc
  repeat' split
  all_goals simp
@[simp] theorem rmxReadRow_lasting (i : Fin 16) (copy : Nat) (n : Nat) (err : Nat) (s0 : State) :
    (rmxReadRow i copy n err s0).2.lasting = s0.lasting := by
  unfold rmxReadRow
  repeat' split
  all_goals simp
@[simp] theorem rmxWriteRow_lasting (i : Fin 16) (n : Nat) (s : State) : (rmxWriteRow i n s).2.lasting = s.lasting := by
  rfl
@[simp] theorem rmxCopyAll_lasting (i : Fin 16) (s : State) : (rmxCopyAll i s).2.lasting = s.lasting := by
  rfl
@[simp] theorem rmxClear_lasting (i : Fin 16) (b : Nat) (s : State) : (rmxClear i b s).2.lasting = s.lasting := by
  rfl
@[simp] theorem rmxReadCfg_lasting (i : Fin 16) (copy : Nat) (b : Nat) (s : State) :
    (rmxReadCfg i copy b s).2.lasting = s.lasting := by
  rfl
@[simp] theorem putRmx_lasting (i : Fin 16) (c : CmdReg) (s : State) : (putRmx i c s).lasting = s.lasting := by
  rfl
@[simp] theorem refuseRmx_lasting (i : Fin 16) (s : State) : (refuseRmx i s).lasting = s.lasting := by
  rfl
@[simp] theorem rmxCommand_lasting (i : Fin 16) (r : Requester) (w : Word) (err : Nat) (s : State) :
    (rmxCommand i r w err s).lasting = s.lasting := by
  simp only [rmxCommand]
  repeat' split
  all_goals simp
@[simp] theorem rmxCfgWrite_lasting (i : Fin 16) (r : Requester) (sig : Bool) (b : Nat) (h : Half) (w : Word) (s : State) :
    (rmxCfgWrite i r sig b h w s).lasting = s.lasting := by
  unfold rmxCfgWrite
  repeat' split
  all_goals simp
@[simp] theorem rmxScrub_lasting (i : Fin 16) (errs : List (Nat × Nat × Bool)) (overrun : Bool) (s : State) :
    (rmxScrub i errs overrun s).lasting = s.lasting := by
  unfold rmxScrub
  repeat' split
  all_goals simp
@[simp] theorem State.modEg_lasting (s : State) (i : Fin 16) (f : Egress → Egress) :
    (State.modEg s i f).lasting = s.lasting := by
  rfl
@[simp] theorem State.modSch_lasting (s : State) (i : Fin 16) (f : Sched → Sched) :
    (State.modSch s i f).lasting = s.lasting := by
  rfl
@[simp] theorem meterOp_lasting (i : Fin 16) (bank : Nat) (n : Nat) (len : Nat) (colour : Nat) (s : State) :
    (meterOp i bank n len colour s).2.lasting = s.lasting := by
  simp only [meterOp]
  repeat' split
  all_goals simp
@[simp] theorem countColour_lasting (i : Fin 16) (colour : Nat) (s : State) :
    (countColour i colour s).lasting = s.lasting := by
  rfl
@[simp] theorem tokenInit_lasting (i : Fin 16) (a : Nat) (b : Nat) (s : State) :
    (tokenInit i a b s).lasting = s.lasting := by
  rfl
@[simp] theorem gclSwitchTime_lasting (i : Fin 16) (s : State) : (gclSwitchTime i s).lasting = s.lasting := by
  simp only [gclSwitchTime]
  repeat' split
  all_goals simp
@[simp] theorem setSchData_lasting (i : Fin 16) (ws : List Word) (s : State) : (setSchData i ws s).lasting = s.lasting := by
  rfl
@[simp] theorem schRead_lasting (i : Fin 16) (w : Word) (s : State) : (schRead i w s).2.lasting = s.lasting := by
  simp [schRead]
@[simp] theorem schWrite_lasting (i : Fin 16) (w : Word) (s : State) : (schWrite i w s).2.lasting = s.lasting := by
  simp [schWrite]
@[simp] theorem schCopy_lasting (i : Fin 16) (s : State) : (schCopy i s).2.lasting = s.lasting := by
  simp [schCopy]
@[simp] theorem gclSwitch_lasting (i : Fin 16) (n : Nat) (s : State) : (gclSwitch i n s).2.lasting = s.lasting := by
  simp [gclSwitch]
@[simp] theorem gclCancel_lasting (i : Fin 16) (n : Nat) (s : State) : (gclCancel i n s).2.lasting = s.lasting := by
  simp [gclCancel]
@[simp] theorem putSch_lasting (i : Fin 16) (c : CmdReg) (s : State) : (putSch i c s).lasting = s.lasting := by
  rfl
@[simp] theorem refuseSch_lasting (i : Fin 16) (s : State) : (refuseSch i s).lasting = s.lasting := by
  rfl
@[simp] theorem schCommand_lasting (i : Fin 16) (r : Requester) (w : Word) (s : State) :
    (schCommand i r w s).lasting = s.lasting := by
  unfold schCommand
  repeat' split
  all_goals simp
@[simp] theorem gclFolio_lasting (i : Fin 16) (epoch : Nat) (commit : Bool) (s : State) :
    (gclFolio i epoch commit s).lasting = s.lasting := by
  simp only [gclFolio]
  split <;> rfl
@[simp] theorem gclRollback_lasting (i : Fin 16) (s : State) : (gclRollback i s).lasting = s.lasting := by
  rfl
@[simp] theorem State.modCpb_lasting (s : State) (i : Fin 16) (f : Cpb → Cpb) :
    (State.modCpb s i f).lasting = s.lasting := by
  rfl
@[simp] theorem closeBlock_lasting (i : Fin 16) (reason : Nat) (s : State) :
    (closeBlock i reason s).lasting = s.lasting := by
  unfold closeBlock
  repeat' split
  all_goals simp
@[simp] theorem appendRecord_lasting (i : Fin 16) (ctrl : Bool) (body : List Byte) (s : State) :
    (appendRecord i ctrl body s).lasting = s.lasting := by
  simp only [appendRecord]
  repeat' split
  all_goals simp
@[simp] theorem trimBuffers_lasting (i : Fin 16) (n : Nat) (s : State) : (trimBuffers i n s).lasting = s.lasting := by
  induction n generalizing s with
  | zero => rfl
  | succ n ih =>
    unfold trimBuffers
    repeat' split
    all_goals simp [ih]
@[simp] theorem bufferFor_lasting (i : Fin 16) (need : Nat) (s : State) : (bufferFor i need s).lasting = s.lasting := by
  unfold bufferFor
  split
  · split <;> rename_i h <;> (have h' := congrArg (fun z => z.2.lasting) h; simp at h') <;> simp [← h']
  · rfl
@[simp] theorem makeReady_lasting (i : Fin 16) (r : WaitRec) (s : State) :
    (makeReady i r s).lasting = s.lasting := by
  simp only [makeReady]
  repeat' split
  all_goals simp
@[simp] theorem readyWhere_lasting (i : Fin 16) (p : WaitRec → Bool) (s : State) :
    (readyWhere i p s).lasting = s.lasting := by
  simp only [readyWhere]
  repeat' split
  all_goals simp
@[simp] theorem writeReady_lasting (i : Fin 16) (s : State) :
    (writeReady i s).lasting = s.lasting := by
  simp only [writeReady]
  repeat' split
  all_goals simp
@[simp] theorem writeAll_lasting (i : Fin 16) (y0 : Nat) (y1 : State) :
    (writeAll i y0 y1).lasting = y1.lasting := by
  induction y0 generalizing y1 with
  | zero => rfl
  | succ n ih =>
    rw [writeAll]
    split
    · rw [ih, writeReady_lasting]
    · rfl
@[simp] theorem flushHeld_lasting (i : Fin 16) (s : State) :
    (flushHeld i s).lasting = s.lasting := by
  simp only [flushHeld]
  repeat' split
  all_goals simp
@[simp] theorem flushReady_lasting (i : Fin 16) (s : State) : (flushReady i s).lasting = s.lasting := by
  simp [flushReady]
@[simp] theorem reportWaitExpiry_lasting (i : Fin 16) (s : State) : (reportWaitExpiry i s).lasting = s.lasting := by
  simp only [reportWaitExpiry]
  split <;> simp
@[simp] theorem recordFcs_lasting (i : Fin 16) (pkt : Nat) (good : Bool) (s : State) :
    (recordFcs i pkt good s).lasting = s.lasting := by
  simp [recordFcs]
@[simp] theorem sendReport_lasting (i : Fin 16) (pkt : Nat) (late : Bool) (uncertain : Bool) (outcome : Nat) (s : State) :
    (sendReport i pkt late uncertain outcome s).lasting = s.lasting := by
  rfl
@[simp] theorem reportArrival_lasting (i : Fin 16) (s : State) : (reportArrival i s).lasting = s.lasting := by
  unfold reportArrival
  repeat' split
  all_goals simp
@[simp] theorem refuseReservation_lasting (i : Fin 16) (cause : Nat) (s : State) :
    (refuseReservation i cause s).lasting = s.lasting := by
  unfold refuseReservation
  repeat' split
  all_goals simp
@[simp] theorem reserve_lasting (i : Fin 16) (s : State) : (reserve i s).2.lasting = s.lasting := by
  simp only [reserve]
  repeat' split
  all_goals simp
@[simp] theorem joinGap_lasting (i : Fin 16) (capture : Stamp) (s : State) : (joinGap i capture s).lasting = s.lasting := by
  rfl
@[simp] theorem recordCommit_lasting (i : Fin 16) (r : WaitRec) (s : State) :
    (recordCommit i r s).2.lasting = s.lasting := by
  simp only [recordCommit]
  repeat' split
  all_goals simp
@[simp] theorem releaseBlocks_lasting (i : Fin 16) (s : State) : (releaseBlocks i s).lasting = s.lasting := by
  simp [releaseBlocks]
@[simp] theorem blockCloseDone_lasting (i : Fin 16) (s : State) : (blockCloseDone i s).lasting = s.lasting := by
  unfold blockCloseDone
  repeat' split
  all_goals simp
@[simp] theorem badBursts_lasting (i : Fin 16) (place : Nat) (bytes : List Byte) (l : List Nat) (s : State) :
    (badBursts i place bytes l s).2.lasting = s.lasting := by
  induction l generalizing s bytes with
  | nil => rfl
  | cons x l ih =>
    unfold badBursts
    dsimp only
    rw [ih]
    simp
@[simp] theorem blockDrain_lasting (i : Fin 16) (fixed : List Nat) (bad : List Nat) (s : State) :
    (blockDrain i fixed bad s).lasting = s.lasting := by
  simp only [blockDrain]
  repeat' split
  all_goals simp
@[simp] theorem putCpb_lasting (i : Fin 16) (c : CmdReg) (s : State) : (putCpb i c s).lasting = s.lasting := by
  rfl
@[simp] theorem refuseCpb_lasting (i : Fin 16) (s : State) : (refuseCpb i s).lasting = s.lasting := by
  rfl
@[simp] theorem scribeRelease_lasting (i : Fin 16) (s : State) : (scribeRelease i s).2.lasting = s.lasting := by
  simp [scribeRelease]
@[simp] theorem cpbCommand_lasting (i : Fin 16) (r : Requester) (w : Word) (s : State) :
    (cpbCommand i r w s).lasting = s.lasting := by
  unfold cpbCommand
  repeat' split
  all_goals simp
@[simp] theorem cpbCfgWrite_lasting (i : Fin 16) (r : Requester) (h : Half) (w : Word) (s : State) :
    (cpbCfgWrite i r h w s).lasting = s.lasting := by
  simp only [cpbCfgWrite]
  repeat' split
  all_goals simp
@[simp] theorem newRun_lasting (i : Fin 16) (s : State) : (newRun i s).lasting = s.lasting := by
  rfl
@[simp] theorem cpbRetention_lasting (i : Fin 16) (s : State) : (cpbRetention i s).lasting = s.lasting := by
  simp only [cpbRetention]
  repeat' split
  all_goals simp
@[simp] theorem cpbFence_lasting (i : Fin 16) (s : State) : (cpbFence i s).lasting = s.lasting := by
  simp only [cpbFence]
  repeat' split
  all_goals simp
@[simp] theorem skipSeal_lasting (s : State) : (skipSeal s).lasting = s.lasting := by
  simp [skipSeal]
@[simp] theorem sealTick_lasting (s : State) : (sealTick s).lasting = s.lasting := by
  simp only [sealTick]
  repeat' split
  all_goals simp
@[simp] theorem sealSigned_lasting (s : State) : (sealSigned s).lasting = s.lasting := by
  simp only [sealSigned]
  repeat' split
  all_goals simp
@[simp] theorem sealCfgWrite_lasting (r : Requester) (h : Half) (w : Word) (s : State) :
    (sealCfgWrite r h w s).lasting = s.lasting := by
  simp only [sealCfgWrite]
  repeat' split
  all_goals simp
@[simp] theorem sealMarker_lasting (s : State) : (sealMarker s).lasting = s.lasting := by
  rfl
@[simp] theorem signerDown_lasting (s : State) : (signerDown s).lasting = s.lasting := by
  simp [signerDown]
@[simp] theorem signerUp_lasting (resumed : Bool) (s : State) : (signerUp resumed s).lasting = s.lasting := by
  simp [signerUp]
@[simp] theorem cutFrame_lasting (i : Fin 16) (k : Nat) (s : State) : (cutFrame i k s).lasting = s.lasting := by
  unfold cutFrame
  repeat' split
  all_goals simp
@[simp] theorem cutForExpress_lasting (i : Fin 16) (k : Nat) (s : State) :
    (cutForExpress i k s).lasting = s.lasting := by
  simp only [cutForExpress]
  repeat' split
  all_goals simp
@[simp] theorem sendPause_lasting (i : Fin 16) (k : Nat) (prios : Nat) (quanta : Nat) (s : State) :
    (sendPause i k prios quanta s).lasting = s.lasting := by
  simp [sendPause]
@[simp] theorem updatePause_lasting (i : Fin 16) (k : Nat) (s0 : State) : (updatePause i k s0).lasting = s0.lasting := by
  simp only [updatePause]
  repeat' split
  all_goals simp
@[simp] theorem updatePauses_lasting (i : Fin 16) (s : State) : (updatePauses i s).lasting = s.lasting := by
  simp [updatePauses, apply_ite State.lasting]
@[simp] theorem pausesAfter_lasting (i : Fin 16) (f : State → State) (s : State) (hf : (f s).lasting = s.lasting) :
    (pausesAfter i f s).lasting = s.lasting := by
  simp [pausesAfter, hf]
@[simp] theorem freeIngress_lasting (i : Fin 16) (p : Packet) (s : State) : (freeIngress i p s).lasting = s.lasting := by
  simp [freeIngress]
@[simp] theorem State.setInbound_lasting (s : State) (i : Fin 16) (n : Nat) (b : Inbound) :
    (State.setInbound s i n b).lasting = s.lasting := by
  rfl
@[simp] theorem releaseChain_lasting (i : Fin 16) (c : EgCopy) (s : State) : (releaseChain i c s).lasting = s.lasting := by
  simp only [releaseChain]
  repeat' split
  all_goals simp
@[simp] theorem reportCopy_lasting (c : EgCopy) (outcome : Nat) (s : State) :
    (reportCopy c outcome s).lasting = s.lasting := by
  unfold reportCopy
  repeat' split
  all_goals simp
@[simp] theorem dropCopy_lasting (i : Fin 16) (code : Nat) (c : EgCopy) (s : State) :
    (dropCopy i code c s).lasting = s.lasting := by
  unfold dropCopy
  repeat' split
  all_goals simp
@[simp] theorem purgeInvalid_lasting (i : Fin 16) (s : State) : (purgeInvalid i s).lasting = s.lasting := by
  simp [purgeInvalid, apply_ite State.lasting]
@[simp] theorem refreshTags_lasting (i : Fin 16) (s : State) : (refreshTags i s).lasting = s.lasting := by
  unfold refreshTags
  dsimp only
  rw [foldl_lasting, foldl_lasting, foldl_lasting, purgeInvalid_lasting]
  all_goals (intro a x; split <;> simp)
@[simp] theorem takeHead_lasting (i : Fin 16) (q : Nat) (s : State) :
    (takeHead i q s).lasting = s.lasting := by
  rfl
@[simp] theorem headSent_lasting (i : Fin 16) (k : Nat) (v : Nat) (q : Nat) (c : EgCopy) (s : State) :
    (headSent i k v q c s).lasting = s.lasting := by
  simp only [headSent]
  repeat' split
  all_goals simp
@[simp] theorem enqueueQueue_lasting (i : Fin 16) (q : Nat) (colour : Nat) (c : EgCopy) (s : State) :
    (enqueueQueue i q colour c s).lasting = s.lasting := by
  simp only [enqueueQueue]
  repeat' split
  all_goals simp
@[simp] theorem enqueuePort_lasting (i : Fin 16) (k : Nat) (colour : Nat) (c : EgCopy) (s : State) :
    (enqueuePort i k colour c s).lasting = s.lasting := by
  unfold enqueuePort
  repeat' split
  all_goals simp
@[simp] theorem enqueueMerge_lasting (i : Fin 16) (k : Nat) (alarm : Bool) (c : EgCopy) (s : State) :
    (enqueueMerge i k alarm c s).lasting = s.lasting := by
  unfold enqueueMerge
  dsimp only
  generalize (if bitAt (s.ligCfg i k) 63 = true then portTargetDrop s i k else some 0x8A) = q
  cases q with
  | some code => simp
  | none =>
    dsimp only
    split
    · split
      · split
        · have h := allocPool_lasting i (c.payload s).length (0x100 + fld (s.ligCfg i k) 55 48) (s.count i (Reg.LIG_COUNT0 + 8 * k) 31 0)
          split <;> simp_all
        · simp
      · simp
    · simp [apply_ite State.lasting]
@[simp] theorem enqueueEqx_lasting (i : Fin 16) (k : Nat) (c : EgCopy) (s : State) :
    (enqueueEqx i k c s).lasting = s.lasting := by
  simp only [enqueueEqx]
  repeat' split
  all_goals simp
@[simp] theorem egressStep_lasting (i : Fin 16) (old : Nat) (s : State) :
    (egressStep i old s).lasting = s.lasting := by
  simp [egressStep]
@[simp] theorem startFrame_lasting (i : Fin 16) (k : Nat) (t : Nat) (delim : Nat) (prio : Option Nat) (cutAt : Option Nat) (cls : Nat) (c : EgCopy) (s : State) :
    (startFrame i k t delim prio cutAt cls c s).2.lasting = s.lasting := by
  simp only [startFrame]
  repeat' split
  all_goals simp
@[simp] theorem holdFrame_lasting (i : Fin 16) (k : Nat) (id : Nat) (s : State) :
    (holdFrame i k id s).lasting = s.lasting := by
  unfold holdFrame
  repeat' split
  all_goals simp
@[simp] theorem startEqx_lasting (i : Fin 16) (k : Nat) (t : Nat) (c : EgCopy) (s : State) :
    (startEqx i k t c s).2.lasting = s.lasting := by
  simp only [startEqx]
  repeat' split
  all_goals simp
@[simp] theorem startMerge_lasting (i : Fin 16) (k : Nat) (c : EgCopy) (s : State) :
    (startMerge i k c s).2.lasting = s.lasting := by
  simp only [startMerge]
  repeat' split
  all_goals simp
theorem resumeFrame_lasting {i : Fin 16} {k : Nat} {s s1 : State} (h : resumeFrame i k s = some s1) : s1.lasting = s.lasting := by
  rw [resumeFrame] at h
  dsimp only at h
  repeat' (split at h)
  all_goals (first | (simp at h; done) | (simp only [Option.some.injEq] at h; subst h; simp))

@[simp] theorem startSelected_lasting (i : Fin 16) (k : Nat) (s : State) : (startSelected i k s).2.lasting = s.lasting := by
  simp only [startSelected]
  repeat' split
  all_goals simp
@[simp] theorem portStartFrom_lasting (i : Fin 16) (k n : Nat) (s : State) :
    (portStartFrom i k n s).lasting = s.lasting := by
  induction n generalizing s with
  | zero => rfl
  | succ n ih =>
    rw [portStartFrom]
    dsimp only
    split
    · rfl
    · split
      · split
        · rw [startEqx_lasting]
        · rw [ih, startEqx_lasting]
      · split
        · split
          · rw [holdFrame_lasting]
          · split
            · rw [startMerge_lasting]
            · rw [ih, startMerge_lasting]
        · split
          · rename_i h
            split at h
            · cases h
            · exact resumeFrame_lasting h
          · split
            · rw [startSelected_lasting]
            · rw [ih, startSelected_lasting]
@[simp] theorem preemptForExpress_lasting (i : Fin 16) (k : Nat) (s : State) :
    (preemptForExpress i k s).lasting = s.lasting := by
  simp only [preemptForExpress]
  repeat' split
  all_goals simp
@[simp] theorem portStart_lasting (i : Fin 16) (k : Nat) (s : State) : (portStart i k s).lasting = s.lasting := by
  simp [portStart]
@[simp] theorem eqxRelease_lasting (i : Fin 16) (k : Nat) (s0 : State) : (eqxRelease i k s0).lasting = s0.lasting := by
  simp only [eqxRelease]
  repeat' split
  all_goals simp
@[simp] theorem gateBoundary_lasting (i : Fin 16) (k : Nat) (s : State) : (gateBoundary i k s).lasting = s.lasting := by
  unfold gateBoundary
  repeat' split
  all_goals simp
@[simp] theorem abortTx_lasting (i : Fin 16) (k : Nat) (x : Tx) (count : Bool) (s : State) :
    (abortTx i k x count s).lasting = s.lasting := by
  unfold abortTx
  repeat' split
  all_goals simp
@[simp] theorem txComplete_lasting (i : Fin 16) (k : Nat) (s : State) : (txComplete i k s).lasting = s.lasting := by
  simp only [txComplete]
  repeat' split
  all_goals simp
@[simp] theorem dropQueued_lasting (i : Fin 16) (code : Nat) (p : EgCopy → Bool) (s : State) :
    (dropQueued i code p s).lasting = s.lasting := by
  simp [dropQueued]
@[simp] theorem shaperEligible_lasting (i : Fin 16) (k : Nat) (s : State) : (shaperEligible i k s).lasting = s.lasting := by
  simp [shaperEligible]
@[simp] theorem ligCfgWrite_lasting (i : Fin 16) (r : Requester) (k : Nat) (h : Half) (w : Word) (s : State) :
    (ligCfgWrite i r k h w s).lasting = s.lasting := by
  simp only [ligCfgWrite]
  repeat' split
  all_goals simp
@[simp] theorem resetHighWater_lasting (i : Fin 16) (k : Nat) (s : State) : (resetHighWater i k s).lasting = s.lasting := by
  rfl
@[simp] theorem modLig_lasting (f : LigSeed → LigSeed) (s : State) : (modLig f s).lasting = s.lasting := by
  rfl
@[simp] theorem ligSeedCommand_lasting (r : Requester) (w : Word) (s : State) :
    (ligSeedCommand r w s).lasting = s.lasting := by
  unfold ligSeedCommand
  refine runCommand_lasting _ _ _ _ _ _ (by simp) (by simp) ?_
  split
  · exact judge_lasting _ _ _ (by simp)
  · exact judge_lasting _ _ _ (by simp)
  · rfl
@[simp] theorem seedSwitch_lasting (s : State) : (seedSwitch s).lasting = s.lasting := by
  unfold seedSwitch
  repeat' split
  all_goals simp
@[simp] theorem seedErase_lasting (i : Fin 16) (s : State) : (seedErase i s).lasting = s.lasting := by
  unfold seedErase
  repeat' split
  all_goals simp
@[simp] theorem eqxRead_lasting (i : Fin 16) (g : Nat) (s : State) : (eqxRead i g s).2.lasting = s.lasting := by
  rfl
@[simp] theorem eqxWrite_lasting (i : Fin 16) (g : Nat) (s : State) : (eqxWrite i g s).2.lasting = s.lasting := by
  simp [eqxWrite]
@[simp] theorem eqxCommand_lasting (i : Fin 16) (r : Requester) (w : Word) (s : State) :
    (eqxCommand i r w s).lasting = s.lasting := by
  unfold eqxCommand
  repeat' split
  all_goals simp
@[simp] theorem mclRead_lasting (i : Fin 16) (l : Nat) (s : State) : (mclRead i l s).2.lasting = s.lasting := by
  rfl
@[simp] theorem mclWrite_lasting (i : Fin 16) (l : Nat) (s : State) : (mclWrite i l s).2.lasting = s.lasting := by
  simp [mclWrite]
@[simp] theorem mclCommand_lasting (i : Fin 16) (r : Requester) (w : Word) (s : State) :
    (mclCommand i r w s).lasting = s.lasting := by
  unfold mclCommand
  repeat' split
  all_goals simp
@[simp] theorem startTraining_lasting (i : Fin 16) (s : State) : (startTraining i s).lasting = s.lasting := by
  rfl
@[simp] theorem takeRegions_lasting (i : Fin 16) (g : Word) (s : State) : (takeRegions i g s).lasting = s.lasting := by
  rfl
@[simp] theorem channelFailed_lasting (i : Fin 16) (syn : Nat) (s : State) :
    (channelFailed i syn s).lasting = s.lasting := by
  simp [channelFailed]
@[simp] theorem drmInit_lasting (i : Fin 16) (speed : Nat) (spd : Option Word) (s : State) :
    (drmInit i speed spd s).2.lasting = s.lasting := by
  simp only [drmInit]
  repeat' split
  all_goals simp
@[simp] theorem startDrain_lasting (i : Fin 16) (s : State) :
    (startDrain i s).lasting = s.lasting := by
  simp only [startDrain]
  repeat' split
  all_goals simp
@[simp] theorem drmSetSpeed_lasting (i : Fin 16) (speed : Nat) (s : State) :
    (drmSetSpeed i speed s).2.lasting = s.lasting := by
  unfold drmSetSpeed
  refine judge_lasting _ _ _ ?_
  repeat' split
  all_goals simp
@[simp] theorem putDrm_lasting (i : Fin 16) (c : CmdReg) (s : State) : (putDrm i c s).lasting = s.lasting := by
  rfl
@[simp] theorem refuseDrm_lasting (i : Fin 16) (s : State) : (refuseDrm i s).lasting = s.lasting := by
  rfl
@[simp] theorem drmCommand_lasting (i : Fin 16) (r : Requester) (w : Word) (spd : Option Word) (s : State) :
    (drmCommand i r w spd s).lasting = s.lasting := by
  unfold drmCommand
  repeat' split
  all_goals simp
@[simp] theorem relock_lasting (i : Fin 16) (s : State) : (relock i s).lasting = s.lasting := by
  rfl
@[simp] theorem channelReady_lasting (i : Fin 16) (s : State) :
    (channelReady i s).lasting = s.lasting := by
  rw [channelReady, tblStart_lasting, flushReady_lasting, retireFar_lasting, State.modDram_lasting]
@[simp] theorem setTrain_lasting (i : Fin 16) (lane : Nat) (rank : Nat) (eye : Nat) (wr : Nat) (rd : Nat) (s : State) :
    (setTrain i lane rank eye wr rd s).lasting = s.lasting := by
  rfl
@[simp] theorem trainLane_lasting (i : Fin 16) (lane : Nat) (rank : Nat) (rd : BitVec 128) (wr : BitVec 128) (s : State) :
    (trainLane i lane rank rd wr s).2.lasting = s.lasting := by
  simp only [trainLane]
  repeat' split
  all_goals simp
@[simp] theorem trainAll_lasting (i : Fin 16) (rd wr : List (BitVec 128)) (l : List (Nat × Nat)) (s : State) :
    (trainAll i rd wr l s).2.lasting = s.lasting := by
  induction l generalizing s with
  | nil => rfl
  | cons x l ih =>
    unfold trainAll
    dsimp only
    split <;> simp [ih]
@[simp] theorem trainDone_lasting (i : Fin 16) (rd : List (BitVec 128)) (wr : List (BitVec 128)) (s : State) :
    (trainDone i rd wr s).lasting = s.lasting := by
  simp only [trainDone]
  repeat' split
  all_goals simp
@[simp] theorem trackingStep_lasting (i : Fin 16) (rank : Nat) (centres : List (Nat × Nat)) (s : State) :
    (trackingStep i rank centres s).lasting = s.lasting := by
  simp [trackingStep, apply_ite State.lasting]
@[simp] theorem dramRefresh_lasting (i : Fin 16) (rank : Nat) (bank : Nat) (retries : Nat) (s : State) :
    (dramRefresh i rank bank retries s).lasting = s.lasting := by
  simp only [dramRefresh]
  repeat' split
  all_goals simp
@[simp] theorem rowClose_lasting (i : Fin 16) (rank : Nat) (bank : Nat) (s : State) :
    (rowClose i rank bank s).lasting = s.lasting := by
  simp only [rowClose]
  repeat' split
  all_goals simp
@[simp] theorem rankPowerDown_lasting (i : Fin 16) (rank : Nat) (s : State) :
    (rankPowerDown i rank s).lasting = s.lasting := by
  simp only [rankPowerDown]
  repeat' split
  all_goals simp
@[simp] theorem writesLost_lasting (i : Fin 16) (s : State) :
    (writesLost i s).lasting = s.lasting := by
  rw [writesLost, foldl_lasting]
  · simp
  · intro a w
    split <;> simp
@[simp] theorem dramFence_lasting (i : Fin 16) (s : State) : (dramFence i s).lasting = s.lasting := by
  simp [dramFence]
@[simp] theorem dramLift_lasting (i : Fin 16) (s : State) : (dramLift i s).lasting = s.lasting := by
  simp only [dramLift]
  repeat' split
  all_goals simp
@[simp] theorem archiveStore_lasting (i : Fin 16) (g : Nat) (n : Nat) (frame : Nat) (edits : List Edit) (capture : Stamp) (len : Nat) (s : State) :
    (archiveStore i g n frame edits capture len s).lasting = s.lasting := by
  simp only [archiveStore]
  repeat' split
  all_goals simp
@[simp] theorem archiveCopy_lasting (i : Fin 16) (kind : Nat) (id : Nat) (frame : Nat) (edits : List Edit) (capture : Stamp) (len : Nat) (s : State) :
    (archiveCopy i kind id frame edits capture len s).lasting = s.lasting := by
  simp [archiveCopy]
@[simp] theorem archiveWritten_lasting (i : Fin 16) (s : State) : (archiveWritten i s).lasting = s.lasting := by
  simp only [archiveWritten]
  repeat' split
  all_goals simp
@[simp] theorem refuseRpl_lasting (i : Fin 16) (s : State) : (refuseRpl i s).lasting = s.lasting := by
  rfl
@[simp] theorem rplGroupWrite_lasting (i : Fin 16) (r : Requester) (g : Nat) (one : Bool) (h : Half) (w : Word) (s : State) :
    (rplGroupWrite i r g one h w s).lasting = s.lasting := by
  simp only [rplGroupWrite]
  repeat' split
  all_goals simp
@[simp] theorem writesDrained_lasting (i : Fin 16) (s : State) :
    (writesDrained i s).lasting = s.lasting := by
  simp only [writesDrained]
  repeat' split
  all_goals simp
@[simp] theorem dramDrained_lasting (i : Fin 16) (s : State) : (dramDrained i s).lasting = s.lasting := by
  unfold dramDrained
  repeat' split
  all_goals simp
@[simp] theorem phyRelock_lasting (i : Fin 16) (s : State) : (phyRelock i s).lasting = s.lasting := by
  simp only [phyRelock]
  repeat' split
  all_goals simp
@[simp] theorem dramRetention_lasting (i : Fin 16) (s : State) : (dramRetention i s).lasting = s.lasting := by
  simp only [dramRetention]
  repeat' split
  all_goals simp
@[simp] theorem dramExitRetention_lasting (i : Fin 16) (s : State) : (dramExitRetention i s).lasting = s.lasting := by
  simp only [dramExitRetention]
  repeat' split
  all_goals simp
@[simp] theorem countPartDrop_lasting (i : Fin 16) (s : State) : (countPartDrop i s).lasting = s.lasting := by
  rfl
@[simp] theorem partMapWrite_lasting (r : Requester) (h : Half) (w : Word) (s : State) :
    (partMapWrite r h w s).lasting = s.lasting := by
  unfold partMapWrite
  repeat' split
  all_goals simp
@[simp] theorem xbrApplyDone_lasting (s : State) : (xbrApplyDone s).lasting = s.lasting := by
  rfl
@[simp] theorem dropAtIngress_lasting (i : Fin 16) (code : Nat) (s : State) :
    (dropAtIngress i code s).lasting = s.lasting := by
  unfold dropAtIngress
  repeat' split
  all_goals simp
@[simp] theorem leaveIngress_lasting (i : Fin 16) (n : Nat) (s : State) : (leaveIngress i n s).lasting = s.lasting := by
  unfold leaveIngress
  repeat' split
  all_goals simp
@[simp] theorem retirePacket_lasting (i : Fin 16) (n : Nat) (s : State) : (retirePacket i n s).lasting = s.lasting := by
  unfold retirePacket
  repeat' split
  all_goals simp
@[simp] theorem orphan_lasting (e : Fin 16) (t : Target) (s : State) : (orphan e t s).lasting = s.lasting := by
  unfold orphan
  repeat' split
  all_goals simp
@[simp] theorem enqueueMember_lasting (e : Fin 16) (x : Cross) (k : Nat) (c : EgCopy) (s0 : State) :
    (enqueueMember e x k c s0).lasting = s0.lasting := by
  unfold enqueueMember
  repeat' split
  all_goals simp
@[simp] theorem startPorts_lasting (e : Fin 16) (s : State) : (startPorts e s).lasting = s.lasting := by
  simp [startPorts, apply_ite State.lasting]
@[simp] theorem makeCopies_lasting (e : Fin 16) (x : Cross) (src : Nat) (inbound : Bool) (chain : Nat) (s : State) :
    (makeCopies e x src inbound chain s).lasting = s.lasting := by
  rw [makeCopies, foldl_lasting]
  intro a y
  dsimp only
  split
  · simp
  · rw [foldl_lasting]
    simp
@[simp] theorem epochSplit_lasting (e : Fin 16) (epoch : Nat) (s : State) : (epochSplit e epoch s).lasting = s.lasting := by
  simp only [epochSplit]
  repeat' split
  all_goals simp
@[simp] theorem handPunt_lasting (i : Fin 16) (x : Cross) (ring code : Nat) (edited : Bool) (s : State) :
    (handPunt i x ring code edited s).lasting = s.lasting := by
  unfold handPunt
  dsimp only
  repeat' split
  all_goals first
    | simp; done
    | (rename_i h
       have h' := congrArg (fun z => z.2.lasting) h
       simp at h'
       simp [h'])
    | simp [apply_ite State.lasting]
@[simp] theorem archiveHandOn_lasting (i : Fin 16) (x : Cross) (s : State) : (archiveHandOn i x s).lasting = s.lasting := by
  unfold archiveHandOn
  repeat' split
  all_goals simp
@[simp] theorem handLocal_lasting (i : Fin 16) (x : Cross) (s : State) : (handLocal i x s).lasting = s.lasting := by
  simp only [handLocal]
  repeat' split
  all_goals simp
@[simp] theorem keepLocal_lasting (i : Fin 16) (x : Cross) (s : State) :
    (keepLocal i x s).lasting = s.lasting := by
  simp only [keepLocal]
  repeat' split
  all_goals simp
@[simp] theorem pushCross_lasting (i : Fin 16) (e : Fin 16) (x : Cross) (s : State) :
    (pushCross i e x s).lasting = s.lasting := by
  unfold pushCross
  dsimp only
  repeat' split
  all_goals simp
@[simp] theorem handCopy_lasting (i : Fin 16) (x : Cross) (s : State) : (handCopy i x s).lasting = s.lasting := by
  unfold handCopy
  split <;> (try split) <;> (try split) <;> (try split) <;> first | rfl | (simp; done) | (simp [apply_ite State.lasting]; done)
@[simp] theorem handCopies_lasting (i : Fin 16) (n : Nat) (p : Packet) (cs : List Copy) (s : State) :
    (handCopies i n p cs s).lasting = s.lasting := by
  unfold handCopies
  repeat' split
  all_goals simp
@[simp] theorem handHeld_lasting (i : Fin 16) (n : Nat) (s : State) :
    (handHeld i n s).lasting = s.lasting := by
  simp only [handHeld]
  repeat' split
  all_goals simp
@[simp] theorem restorerHandOn_lasting (i : Fin 16) (k : Nat) (s : State) : (restorerHandOn i k s).lasting = s.lasting := by
  unfold restorerHandOn
  repeat' split
  all_goals simp
@[simp] theorem takeCells_lasting (e : Fin 16) (c7 : Bool) (n : Nat) (l : List Nat) (s : State) :
    (takeCells e c7 n l s).2.lasting = s.lasting := by
  induction n generalizing s l with
  | zero => rfl
  | succ n ih =>
    unfold takeCells
    have h := allocGeneral_lasting e 0x010 c7 s
    split <;> simp_all
@[simp] theorem linkChain_lasting (e : Fin 16) (cells : List Nat) (s : State) :
    (linkChain e cells s).lasting = s.lasting := by
  simp only [linkChain]
  repeat' split
  all_goals simp
@[simp] theorem crossingDone_lasting (i : Fin 16) (x : Cross) (s : State) : (crossingDone i x s).lasting = s.lasting := by
  unfold crossingDone
  repeat' split
  all_goals simp
@[simp] theorem countCells_lasting (i : Fin 16) (e : Fin 16) (cls : Nat) (n : Nat) (s : State) :
    (countCells i e cls n s).lasting = s.lasting := by
  simp [countCells]
@[simp] theorem loseCross_lasting (i : Fin 16) (x : Cross) (code : Nat) (s : State) :
    (loseCross i x code s).lasting = s.lasting := by
  simp only [loseCross]
  repeat' split
  all_goals simp
@[simp] theorem countParts_lasting (e : Fin 16) (x : Cross) (code : Nat) (s : State) :
    (countParts e x code s).lasting = s.lasting := by
  simp only [countParts]
  repeat' split
  all_goals simp
@[simp] theorem refusedCell_lasting (e : Fin 16) (s : State) :
    (refusedCell e s).lasting = s.lasting := by
  simp only [refusedCell]
  repeat' split
  all_goals simp
@[simp] theorem joinChain_lasting (e : Fin 16) (i : Fin 16) (x : Cross) (key : Nat) (s : State) :
    (joinChain e i x key s).lasting = s.lasting := by
  first
  | rfl
  | (simp [joinChain]; done)
  | (unfold joinChain; (repeat' split) <;> simp)
  | (simp only [joinChain]; (repeat' split) <;> first | rfl | simp)
@[simp] theorem egressArrival_lasting (e i : Fin 16) (cls : Nat) (s : State) :
    (egressArrival e i cls s).lasting = s.lasting := by
  unfold egressArrival
  dsimp only
  split
  · rfl
  · split
    · rfl
    · split
      · simp
      · split
        · simp
        · split
          · simp
          · split
            · simp
            · split
              · simp
              · split <;> rename_i h <;> (have h' := congrArg (fun z => z.2.lasting) h; simp at h')
                · simp [h']
                · repeat' split
                  all_goals simp [h']
@[simp] theorem cutChain_lasting (e : Fin 16) (key : Nat) (s : State) :
    (cutChain e key s).lasting = s.lasting := by
  simp only [cutChain]
  repeat' split
  all_goals simp
@[simp] theorem crossCell_lasting (i : Fin 16) (p : Packet) (s : State) :
    (crossCell i p s).lasting = s.lasting := by
  rw [crossCell, foldl_lasting]
  intro a c
  dsimp only
  split
  · split
    · rfl
    · split <;> rename_i h <;> (have h' := congrArg (fun z => z.2.lasting) h; simp at h')
      · simp [h']
      · simp [h']
  · rfl
@[simp] theorem crossEnd_lasting (i : Fin 16) (n : Nat) (s : State) : (crossEnd i n s).lasting = s.lasting := by
  unfold crossEnd
  repeat' split
  all_goals simp
@[simp] theorem dropVoq_lasting (j : Fin 16) (e : Fin 16) (s : State) :
    (dropVoq j e s).lasting = s.lasting := by
  simp only [dropVoq]
  repeat' split
  all_goals simp
@[simp] theorem loseFlight_lasting (j : Fin 16) (e : Fin 16) (s : State) :
    (loseFlight j e s).lasting = s.lasting := by
  simp only [loseFlight]
  repeat' split
  all_goals simp
@[simp] theorem xbrFence_lasting (i : Fin 16) (s : State) :
    (xbrFence i s).lasting = s.lasting := by
  rw [xbrFence, foldl_lasting]
  intro a j
  split <;> simp
@[simp] theorem endFragment_lasting (i : Fin 16) (n : Nat) (s : State) : (endFragment i n s).lasting = s.lasting := by
  rfl
@[simp] theorem dropPacket_lasting (i : Fin 16) (n : Nat) (code : Nat) (s : State) :
    (dropPacket i n code s).lasting = s.lasting := by
  simp [dropPacket]
@[simp] theorem dropFull_lasting (i : Fin 16) (n : Nat) (s : State) :
    (dropFull i n s).lasting = s.lasting := by
  simp only [dropFull]
  repeat' split
  all_goals simp
@[simp] theorem frameStart_lasting (i : Fin 16) (k : Nat) (interp : Nat) (s : State) :
    (frameStart i k interp s).lasting = s.lasting := by
  unfold frameStart
  dsimp only
  repeat' split
  all_goals first | rfl | simp
@[simp] theorem takeIngressCell_lasting (i : Fin 16) (n : Nat) (s : State) :
    (takeIngressCell i n s).lasting = s.lasting := by
  unfold takeIngressCell
  split
  · rfl
  · split
    · rfl
    · split <;> rename_i h <;> (have h' := congrArg (fun z => z.2.lasting) h; simp at h')
      · simp [h']
      · dsimp only
        split <;> simp [h']
@[simp] theorem storeBytes_lasting (i : Fin 16) (k : Nat) (bytes : List Byte) (s : State) :
    (storeBytes i k bytes s).lasting = s.lasting := by
  unfold storeBytes
  repeat' split
  all_goals simp
@[simp] theorem frameCell_lasting (i : Fin 16) (k : Nat) (bytes : List Byte) (s : State) :
    (frameCell i k bytes s).lasting = s.lasting := by
  unfold frameCell
  repeat' split
  all_goals simp
@[simp] theorem forgetPacket_lasting (i : Fin 16) (k : Nat) (n : Nat) (s : State) :
    (forgetPacket i k n s).lasting = s.lasting := by
  simp only [forgetPacket]
  repeat' split
  all_goals simp
@[simp] theorem frameEnd_lasting (i : Fin 16) (k : Nat) (tail : List Byte) (pcs : Bool) (corrected : Nat) (uncorrectable : Nat) (frags : Nat) (s0 : State) :
    (frameEnd i k tail pcs corrected uncorrectable frags s0).lasting = s0.lasting := by
  unfold frameEnd
  split <;> (try split) <;> (try split) <;> (try split) <;> first | rfl | (simp; done) | (simp [apply_ite State.lasting]; done)
@[simp] theorem abortOne_lasting (i : Fin 16) (k : Nat) (c : Nat) (s : State) :
    (abortOne i k c s).lasting = s.lasting := by
  simp only [abortOne]
  repeat' split
  all_goals simp
@[simp] theorem abortRx_lasting (i : Fin 16) (k : Nat) (c : Nat) (s : State) : (abortRx i k c s).lasting = s.lasting := by
  simp only [abortRx]
  repeat' split
  all_goals simp
@[simp] theorem State.modFrg_lasting (s : State) (i : Fin 16) (f : FragTable → FragTable) :
    (State.modFrg s i f).lasting = s.lasting := by
  rfl
@[simp] theorem fragInsert_lasting (i : Fin 16) (n : Nat) (key : List Byte) (t : Nat) (s : State) :
    (fragInsert i n key t s).2.lasting = s.lasting := by
  simp only [fragInsert]
  repeat' split
  all_goals simp
@[simp] theorem fragLookup_lasting (i : Fin 16) (key : List Byte) (t : Nat) (s : State) :
    (fragLookup i key t s).2.lasting = s.lasting := by
  unfold fragLookup
  repeat' split
  all_goals simp
@[simp] theorem enqueueHome_lasting (i : Fin 16) (n : Nat) (p : Packet) (s : State) :
    (enqueueHome i n p s).lasting = s.lasting := by
  simp only [enqueueHome]
  repeat' split
  all_goals simp
@[simp] theorem fragMiss_lasting (i : Fin 16) (n : Nat) (p0 : Packet) (s : State) :
    (fragMiss i n p0 s).lasting = s.lasting := by
  simp only [fragMiss]
  repeat' split
  all_goals simp
@[simp] theorem fragTake_lasting (i : Fin 16) (n : Nat) (p : Packet) (key : List Byte) (s : State) :
    (fragTake i n p key s).lasting = s.lasting := by
  unfold fragTake
  have h := fragLookup_lasting i key p.capture.t16 s
  split
  · simp_all
  · split <;> simp_all
  · simp_all
@[simp] theorem parseComplete_lasting (i : Fin 16) (k : Nat) (len : Nat) (s : State) :
    (parseComplete i k len s).lasting = s.lasting := by
  simp only [parseComplete]
  repeat' split
  all_goals simp
@[simp] theorem fragRelease_lasting (i : Fin 16) (s : State) : (fragRelease i s).lasting = s.lasting := by
  simp only [fragRelease]
  repeat' split
  all_goals simp
@[simp] theorem frgFlush_lasting (i : Fin 16) (s : State) : (frgFlush i s).2.lasting = s.lasting := by
  unfold frgFlush
  dsimp only
  rw [foldl_lasting]
  · simp
  · intro a x
    split <;> simp
@[simp] theorem putFrg_lasting (i : Fin 16) (c : CmdReg) (s : State) : (putFrg i c s).lasting = s.lasting := by
  rfl
@[simp] theorem refuseSlc_lasting (i : Fin 16) (s : State) : (refuseSlc i s).lasting = s.lasting := by
  rfl
@[simp] theorem frgCommand_lasting (i : Fin 16) (r : Requester) (w : Word) (s : State) :
    (frgCommand i r w s).lasting = s.lasting := by
  unfold frgCommand
  repeat' split
  all_goals simp
@[simp] theorem frgFlushDone_lasting (i : Fin 16) (s : State) : (frgFlushDone i s).lasting = s.lasting := by
  unfold frgFlushDone
  repeat' split
  all_goals simp
@[simp] theorem fragExpiry_lasting (i : Fin 16) (k : Nat) (s : State) : (fragExpiry i k s).lasting = s.lasting := by
  unfold fragExpiry
  repeat' split
  all_goals simp
@[simp] theorem startThread_lasting (i : Fin 16) (t : Nat) (n : Nat) (p : Packet) (s : State) :
    (startThread i t n p s).lasting = s.lasting := by
  rfl
@[simp] theorem popHead_lasting (i : Fin 16) (c : Nat) (s : State) : (popHead i c s).lasting = s.lasting := by
  rfl
@[simp] theorem packetStart_lasting (i : Fin 16) (c : Nat) (s : State) : (packetStart i c s).lasting = s.lasting := by
  unfold packetStart
  repeat' split
  all_goals simp
@[simp] theorem workSteal_lasting (i : Fin 16) (thief : Nat) (victim : Nat) (s : State) :
    (workSteal i thief victim s).lasting = s.lasting := by
  simp only [workSteal]
  repeat' split
  all_goals simp
@[simp] theorem portEnable_lasting (i : Fin 16) (k : Nat) (s : State) : (portEnable i k s).2.lasting = s.lasting := by
  simp [portEnable]
@[simp] theorem portDown_lasting (i : Fin 16) (k : Nat) (code : Nat) (s : State) :
    (portDown i k code s).lasting = s.lasting := by
  simp [portDown]
@[simp] theorem portDisable_lasting (i : Fin 16) (k : Nat) (s : State) : (portDisable i k s).2.lasting = s.lasting := by
  simp [portDisable]
@[simp] theorem putPrt_lasting (i : Fin 16) (k : Nat) (c : CmdReg) (s : State) : (putPrt i k c s).lasting = s.lasting := by
  rfl
@[simp] theorem prtCommand_lasting (i : Fin 16) (k : Nat) (r : Requester) (w : Word) (s : State) :
    (prtCommand i k r w s).lasting = s.lasting := by
  unfold prtCommand
  repeat' split
  all_goals simp
@[simp] theorem linkUp_lasting (i : Fin 16) (k : Nat) (deskew : Nat) (s : State) :
    (linkUp i k deskew s).lasting = s.lasting := by
  unfold linkUp
  repeat' split
  all_goals simp
@[simp] theorem linkDown_lasting (i : Fin 16) (k : Nat) (s : State) : (linkDown i k s).lasting = s.lasting := by
  simp only [linkDown]
  repeat' split
  all_goals simp
@[simp] theorem calValidRise_lasting (i : Fin 16) (k : Nat) (s : State) : (calValidRise i k s).lasting = s.lasting := by
  simp only [calValidRise]
  repeat' split
  all_goals simp
@[simp] theorem calAdjWrite_lasting (i : Fin 16) (k : Nat) (r : Requester) (h : Half) (w : Word) (s : State) :
    (calAdjWrite i k r h w s).lasting = s.lasting := by
  unfold calAdjWrite
  repeat' split
  all_goals simp
@[simp] theorem pauseReceived_lasting (i : Fin 16) (k : Nat) (pfc : Option (BitVec 8)) (quanta : List Nat) (s : State) :
    (pauseReceived i k pfc quanta s).lasting = s.lasting := by
  simp only [pauseReceived]
  repeat' split
  all_goals simp
@[simp] theorem pauseExpiry_lasting (i : Fin 16) (k : Nat) (s : State) : (pauseExpiry i k s).lasting = s.lasting := by
  simp [pauseExpiry]
@[simp] theorem pauseRepeat_lasting (i : Fin 16) (k : Nat) (s : State) : (pauseRepeat i k s).lasting = s.lasting := by
  simp only [pauseRepeat]
  repeat' split
  all_goals simp
@[simp] theorem preemptVerify_lasting (i : Fin 16) (k : Nat) (good : Bool) (s : State) :
    (preemptVerify i k good s).lasting = s.lasting := by
  simp only [preemptVerify]
  repeat' split
  all_goals simp
@[simp] theorem transmitComplete_lasting (i : Fin 16) (k : Nat) (s : State) :
    (transmitComplete i k s).lasting = s.lasting := by
  simp only [transmitComplete]
  repeat' split
  all_goals simp
@[simp] theorem healthDown_lasting (s : State) : (healthDown s).lasting = s.lasting := by
  unfold healthDown
  repeat' split
  all_goals simp
@[simp] theorem healthWrite_lasting (r : Requester) (h : Half) (w : Word) (s : State) :
    (healthWrite r h w s).lasting = s.lasting := by
  simp only [healthWrite]
  repeat' split
  all_goals (first | rfl | simp)
@[simp] theorem watchdogExpiry_lasting (s : State) : (watchdogExpiry s).lasting = s.lasting := by
  unfold watchdogExpiry
  repeat' split
  all_goals simp
@[simp] theorem completeSamples_lasting (i : Fin 16) (t : Nat) (th : Thread) (flags : Nat) (p : Nat → Bool) (s : State) :
    (completeSamples i t th flags p s).lasting = s.lasting := by
  simp [completeSamples]
@[simp] theorem completeSync_lasting (i : Fin 16) (t : Nat) (th : Thread) (flags : Nat) (all : Bool) (s : State) :
    (completeSync i t th flags all s).lasting = s.lasting := by
  first
  | rfl
  | (simp [completeSync]; done)
  | (unfold completeSync; (repeat' split) <;> simp)
  | (simp only [completeSync]; (repeat' split) <;> first | rfl | simp)
@[simp] theorem syncDone_lasting (i : Fin 16) (s : State) :
    (syncDone i s).lasting = s.lasting := by
  rw [syncDone, foldl_lasting]
  intro a t
  split <;> simp
@[simp] theorem stopThread_lasting (i : Fin 16) (t : Nat) (s : State) : (stopThread i t s).lasting = s.lasting := by
  unfold stopThread
  repeat' split
  all_goals simp
@[simp] theorem endDrop_lasting (i : Fin 16) (t : Nat) (code : Nat) (s : State) :
    (endDrop i t code s).lasting = s.lasting := by
  unfold endDrop
  repeat' split
  all_goals simp
@[simp] theorem commitThread_lasting (i : Fin 16) (t : Nat) (s : State) : (commitThread i t s).lasting = s.lasting := by
  simp only [commitThread]
  repeat' split
  all_goals simp
@[simp] theorem release_lasting (i : Fin 16) (t : Nat) (s : State) : (release i t s).lasting = s.lasting := by
  unfold release
  repeat' split
  all_goals simp
@[simp] theorem runLimitExpiry_lasting (i : Fin 16) (t : Nat) (s : State) : (runLimitExpiry i t s).lasting = s.lasting := by
  unfold runLimitExpiry
  repeat' split
  all_goals simp
@[simp] theorem icacheFill_lasting (i : Fin 16) (c : Nat) (s : State) : (icacheFill i c s).lasting = s.lasting := by
  unfold icacheFill
  split
  · rfl
  · dsimp only
    rw [foldl_lasting]
    · simp
    · intro a x
      split <;> simp
@[simp] theorem redispatch_lasting (i : Fin 16) (c : Nat) (s : State) : (redispatch i c s).lasting = s.lasting := by
  unfold redispatch
  dsimp only
  rw [foldl_lasting, foldl_lasting]
  all_goals (intro a x; simp)
@[simp] theorem emHit_lasting (i : Fin 16) (far : Bool) (ldsr : Bool) (d : Nat) (n : Nat) (e : Entry) (s : State) :
    (emHit i far ldsr d n e s).2.lasting = s.lasting := by
  unfold emHit
  repeat' split
  all_goals simp
@[simp] theorem emFar_lasting (i : Fin 16) (epoch : Nat) (err : Nat) (wide : Bool) (ldsr : Bool) (key : Nat) (d : Nat) (s : State) :
    (emFar i epoch err wide ldsr key d s).2.lasting = s.lasting := by
  simp only [emFar]
  repeat' split
  all_goals simp
@[simp] theorem emSearch_lasting (i : Fin 16) (o : AsyncOp) (epoch : Nat) (err : Nat) (tier : Nat) (served : Bool) (wide : Bool) (ldsr : Bool) (key : Nat) (d : Nat) (s : State) :
    (emSearch i o epoch err tier served wide ldsr key d s).2.lasting = s.lasting := by
  simp only [emSearch]
  repeat' split
  all_goals simp
@[simp] theorem performOp_lasting (i : Fin 16) (epoch : Nat) (err : Nat) (queued : Bool) (o : AsyncOp) (s : State) :
    (performOp i epoch err queued o s).2.lasting = s.lasting := by
  simp only [performOp]
  repeat' split
  all_goals simp
@[simp] theorem finishOp_lasting (i : Fin 16) (t : Nat) (tag : Nat) (o : AsyncOp) (r : OpResult) (s : State) :
    (finishOp i t tag o r s).lasting = s.lasting := by
  simp only [finishOp]
  repeat' split
  all_goals simp
@[simp] theorem takeEffects_lasting (i : Fin 16) (t : Nat) (epoch : Nat) (l : List (Nat × AsyncOp)) (s : State) :
    (takeEffects i t epoch l s).lasting = s.lasting := by
  rw [takeEffects, foldl_lasting]
  intro a x
  dsimp only
  split <;> simp
@[simp] theorem completeOp_lasting (i : Fin 16) (t : Nat) (tag : Nat) (err : Nat) (kind : AsyncOp → Bool) (s : State) :
    (completeOp i t tag err kind s).lasting = s.lasting := by
  simp only [completeOp]
  repeat' split
  all_goals simp
@[simp] theorem fenceOps_lasting (i : Fin 16) (us : List Nat) (s : State) :
    (fenceOps i us s).lasting = s.lasting := by
  simp only [fenceOps]
  repeat' split
  all_goals simp
@[simp] theorem countCause_lasting (i : Fin 16) (c : Nat) (s : State) : (countCause i c s).lasting = s.lasting := by
  unfold countCause
  repeat' split
  all_goals simp
@[simp] theorem raiseCause_lasting (i : Fin 16) (t : Nat) (th : Thread) (c : Nat) (arg : Word) (s : State) :
    (raiseCause i t th c arg s).lasting = s.lasting := by
  unfold raiseCause
  repeat' split
  all_goals simp
@[simp] theorem pick_lasting (l : List Nat) (s : State) : (pick l s).2.lasting = s.lasting := by
  unfold pick
  repeat' split
  all_goals simp
@[simp] theorem Plan.cause_lasting (p : Plan) (w : Word) (th : Thread) (s : State) : (Plan.cause p w th s).2.lasting = s.lasting := by
  unfold Plan.cause
  dsimp only
  repeat' split
  all_goals simp
@[simp] theorem spadArbitrate_lasting (i : Fin 16) (t : Nat) (a : Option Nat) (s : State) :
    (spadArbitrate i t a s).lasting = s.lasting := by
  first
  | rfl
  | (simp [spadArbitrate]; done)
  | (unfold spadArbitrate; (repeat' split) <;> simp)
  | (simp only [spadArbitrate]; (repeat' split) <;> first | rfl | simp)
@[simp] theorem runPlan_lasting (i : Fin 16) (t : Nat) (w : Word) (th : Thread) (p : Plan) (s : State)
    (h : ∀ x a, (p.act x a).2.lasting = a.lasting) : (runPlan i t w th p s).lasting = s.lasting := by
  have hc : (p.cause w th s).2.lasting = s.lasting := by
    unfold Plan.cause
    dsimp only
    repeat' split
    all_goals simp
  unfold runPlan
  dsimp only
  split
  · split <;> simp [hc]
  · split <;> simp [hc, h]
@[simp] theorem issue_lasting (i : Fin 16) (t : Nat) (w : Word) (plan : Thread → Packet → State → Plan) (s : State)
    (h : ∀ th p s1 x a, ((plan th p s1).act x a).2.lasting = a.lasting) : (issue i t w plan s).lasting = s.lasting := by
  unfold issue
  dsimp only
  repeat' split
  all_goals simp [h]
@[simp] theorem aluPlan_lasting (r : AluRow) (w : Word) (th : Thread) (x : Thread) (a : State) :
    ((aluPlan r w th).act x a).2.lasting = a.lasting := by
  rfl
@[simp] theorem nopPlan_lasting (w : Word) (x : Thread) (a : State) : ((nopPlan w).act x a).2.lasting = a.lasting := by
  rfl
@[simp] theorem extPlan_lasting (w : Word) (th : Thread) (p : Packet) (s : State) (x : Thread) (a : State) :
    ((extPlan w th p s).act x a).2.lasting = a.lasting := by
  rfl
@[simp] theorem extrPlan_lasting (w : Word) (th : Thread) (x : Thread) (a : State) :
    ((extrPlan w th).act x a).2.lasting = a.lasting := by
  rfl
@[simp] theorem insPlan_lasting (w : Word) (th : Thread) (x : Thread) (a : State) :
    ((insPlan w th).act x a).2.lasting = a.lasting := by
  rfl
@[simp] theorem branchPlan_lasting (bad : Bool) (taken : Bool) (reads : List Ref) (w : Word) (x : Thread) (a : State) :
    ((branchPlan bad taken reads w).act x a).2.lasting = a.lasting := by
  rfl
@[simp] theorem brPlan_lasting (w : Word) (x : Thread) (a : State) : ((brPlan w).act x a).2.lasting = a.lasting := by
  rfl
@[simp] theorem callPlan_lasting (w : Word) (th : Thread) (x : Thread) (a : State) :
    ((callPlan w th).act x a).2.lasting = a.lasting := by
  rfl
@[simp] theorem jrPlan_lasting (w : Word) (th : Thread) (x : Thread) (a : State) :
    ((jrPlan w th).act x a).2.lasting = a.lasting := by
  rfl
@[simp] theorem bcPlan_lasting (w : Word) (th : Thread) (x : Thread) (a : State) :
    ((bcPlan w th).act x a).2.lasting = a.lasting := by
  rfl
@[simp] theorem cbPlan_lasting (w : Word) (th : Thread) (x : Thread) (a : State) :
    ((cbPlan w th).act x a).2.lasting = a.lasting := by
  rfl
@[simp] theorem cbiPlan_lasting (w : Word) (th : Thread) (x : Thread) (a : State) :
    ((cbiPlan w th).act x a).2.lasting = a.lasting := by
  rfl
@[simp] theorem bbitPlan_lasting (w : Word) (th : Thread) (x : Thread) (a : State) :
    ((bbitPlan w th).act x a).2.lasting = a.lasting := by
  rfl
@[simp] theorem btPlan_lasting (w : Word) (th : Thread) (x : Thread) (a : State) :
    ((btPlan w th).act x a).2.lasting = a.lasting := by
  rfl
@[simp] theorem ldPlan_lasting (i : Fin 16) (t : Nat) (w : Word) (th : Thread) (x : Thread) (a : State) :
    ((ldPlan i t w th).act x a).2.lasting = a.lasting := by
  rfl
@[simp] theorem stPlan_lasting (i : Fin 16) (t : Nat) (w : Word) (th : Thread) (x : Thread) (a : State) :
    ((stPlan i t w th).act x a).2.lasting = a.lasting := by
  rfl
@[simp] theorem sfaPlan_lasting (i : Fin 16) (t : Nat) (w : Word) (th : Thread) (x : Thread) (a : State) :
    ((sfaPlan i t w th).act x a).2.lasting = a.lasting := by
  rfl
@[simp] theorem csrrPlan_lasting (i : Fin 16) (t : Nat) (w : Word) (th : Thread) (s : State) (x : Thread) (a : State) :
    ((csrrPlan i t w th s).act x a).2.lasting = a.lasting := by
  rfl
@[simp] theorem csrwPlan_lasting (w : Word) (th : Thread) (x : Thread) (a : State) :
    ((csrwPlan w th).act x a).2.lasting = a.lasting := by
  rfl
@[simp] theorem trapPlan_lasting (w : Word) (x : Thread) (a : State) : ((trapPlan w).act x a).2.lasting = a.lasting := by
  rfl
@[simp] theorem endPlan_lasting (w : Word) (x : Thread) (a : State) : ((endPlan w).act x a).2.lasting = a.lasting := by
  rfl
@[simp] theorem asyncPlan_lasting (cls : Nat) (bad : Bool) (fenced : List Nat) (reads : List Ref) (w : Word) (o : AsyncOp) (x : Thread) (a : State) :
    ((asyncPlan cls bad fenced reads w o).act x a).2.lasting = a.lasting := by
  rfl
@[simp] theorem Plan.srm_lasting (p : Plan) (i : Fin 16) (th : Thread) (on : Bool) (h : ∀ x a, (p.act x a).2.lasting = a.lasting) (x : Thread) (a : State) :
    ((p.srm i th on).act x a).2.lasting = a.lasting := by
  unfold Plan.srm
  split <;> simp [h]
@[simp] theorem lkpEmPlan_lasting (i : Fin 16) (w : Word) (th : Thread) (s : State) (x : Thread) (a : State) :
    ((lkpEmPlan i w th s).act x a).2.lasting = a.lasting := by
  rfl
@[simp] theorem lkpRmPlan_lasting (i : Fin 16) (w : Word) (th : Thread) (s : State) (x : Thread) (a : State) :
    ((lkpRmPlan i w th s).act x a).2.lasting = a.lasting := by
  rfl
@[simp] theorem lkpSrPlan_lasting (i : Fin 16) (w : Word) (th : Thread) (s : State) (x : Thread) (a : State) :
    ((lkpSrPlan i w th s).act x a).2.lasting = a.lasting := by
  rfl
@[simp] theorem waitPlan_lasting (w : Word) (th : Thread) (x : Thread) (a : State) :
    ((waitPlan w th).act x a).2.lasting = a.lasting := by
  rfl
@[simp] theorem meterPlan_lasting (i : Fin 16) (w : Word) (th : Thread) (p : Packet) (s : State) (x : Thread) (a : State) :
    ((meterPlan i w th p s).act x a).2.lasting = a.lasting := by
  simp [meterPlan]
@[simp] theorem seqPlan_lasting (i : Fin 16) (w : Word) (th : Thread) (s : State) (x : Thread) (a : State) :
    ((seqPlan i w th s).act x a).2.lasting = a.lasting := by
  simp [seqPlan]
@[simp] theorem hashFastPlan_lasting (w : Word) (th : Thread) (x : Thread) (a : State) :
    ((hashFastPlan w th).act x a).2.lasting = a.lasting := by
  rfl
@[simp] theorem hashShaPlan_lasting (i : Fin 16) (w : Word) (th : Thread) (p : Packet) (s : State) (x : Thread) (a : State) :
    ((hashShaPlan i w th p s).act x a).2.lasting = a.lasting := by
  rfl
@[simp] theorem entryPlan_lasting (cls : Nat) (bad : Bool) (reads : List Ref) (off : Nat) (width : Nat) (e : Edit) (th : Thread) (x : Thread) (a : State) :
    ((entryPlan cls bad reads off width e th).act x a).2.lasting = a.lasting := by
  rfl
@[simp] theorem editSetPlan_lasting (w : Word) (th : Thread) (x : Thread) (a : State) :
    ((editSetPlan w th).act x a).2.lasting = a.lasting := by
  rfl
@[simp] theorem editInsPlan_lasting (w : Word) (th : Thread) (x : Thread) (a : State) :
    ((editInsPlan w th).act x a).2.lasting = a.lasting := by
  rfl
@[simp] theorem editDelPlan_lasting (w : Word) (th : Thread) (x : Thread) (a : State) :
    ((editDelPlan w th).act x a).2.lasting = a.lasting := by
  rfl
@[simp] theorem editCsumIp4Plan_lasting (w : Word) (th : Thread) (x : Thread) (a : State) :
    ((editCsumIp4Plan w th).act x a).2.lasting = a.lasting := by
  rfl
@[simp] theorem editCsumL4Plan_lasting (w : Word) (th : Thread) (x : Thread) (a : State) :
    ((editCsumL4Plan w th).act x a).2.lasting = a.lasting := by
  rfl
@[simp] theorem editTruncPlan_lasting (w : Word) (th : Thread) (x : Thread) (a : State) :
    ((editTruncPlan w th).act x a).2.lasting = a.lasting := by
  rfl
@[simp] theorem stampReadNowPlan_lasting (i : Fin 16) (w : Word) (s : State) (x : Thread) (a : State) :
    ((stampReadNowPlan i w s).act x a).2.lasting = a.lasting := by
  rfl
@[simp] theorem stampInsRxPlan_lasting (w : Word) (th : Thread) (x : Thread) (a : State) :
    ((stampInsRxPlan w th).act x a).2.lasting = a.lasting := by
  rfl
@[simp] theorem stampInsTxPlan_lasting (w : Word) (th : Thread) (x : Thread) (a : State) :
    ((stampInsTxPlan w th).act x a).2.lasting = a.lasting := by
  rfl
@[simp] theorem stampCorrPlan_lasting (w : Word) (th : Thread) (x : Thread) (a : State) :
    ((stampCorrPlan w th).act x a).2.lasting = a.lasting := by
  rfl
@[simp] theorem ledgPlan_lasting (w : Word) (th : Thread) (x : Thread) (a : State) :
    ((ledgPlan w th).act x a).2.lasting = a.lasting := by
  rfl
@[simp] theorem markPlan_lasting (w : Word) (th : Thread) (x : Thread) (a : State) :
    ((markPlan w th).act x a).2.lasting = a.lasting := by
  rfl
@[simp] theorem fragPlan_lasting (i : Fin 16) (w : Word) (th : Thread) (p : Packet) (s : State) (x : Thread) (a : State) :
    ((fragPlan i w th p s).act x a).2.lasting = a.lasting := by
  simp only [fragPlan]
  repeat' split
  all_goals simp
@[simp] theorem emitPlan_lasting (i : Fin 16) (w : Word) (th : Thread) (s : State) (target : Target) (time : Bool) (cut : Bool) (slice : Option Nat) (x : Thread) (a : State) :
    ((emitPlan i w th s target time cut slice).act x a).2.lasting = a.lasting := by
  rfl
@[simp] theorem emitQueuePlan_lasting (i : Fin 16) (w : Word) (th : Thread) (p : Packet) (s : State) (x : Thread) (a : State) :
    ((emitQueuePlan i w th p s).act x a).2.lasting = a.lasting := by
  rfl
@[simp] theorem emitPortPlan_lasting (i : Fin 16) (w : Word) (th : Thread) (p : Packet) (s : State) (x : Thread) (a : State) :
    ((emitPortPlan i w th p s).act x a).2.lasting = a.lasting := by
  rfl
@[simp] theorem emitMergePlan_lasting (i : Fin 16) (w : Word) (th : Thread) (s : State) (x : Thread) (a : State) :
    ((emitMergePlan i w th s).act x a).2.lasting = a.lasting := by
  rfl
@[simp] theorem emitEqxPlan_lasting (i : Fin 16) (w : Word) (th : Thread) (s : State) (x : Thread) (a : State) :
    ((emitEqxPlan i w th s).act x a).2.lasting = a.lasting := by
  rfl
@[simp] theorem emitMcastPlan_lasting (i : Fin 16) (w : Word) (th : Thread) (s : State) (x : Thread) (a : State) :
    ((emitMcastPlan i w th s).act x a).2.lasting = a.lasting := by
  rfl
@[simp] theorem puntPlan_lasting (w : Word) (th : Thread) (x : Thread) (a : State) :
    ((puntPlan w th).act x a).2.lasting = a.lasting := by
  rfl
@[simp] theorem rplyPlan_lasting (i : Fin 16) (w : Word) (th : Thread) (s : State) (x : Thread) (a : State) :
    ((rplyPlan i w th s).act x a).2.lasting = a.lasting := by
  rfl
@[simp] theorem dropPlan_lasting (w : Word) (x : Thread) (a : State) : ((dropPlan w).act x a).2.lasting = a.lasting := by
  rfl
@[simp] theorem learnPost_lasting (i : Fin 16) (key : Nat) (result : Word) (s : State) :
    (learnPost i key result s).lasting = s.lasting := by
  unfold learnPost
  repeat' split
  all_goals simp
@[simp] theorem learnPlan_lasting (i : Fin 16) (w : Word) (th : Thread) (s : State) (x : Thread) (a : State) :
    ((learnPlan i w th s).act x a).2.lasting = a.lasting := by
  simp [learnPlan]
@[simp] theorem putFol_lasting (c : CmdReg) (s : State) : (putFol c s).lasting = s.lasting := by
  rfl
@[simp] theorem refuseFol_lasting (s : State) : (refuseFol s).lasting = s.lasting := by
  rfl
@[simp] theorem State.mapFol_lasting (s : State) (f : SliceFolio → SliceFolio) : (State.mapFol s f).lasting = s.lasting := by
  rfl
@[simp] theorem folOpen_lasting (copy : Bool) (s : State) : (folOpen copy s).lasting = s.lasting := by
  rfl
@[simp] theorem folPend_lasting (rollback : Bool) (s : State) : (folPend rollback s).lasting = s.lasting := by
  rfl
@[simp] theorem folCancel_lasting (s : State) : (folCancel s).lasting = s.lasting := by
  unfold folCancel
  dsimp only
  split
  · simp
  · rw [foldl_lasting]
    · simp
    · intro a k
      simp
@[simp] theorem folAbort_lasting (s : State) : (folAbort s).lasting = s.lasting := by
  unfold folAbort
  repeat' split
  all_goals simp
@[simp] theorem folCommand_lasting (r : Requester) (w : Word) (s : State) : (folCommand r w s).lasting = s.lasting := by
  unfold folCommand
  refine runCommand_lasting _ _ _ _ _ _ (by simp) (by simp) ?_
  split
  · exact judge_lasting _ _ _ (by simp)
  · exact judge_lasting _ _ _ (by simp)
  · exact judge_lasting _ _ _ (by simp)
  · exact judge_lasting _ _ _ (by simp)
  · rfl
@[simp] theorem retireSlice_lasting (f : Folio) (s : State) (i : Fin 16) :
    (retireSlice f s i).lasting = s.lasting := by
  unfold retireSlice
  dsimp only
  split <;> split <;> simp
@[simp] theorem stagingReady_lasting (s : State) : (stagingReady s).lasting = s.lasting := by
  unfold stagingReady
  repeat' split
  all_goals simp
@[simp] theorem sliceArmed_lasting (i : Fin 16) (s : State) : (sliceArmed i s).lasting = s.lasting := by
  simp only [sliceArmed]
  repeat' split
  all_goals simp
@[simp] theorem armDeadline_lasting (s : State) : (armDeadline s).lasting = s.lasting := by
  simp only [armDeadline]
  repeat' split
  all_goals simp
@[simp] theorem applySwitch_lasting (i : Fin 16) (epoch : Option Nat) (s : State) :
    (applySwitch i epoch s).lasting = s.lasting := by
  unfold applySwitch
  repeat' split
  all_goals simp
@[simp] theorem applyRecorded_lasting (i : Fin 16) (s : State) : (applyRecorded i s).lasting = s.lasting := by
  simp [applyRecorded]
@[simp] theorem folioSwitch_lasting (i : Fin 16) (s : State) : (folioSwitch i s).lasting = s.lasting := by
  simp only [folioSwitch]
  repeat' split
  all_goals simp
@[simp] theorem sliceDrained_lasting (i : Fin 16) (s : State) : (sliceDrained i s).lasting = s.lasting := by
  simp only [sliceDrained]
  repeat' split
  all_goals simp
@[simp] theorem coherenceCheck_lasting (s : State) : (coherenceCheck s).lasting = s.lasting := by
  unfold coherenceCheck
  repeat' split
  all_goals simp
@[simp] theorem folTimeWrite_lasting (r : Requester) (one : Bool) (h : Half) (w : Word) (s : State) :
    (folTimeWrite r one h w s).lasting = s.lasting := by
  unfold folTimeWrite
  repeat' split
  all_goals simp
@[simp] theorem folSliceWrite_lasting (i : Fin 16) (r : Requester) (k : Nat) (h : Half) (w : Word) (s : State) :
    (folSliceWrite i r k h w s).lasting = s.lasting := by
  unfold folSliceWrite
  repeat' split
  all_goals simp
@[simp] theorem State.modSeq_lasting (s : State) (i : Fin 16) (f : Sequencer → Sequencer) :
    (State.modSeq s i f).lasting = s.lasting := by
  rfl
@[simp] theorem seqHalt_lasting (i : Fin 16) (cause : Nat) (s : State) : (seqHalt i cause s).lasting = s.lasting := by
  simp [seqHalt]
@[simp] theorem seqEnter_lasting (i : Fin 16) (c : Nat) (s : State) : (seqEnter i c s).lasting = s.lasting := by
  rfl
@[simp] theorem seqTake_lasting (i : Fin 16) (s : State) : (seqTake i s).lasting = s.lasting := by
  simp only [seqTake]
  repeat' split
  all_goals simp
@[simp] theorem seqTrap_lasting (i : Fin 16) (c : Nat) (s : State) : (seqTrap i c s).lasting = s.lasting := by
  simp only [seqTrap]
  repeat' split
  all_goals simp
@[simp] theorem seqMicroword_lasting (i : Fin 16) (ecc : Nat) (s : State) : (seqMicroword i ecc s).lasting = s.lasting := by
  simp only [seqMicroword]
  repeat' split
  all_goals simp
@[simp] theorem seqLoad_lasting (i : Fin 16) (img : List Byte) (s : State) : (seqLoad i img s).lasting = s.lasting := by
  unfold seqLoad
  repeat' split
  all_goals simp
@[simp] theorem programWrite_lasting (i : Fin 16) (r : Requester) (bank : Nat) (n : Nat) (h : Half) (w : Word) (s : State) :
    (programWrite i r bank n h w s).lasting = s.lasting := by
  unfold programWrite
  repeat' split
  all_goals simp
@[simp] theorem spadWindow_lasting (i : Fin 16) (r : Requester) (c : Nat) (n : Nat) (h : Half) (data : Option Word) (s : State) :
    (spadWindow i r c n h data s).lasting = s.lasting := by
  unfold spadWindow
  repeat' split
  all_goals simp
@[simp] theorem pgmTrapWrite_lasting (i : Fin 16) (r : Requester) (h : Half) (w : Word) (s : State) :
    (pgmTrapWrite i r h w s).lasting = s.lasting := by
  simp only [pgmTrapWrite]
  repeat' split
  all_goals simp
@[simp] theorem putSlc_lasting (i : Fin 16) (c : CmdReg) (s : State) : (putSlc i c s).lasting = s.lasting := by
  rfl
@[simp] theorem slcCommand_lasting (i : Fin 16) (r : Requester) (w : Word) (s : State) :
    (slcCommand i r w s).lasting = s.lasting := by
  unfold slcCommand
  repeat' split
  all_goals simp
@[simp] theorem retentionEntered_lasting (i : Fin 16) (s : State) : (retentionEntered i s).lasting = s.lasting := by
  simp only [retentionEntered]
  repeat' split
  all_goals simp
@[simp] theorem rebuildBuffers_lasting (i : Fin 16) (s : State) :
    (rebuildBuffers i s).lasting = s.lasting := by
  simp only [rebuildBuffers]
  repeat' split
  all_goals simp
@[simp] theorem exitRetentionDone_lasting (i : Fin 16) (s : State) : (exitRetentionDone i s).lasting = s.lasting := by
  unfold exitRetentionDone
  repeat' split
  all_goals simp
@[simp] theorem applyPfMap_lasting (l : Nat) (s : State) : (applyPfMap l s).lasting = s.lasting := by
  simp [applyPfMap, apply_ite State.lasting]
@[simp] theorem eachRing_lasting (i : Fin 16) (f : Nat → State → State) (s : State) (h : ∀ r a, (f r a).lasting = a.lasting) :
    (eachRing i f s).lasting = s.lasting := by
  unfold eachRing
  exact foldl_lasting _ _ _ (fun a x => h x.1 a)
@[simp] theorem clearEn_lasting (i : Fin 16) (r : Nat) (s : State) : (clearEn i r s).lasting = s.lasting := by
  rfl
@[simp] theorem stopRing_lasting (i : Fin 16) (r : Nat) (s : State) : (stopRing i r s).lasting = s.lasting := by
  simp [stopRing]
@[simp] theorem freezeLink_lasting (l : Nat) (pf : Nat) (cause : Nat) (s : State) :
    (freezeLink l pf cause s).lasting = s.lasting := by
  simp [freezeLink, apply_ite State.lasting]
@[simp] theorem linkFreeze_lasting (l : Nat) (pf : Nat) (cause : Nat) (s : State) :
    (linkFreeze l pf cause s).lasting = s.lasting := by
  unfold linkFreeze
  repeat' split
  all_goals simp
@[simp] theorem endFreeze_lasting (l : Nat) (s : State) : (endFreeze l s).lasting = s.lasting := by
  simp [endFreeze, apply_ite State.lasting]
@[simp] theorem latePf_lasting (pf : Nat) (s : State) :
    (latePf pf s).lasting = s.lasting := by
  first
  | rfl
  | (simp [latePf]; done)
  | (unfold latePf; (repeat' split) <;> simp)
  | (simp only [latePf]; (repeat' split) <;> first | rfl | simp)
@[simp] theorem flr_lasting (pf : Nat) (s : State) : (flr pf s).lasting = s.lasting := by
  simp [flr]
@[simp] theorem linkReset_lasting (l : Nat) (s : State) : (linkReset l s).lasting = s.lasting := by
  unfold linkReset
  repeat' split
  all_goals simp
@[simp] theorem pcieUp_lasting (l : Nat) (width : Nat) (speed : Nat) (flit : Bool) (s : State) :
    (pcieUp l width speed flit s).lasting = s.lasting := by
  unfold pcieUp
  repeat' split
  all_goals simp
@[simp] theorem pcieDown_lasting (l : Nat) (s : State) : (pcieDown l s).lasting = s.lasting := by
  unfold pcieDown
  repeat' split
  all_goals simp
@[simp] theorem State.setWindow_lasting (s : State) (pf : Nat) (e : Nat) (w : Window) :
    (State.setWindow s pf e w).lasting = s.lasting := by
  rfl
@[simp] theorem winWrite_lasting (pf : Nat) (e : Nat) (s : State) : (winWrite pf e s).2.lasting = s.lasting := by
  simp [winWrite]
@[simp] theorem winRead_lasting (pf : Nat) (e : Nat) (s : State) : (winRead pf e s).2.lasting = s.lasting := by
  simp [winRead]
@[simp] theorem winFlushDone_lasting (s : State) : (winFlushDone s).lasting = s.lasting := by
  rfl
@[simp] theorem setOwner_lasting (pf : Nat) (i : Fin 16) (s : State) : (setOwner pf i s).2.lasting = s.lasting := by
  simp [setOwner]
@[simp] theorem releaseLink_lasting (l : Nat) (s : State) : (releaseLink l s).2.lasting = s.lasting := by
  simp [releaseLink]
@[simp] theorem putHst_lasting (c : CmdReg) (s : State) : (putHst c s).lasting = s.lasting := by
  rfl
@[simp] theorem refuseHst_lasting (s : State) : (refuseHst s).lasting = s.lasting := by
  rfl
@[simp] theorem hstCommand_lasting (r : Requester) (w : Word) (s : State) : (hstCommand r w s).lasting = s.lasting := by
  unfold hstCommand
  repeat' split
  all_goals simp
@[simp] theorem kickWaiting_lasting (s : State) : (kickWaiting s).lasting = s.lasting := by
  simp [kickWaiting, apply_ite State.lasting]
@[simp] theorem freeTag_lasting (t : Nat) (s : State) : (freeTag t s).lasting = s.lasting := by
  simp [freeTag]
@[simp] theorem readBytes_lasting (i : Fin 16) (r : Nat) (status : Nat) (data : List Byte) (s : State) :
    (readBytes i r status data s).lasting = s.lasting := by
  first
  | rfl
  | (simp [readBytes]; done)
  | (unfold readBytes; (repeat' split) <;> simp)
  | (simp only [readBytes]; (repeat' split) <;> first | rfl | simp)
@[simp] theorem ringData_lasting (i : Fin 16) (r : Nat) (status : Nat) (frame : Bool) (data : List Byte) (s : State) :
    (ringData i r status frame data s).lasting = s.lasting := by
  simp only [ringData]
  repeat' split
  all_goals simp
@[simp] theorem noteCompletion_lasting (pf : Nat) (status : Nat) (s : State) :
    (noteCompletion pf status s).lasting = s.lasting := by
  first
  | rfl
  | (simp [noteCompletion]; done)
  | (unfold noteCompletion; (repeat' split) <;> simp)
  | (simp only [noteCompletion]; (repeat' split) <;> first | rfl | simp)
@[simp] theorem completionReceived_lasting (l : Nat) (t : Nat) (status : Nat) (data : List Byte) (s : State) :
    (completionReceived l t status data s).lasting = s.lasting := by
  simp only [completionReceived]
  repeat' split
  all_goals simp
@[simp] theorem completionTimeout_lasting (t : Nat) (s : State) : (completionTimeout t s).lasting = s.lasting := by
  simp only [completionTimeout]
  repeat' split
  all_goals simp
@[simp] theorem quarantineExpiry_lasting (t : Nat) (s : State) : (quarantineExpiry t s).lasting = s.lasting := by
  unfold quarantineExpiry
  repeat' split
  all_goals simp
@[simp] theorem tagsExhausted_lasting (i : Fin 16) (r : Nat) (s : State) : (tagsExhausted i r s).lasting = s.lasting := by
  unfold tagsExhausted
  repeat' split
  all_goals simp
@[simp] theorem txPort_lasting (i : Fin 16) (d frame : List Byte) (s : State) :
    (txPort i d frame s).lasting = s.lasting := by
  unfold txPort
  dsimp only
  split
  · split
    · rename_i h
      have h' := congrArg (fun z => z.2.lasting) h
      simp at h'
      simp [h']
    · rename_i h
      have h' := congrArg (fun z => z.2.lasting) h
      simp at h'
      simp [h']
  · simp
@[simp] theorem txProgram_lasting (i : Fin 16) (d : List Byte) (frame : List Byte) (s : State) :
    (txProgram i d frame s).lasting = s.lasting := by
  simp [txProgram]
@[simp] theorem completeTx_lasting (i : Fin 16) (r : Nat) (st : CmdStatus) (s : State) :
    (completeTx i r st s).lasting = s.lasting := by
  simp [completeTx]
@[simp] theorem txProcess_lasting (i : Fin 16) (r : Nat) (s : State) : (txProcess i r s).lasting = s.lasting := by
  unfold txProcess
  dsimp only
  repeat' split
  all_goals first
    | simp; done
    | (rename_i h
       have h' := congrArg (fun z => z.2.lasting) h
       simp at h'
       simp [h'])
    | simp [apply_ite State.lasting]
@[simp] theorem State.modScribe_lasting (s : State) (f : Scribe → Scribe) (h : ∀ c, (f c).otp = c.otp) :
    (s.modScribe f).lasting = s.lasting := by
  simp [State.modScribe, h]
@[simp] theorem zeroise_lasting (s : State) : (zeroise s).lasting = s.lasting :=
  (State.modScribe_lasting _ _ (fun _ => rfl)).trans (by simp)
@[simp] theorem releasePins_lasting (before : State) (s : State) :
    (releasePins before s).lasting = s.lasting := by
  first
  | rfl
  | (simp [releasePins]; done)
  | (unfold releasePins; (repeat' split) <;> simp)
  | (simp only [releasePins]; (repeat' split) <;> first | rfl | simp)
@[simp] theorem scribeReset_lasting (s : State) : (scribeReset s).lasting = s.lasting := by
  simp only [scribeReset]
  repeat' split
  all_goals simp
@[simp] theorem scribePllLoss_lasting (s : State) : (scribePllLoss s).lasting = s.lasting := by
  simp [scribePllLoss]
@[simp] theorem flashWrite_lasting (region : Nat) (off : Nat) (bs : List Byte) (s : State) :
    (flashWrite region off bs s).lasting = s.lasting := by
  rfl
@[simp] theorem scribeBoot_lasting (s : State) : (scribeBoot s).lasting = s.lasting := by
  unfold scribeBoot
  repeat' split
  all_goals (first | rfl | simp)
@[simp] theorem keyDerive_lasting (s : State) : (keyDerive s).lasting = s.lasting := by
  unfold keyDerive
  dsimp only
  split
  · split
    · exact (signerUp_lasting _ _).trans (State.modScribe_lasting _ _ (fun _ => rfl))
    · exact State.modScribe_lasting _ _ (fun _ => rfl)
  · rfl
@[simp] theorem setMbx_lasting (bs : List Byte) (s : State) : (setMbx bs s).lasting = s.lasting := by
  simp [setMbx]
@[simp] theorem sendOn_lasting (q : ScribeReq) (m : List Byte) (s : State) :
    (sendOn q m s).lasting = s.lasting := by
  unfold sendOn
  split
  · split
    · exact (State.modScribe_lasting _ _ (fun _ => rfl)).trans (by simp)
    · rfl
  · split
    · exact foldl_lasting _ _ _ (fun a p => by simp)
    · simp
@[simp] theorem discard_lasting (path : Nat) (s : State) : (discard path s).lasting = s.lasting := by
  unfold discard
  repeat' split
  all_goals (first | rfl | simp)
@[simp] theorem respond_lasting (q : ScribeReq) (st : CmdStatus) (payload : List Byte) (s : State) :
    (respond q st payload s).lasting = s.lasting := by
  have h : (if st = .stateRefused then s.gcount Reg.SCB_COUNT 15 0 else s).lasting = s.lasting := ite_lasting (by simp) rfl
  unfold respond
  dsimp only
  exact (sendOn_lasting _ _ _).trans (ite_lasting ((State.modScribe_lasting _ _ (fun _ => rfl)).trans h) h)
@[simp] theorem noteRequest_lasting (m : List Byte) (s : State) : (noteRequest m s).lasting = s.lasting := by
  rw [noteRequest]
  by_cases h : msgOpcode m = 1
  · rw [if_pos h]
  · rw [if_neg h]
    refine State.modScribe_lasting _ _ (fun c => ?_)
    rw [otp_mk]
    rfl
@[simp] theorem scribeArrive_lasting (q : ScribeReq) (s : State) :
    (scribeArrive q s).lasting = s.lasting := by
  unfold scribeArrive
  dsimp only
  refine ite_lasting (by simp) (ite_lasting (by simp) (ite_lasting (by simp) (ite_lasting (ite_lasting ?_ ?_) (by simp))))
  · exact (State.modScribe_lasting _ _ (fun _ => rfl)).trans (noteRequest_lasting _ _)
  · exact (respond_lasting _ _ _ _).trans (noteRequest_lasting _ _)
@[simp] theorem udpArrive_lasting (port : Nat) (bytes : List Byte) (s : State) :
    (udpArrive port bytes s).lasting = s.lasting := by
  first
  | rfl
  | (simp [udpArrive]; done)
  | (unfold udpArrive; (repeat' split) <;> simp)
  | (simp only [udpArrive]; (repeat' split) <;> first | rfl | simp)
@[simp] theorem mctpArrive_lasting (bytes : List Byte) (s : State) :
    (mctpArrive bytes s).lasting = s.lasting := by
  unfold mctpArrive
  dsimp only
  repeat' split
  all_goals simp
@[simp] theorem scbCommand_lasting (r : Requester) (w : Word) (s : State) : (scbCommand r w s).lasting = s.lasting := by
  unfold scbCommand
  split
  · rfl
  · refine runCommand_lasting _ _ _ _ _ _ (fun c a => State.modScribe_lasting _ _ (fun _ => rfl)) (by simp) ?_
    dsimp only
    split
    · exact (scribeArrive_lasting _ _).trans (State.modScribe_lasting _ _ (fun _ => rfl))
    · rfl
@[simp] theorem mbxWrite_lasting (r : Requester) (k : Nat) (h : Half) (w : Word) (s : State) :
    (mbxWrite r k h w s).lasting = s.lasting := by
  unfold mbxWrite
  repeat' split
  all_goals simp
@[simp] theorem tamperCfgWrite_lasting (r : Requester) (h : Half) (w : Word) (s : State) :
    (tamperCfgWrite r h w s).lasting = s.lasting := by
  unfold tamperCfgWrite
  repeat' split
  all_goals simp
@[simp] theorem opHello_lasting (x0 : Nat) (x1 : List Byte) (s : State) : (opHello x0 x1 s).2.2.lasting = s.lasting := by
  rfl
@[simp] theorem readPart_lasting (obj : List Byte) (off : Nat) (len : Nat) (s : State) :
    (readPart obj off len s).2.2.lasting = s.lasting := by
  unfold readPart
  repeat' split
  all_goals simp
@[simp] theorem opSealRead_lasting (x0 : Nat) (p : List Byte) (s : State) : (opSealRead x0 p s).2.2.lasting = s.lasting := by
  unfold opSealRead
  repeat' split
  all_goals simp
@[simp] theorem opCertRead_lasting (x0 : Nat) (p : List Byte) (s : State) : (opCertRead x0 p s).2.2.lasting = s.lasting := by
  unfold opCertRead
  repeat' split
  all_goals simp
@[simp] theorem opNotifySet_lasting (x0 : Nat) (p : List Byte) (s : State) :
    (opNotifySet x0 p s).2.2.lasting = s.lasting := by
  unfold opNotifySet
  repeat' split
  all_goals (first | rfl | simp)
@[simp] theorem opFwWrite_lasting (x0 : Nat) (p : List Byte) (s : State) : (opFwWrite x0 p s).2.2.lasting = s.lasting := by
  simp only [opFwWrite]
  repeat' split
  all_goals simp
@[simp] theorem opMcuReload_lasting (x0 : Nat) (p : List Byte) (s : State) :
    (opMcuReload x0 p s).2.2.lasting = s.lasting := by
  unfold opMcuReload
  split <;> (try split) <;> (try split) <;> (try split) <;> first | rfl | (simp; done) | (simp [apply_ite State.lasting]; done)
@[simp] theorem opLinkRelease_lasting (x0 : Nat) (p : List Byte) (s : State) :
    (opLinkRelease x0 p s).2.2.lasting = s.lasting := by
  simp only [opLinkRelease]
  repeat' split
  all_goals simp
@[simp] theorem scribeResetOp_lasting (s : State) : (scribeResetOp s).lasting = s.lasting := by
  unfold scribeResetOp
  split
  · rfl
  · dsimp only
    repeat' split
    all_goals first | rfl | (simp only [scribeReset_lasting, respond_lasting]; exact State.modScribe_lasting _ _ (fun _ => rfl))
@[simp] theorem mctpReply_lasting (bs : List Byte) (s : State) : (mctpReply bs s).lasting = s.lasting := by
  unfold mctpReply
  repeat' split
  all_goals simp
@[simp] theorem setEid_lasting (op eid : Nat) (s : State) : (setEid op eid s).lasting = s.lasting := by
  unfold setEid
  split
  · rw [mctpReply_lasting]
    split
    · exact State.modScribe_lasting _ _ (fun _ => rfl)
    · rfl
  · simp
@[simp] theorem getEid_lasting (s : State) : (getEid s).lasting = s.lasting := by
  simp [getEid]
@[simp] theorem mctpVersion_lasting (s : State) : (mctpVersion s).lasting = s.lasting := by
  simp [mctpVersion]
@[simp] theorem mctpTypes_lasting (s : State) : (mctpTypes s).lasting = s.lasting := by
  simp [mctpTypes]
@[simp] theorem mctpVendor_lasting (s : State) : (mctpVendor s).lasting = s.lasting := by
  simp [mctpVendor]
@[simp] theorem arpReply_lasting (mac : List Byte) (ip : List Byte) (target : List Byte) (s : State) :
    (arpReply mac ip target s).lasting = s.lasting := by
  unfold arpReply
  repeat' split
  all_goals simp
@[simp] theorem echoReply_lasting (v6 : Bool) (ip : List Byte) (body : List Byte) (s : State) :
    (echoReply v6 ip body s).lasting = s.lasting := by
  unfold echoReply
  repeat' split
  all_goals simp
@[simp] theorem neighbourReply_lasting (target : List Byte) (ip : List Byte) (s : State) :
    (neighbourReply target ip s).lasting = s.lasting := by
  unfold neighbourReply
  repeat' split
  all_goals simp
@[simp] theorem alertResponse_lasting (s : State) : (alertResponse s).lasting = s.lasting := by
  unfold alertResponse
  repeat' split
  all_goals simp
@[simp] theorem drivePin_lasting (n : Nat) (s : State) :
    (drivePin n s).lasting = s.lasting := by
  unfold drivePin
  dsimp only
  repeat' split
  all_goals simp
@[simp] theorem pmxSwitch_lasting (old : Pmx) (s : State) :
    (pmxSwitch old s).lasting = s.lasting := by
  rw [pmxSwitch, foldl_lasting]
  intro a n
  split
  · simp
  · split
    · rw [drivePin_lasting]
      rfl
    · rfl
@[simp] theorem pmxApply_lasting (s : State) : (pmxApply s).2.lasting = s.lasting := by
  unfold pmxApply
  repeat' split
  all_goals simp
@[simp] theorem pmxCommand_lasting (r : Requester) (w : Word) (s : State) : (pmxCommand r w s).lasting = s.lasting := by
  unfold pmxCommand
  refine runCommand_lasting _ _ _ _ _ _ (by simp) (by simp) ?_
  split <;> simp
@[simp] theorem pulse_lasting (f : Nat) (s : State) : (pulse f s).lasting = s.lasting := by
  rfl
@[simp] theorem pulsesFall_lasting (t : Nat) (s : State) :
    (pulsesFall t s).lasting = s.lasting := by
  first
  | rfl
  | (simp [pulsesFall]; done)
  | (unfold pulsesFall; (repeat' split) <;> simp)
  | (simp only [pulsesFall]; (repeat' split) <;> first | rfl | simp)
@[simp] theorem ppsOut_lasting (f : Nat) (s : State) : (ppsOut f s).lasting = s.lasting := by
  unfold ppsOut
  repeat' split
  all_goals simp
@[simp] theorem gateTrig_lasting (g : Nat) (s : State) : (gateTrig g s).lasting = s.lasting := by
  simp only [gateTrig]
  repeat' split
  all_goals simp
@[simp] theorem fragFence_lasting (i : Fin 16) (s : State) : (fragFence i s).lasting = s.lasting := by
  simp [fragFence]
@[simp] theorem fenceUnit_lasting (i : Fin 16) (f : FenceUnit) (s : State) : (fenceUnit i f s).lasting = s.lasting := by
  unfold fenceUnit
  repeat' split
  all_goals simp
@[simp] theorem discardPacket_lasting (i : Fin 16) (n : Nat) (s : State) : (discardPacket i n s).lasting = s.lasting := by
  unfold discardPacket
  repeat' split
  all_goals simp
@[simp] theorem sliceFence_lasting (i : Fin 16) (s : State) : (sliceFence i s).lasting = s.lasting := by
  simp [sliceFence, apply_ite State.lasting]
@[simp] theorem liftUnit_lasting (i : Fin 16) (f : FenceUnit) (s : State) : (liftUnit i f s).lasting = s.lasting := by
  unfold liftUnit
  repeat' split
  all_goals simp
@[simp] theorem applyReaction_lasting (i : Fin 16) (id : Nat) (lift : Bool) (s : State) :
    (applyReaction i id lift s).lasting = s.lasting := by
  unfold applyReaction
  repeat' split
  all_goals simp
@[simp] theorem quarantineCell_lasting (i : Fin 16) (ptr : Nat) (s : State) :
    (quarantineCell i ptr s).lasting = s.lasting := by
  unfold quarantineCell
  dsimp only
  rw [updatePauses_lasting, foldl_lasting]
  · simp
  · intro a x
    rw [foldl_lasting]
    · simp
    · simp
@[simp] theorem schEcc_lasting (i : Fin 16) (syn : Nat) (s : State) : (schEcc i syn s).lasting = s.lasting := by
  simp only [schEcc]
  repeat' split
  all_goals simp
@[simp] theorem captureFault_lasting (i : Fin 16) (k : Nat) (s : State) :
    (captureFault i k s).lasting = s.lasting := by
  simp only [captureFault]
  repeat' split
  all_goals simp
@[simp] theorem errorFound_lasting (i : Fin 16) (id : Nat) (syn : Nat) (s : State) :
    (errorFound i id syn s).lasting = s.lasting := by
  unfold errorFound
  repeat' split
  all_goals simp
@[simp] theorem faultRaise_lasting (u : Nat) (id : Nat) (syn : Nat) (s : State) :
    (faultRaise u id syn s).lasting = s.lasting := by
  simp only [faultRaise]
  repeat' split
  all_goals simp
@[simp] theorem faultAutoLift_lasting (u : Nat) (id : Nat) (s : State) : (faultAutoLift u id s).lasting = s.lasting := by
  simp only [faultAutoLift]
  repeat' split
  all_goals simp
@[simp] theorem faultIntDeferred_lasting (u : Nat) (s : State) : (faultIntDeferred u s).lasting = s.lasting := by
  simp only [faultIntDeferred]
  repeat' split
  all_goals simp
@[simp] theorem fltRefused_lasting (u : Nat) (s : State) : (fltRefused u s).lasting = s.lasting := by
  unfold fltRefused
  repeat' split
  all_goals simp
@[simp] theorem setForce_lasting (u : Nat) (id : Nat) (v : Bool) (s : State) : (setForce u id v s).lasting = s.lasting := by
  simp only [setForce]
  repeat' split
  all_goals simp
@[simp] theorem clearSource_lasting (u : Nat) (id : Nat) (s : State) : (clearSource u id s).lasting = s.lasting := by
  simp only [clearSource]
  repeat' split
  all_goals simp
@[simp] theorem fltSrcUpper_lasting (u : Nat) (id : Nat) (w : Word) (s : State) :
    (fltSrcUpper u id w s).lasting = s.lasting := by
  unfold fltSrcUpper
  repeat' split
  all_goals simp
@[simp] theorem fltSrcWrite_lasting (r : Requester) (u : Nat) (id : Nat) (h : Half) (w : Word) (s : State) :
    (fltSrcWrite r u id h w s).lasting = s.lasting := by
  simp only [fltSrcWrite]
  repeat' split
  all_goals simp
@[simp] theorem fltHistRead_lasting (u : Nat) (n : Nat) (s : State) : (fltHistRead u n s).2.lasting = s.lasting := by
  simp [fltHistRead]
@[simp] theorem latchStraps_lasting (s : State) : (latchStraps s).lasting = s.lasting := by
  rfl
@[simp] theorem applyStraps_lasting (s : State) : (applyStraps s).lasting = s.lasting := by
  unfold applyStraps
  dsimp only
  generalize h : List.foldl (fun (a : State) (p : Nat) => a.modPf p _) _ _ = x
  have hx : x.lasting = s.lasting := by rw [← h]; simp
  rw [lasting_mk]
  exact hx
@[simp] theorem clearCore_lasting (device : Bool) (s : State) : (clearCore device s).lasting = s.lasting := by
  unfold clearCore
  dsimp only
  split <;> simp [latchStraps, Scribe.endMailbox]
@[simp] theorem endStart_lasting (s : State) : (endStart s).lasting = s.lasting := by
  unfold endStart
  repeat' split
  all_goals simp
@[simp] theorem coreReset_lasting (device : Bool) (causes : List Nat) (s : State) :
    (coreReset device causes s).lasting = s.lasting := by
  unfold coreReset
  repeat' split
  all_goals (first | rfl | simp)
@[simp] theorem linksDown_lasting (s : State) : (linksDown s).lasting = s.lasting := by
  simp [linksDown]
@[simp] theorem coreOff_lasting (causes : List Nat) (s : State) : (coreOff causes s).lasting = s.lasting := by
  unfold coreOff
  repeat' split
  all_goals simp
@[simp] theorem applyDue_lasting (d : Due) (s : State) : (applyDue d s).lasting = s.lasting := by
  unfold applyDue
  repeat' split
  all_goals simp
@[simp] theorem settleN_lasting (n : Nat) (s : State) : (settleN n s).lasting = s.lasting := by
  induction n generalizing s with
  | zero => rfl
  | succ n ih =>
    rw [settleN]
    split
    · rfl
    · rw [ih, applyDue_lasting]
      rfl
@[simp] theorem settleFaults_lasting (s : State) : (settleFaults s).lasting = s.lasting := by
  unfold settleFaults
  repeat' split
  all_goals simp
@[simp] theorem ageWrite_lasting (s : State) : (ageWrite s).lasting = s.lasting := by
  rfl
@[simp] theorem settle_lasting (s : State) : (settle s).lasting = s.lasting := by
  simp [settle]
@[simp] theorem rootPllLoss_lasting (s : State) : (rootPllLoss s).lasting = s.lasting := by
  simp only [rootPllLoss]
  repeat' split
  all_goals simp
@[simp] theorem rootPllLock_lasting (s : State) : (rootPllLock s).lasting = s.lasting := by
  unfold rootPllLock
  repeat' split
  all_goals simp
@[simp] theorem strapOwners_lasting (s : State) :
    (strapOwners s).lasting = s.lasting := by
  first
  | rfl
  | (simp [strapOwners]; done)
  | (unfold strapOwners; (repeat' split) <;> simp)
  | (simp only [strapOwners]; (repeat' split) <;> first | rfl | simp)
@[simp] theorem pwrOkRise_lasting (pins : Word) (s : State) : (pwrOkRise pins s).lasting = s.lasting := by
  unfold pwrOkRise
  repeat' split
  all_goals simp
@[simp] theorem pwrOkFall_lasting (s : State) : (pwrOkFall s).lasting = s.lasting := by
  unfold pwrOkFall
  repeat' split
  all_goals simp
@[simp] theorem coreRailLow_lasting (rail : Nat) (s : State) : (coreRailLow rail s).lasting = s.lasting := by
  unfold coreRailLow
  repeat' split
  all_goals simp
@[simp] theorem thermalTrip_lasting (sensor : Nat) (s : State) : (thermalTrip sensor s).lasting = s.lasting := by
  unfold thermalTrip
  repeat' split
  all_goals simp
@[simp] theorem resetN_lasting (pins : Word) (s : State) : (resetN pins s).lasting = s.lasting := by
  unfold resetN
  repeat' split
  all_goals simp
@[simp] theorem vddScrUp_lasting (pins : Word) (s : State) : (vddScrUp pins s).lasting = s.lasting := by
  have h : ((scribeReset s).modScribe (fun c => { c with lastCause := 0, zeroised := 0 })).lasting = s.lasting :=
    (State.modScribe_lasting _ _ (fun _ => rfl)).trans (scribeReset_lasting s)
  simp only [State.lasting, Prod.mk.injEq] at h
  simp [vddScrUp, h]
@[simp] theorem putRst_lasting (c : CmdReg) (s : State) : (putRst c s).lasting = s.lasting := by
  rfl
@[simp] theorem refuseRst_lasting (s : State) : (refuseRst s).lasting = s.lasting := by
  rfl
@[simp] theorem rstStart_lasting (s : State) : (rstStart s).2.lasting = s.lasting := by
  exact judge_lasting _ _ _ rfl
@[simp] theorem rstReset_lasting (device : Bool) (s : State) : (rstReset device s).lasting = s.lasting := by
  unfold rstReset
  repeat' split
  all_goals simp
@[simp] theorem rstCommand_lasting (r : Requester) (w : Word) (s : State) : (rstCommand r w s).lasting = s.lasting := by
  simp only [rstCommand]
  repeat' split
  all_goals simp
@[simp] theorem autoStart_lasting (s : State) : (autoStart s).lasting = s.lasting := by
  unfold autoStart
  repeat' split
  all_goals simp
@[simp] theorem startComplete_lasting (s : State) : (startComplete s).lasting = s.lasting := by
  simp only [startComplete]
  repeat' split
  all_goals (first | rfl | simp)
@[simp] theorem rstStatusWrite_lasting (r : Requester) (h : Half) (w : Word) (s : State) :
    (rstStatusWrite r h w s).lasting = s.lasting := by
  unfold rstStatusWrite
  repeat' split
  all_goals simp
@[simp] theorem clkStatusWrite_lasting (r : Requester) (h : Half) (w : Word) (s : State) :
    (clkStatusWrite r h w s).lasting = s.lasting := by
  unfold clkStatusWrite
  repeat' split
  all_goals simp
@[simp] theorem gpioRead_lasting (s : State) : (gpioRead s).2.lasting = s.lasting := by
  rfl
@[simp] theorem peek_lasting (off : Nat) (s : State) : (peek off s).2.lasting = s.lasting := by
  unfold peek
  repeat' split
  all_goals simp
@[simp] theorem clearSlice_lasting (i : Fin 16) (o : Nat) (h : Half) (s : State) :
    (clearSlice i o h s).lasting = s.lasting := by
  unfold clearSlice
  repeat' split
  all_goals simp
@[simp] theorem clearGlobal_lasting (o : Nat) (h : Half) (s : State) : (clearGlobal o h s).lasting = s.lasting := by
  unfold clearGlobal
  repeat' split
  all_goals simp
@[simp] theorem pmcSmpRead_lasting (i : Fin 16) (s : State) : (pmcSmpRead i s).2.lasting = s.lasting := by
  rfl
@[simp] theorem readSlice_lasting (r : Requester) (i : Fin 16) (o : Nat) (h : Half) (s : State) :
    (readSlice r i o h s).2.lasting = s.lasting := by
  unfold readSlice
  repeat' split
  all_goals simp
@[simp] theorem readGlobal_lasting (r : Requester) (o : Nat) (h : Half) (s : State) :
    (readGlobal r o h s).2.lasting = s.lasting := by
  unfold readGlobal
  repeat' split
  all_goals simp
@[simp] theorem readReg_lasting (r : Requester) (off : Nat) (h : Half) (s : State) :
    (readReg r off h s).2.lasting = s.lasting := by
  unfold readReg
  repeat' split
  all_goals simp
@[simp] theorem readAt_lasting (r : Requester) (off : Nat) (h : Half) (s : State) :
    (readAt r off h s).lasting = s.lasting := by
  unfold readAt
  split <;> simp
@[simp] theorem regRead_lasting (r : Requester) (off : Nat) (size : Nat) (s : State) :
    (regRead r off size s).lasting = s.lasting := by
  unfold regRead
  repeat' split
  all_goals simp
@[simp] theorem pmcIntDeferred_lasting (i : Fin 16) (s : State) : (pmcIntDeferred i s).lasting = s.lasting := by
  simp only [pmcIntDeferred]
  repeat' split
  all_goals simp
@[simp] theorem pmcCfgWrite_lasting (i : Fin 16) (r : Requester) (k : Nat) (h : Half) (w : Word) (s : State) :
    (pmcCfgWrite i r k h w s).lasting = s.lasting := by
  simp only [pmcCfgWrite]
  repeat' split
  all_goals simp
@[simp] theorem latchList_lasting (n k : Nat) (s : State) : (latchList n k s).2.lasting = s.lasting := by
  induction n generalizing s k with
  | zero => rfl
  | succ n ih =>
    rw [latchList]
    dsimp only
    rw [ih]
    split <;> simp
@[simp] theorem State.modTally_lasting (s : State) (f : Tally → Tally) : (State.modTally s f).lasting = s.lasting := by
  rfl
@[simp] theorem tallyTick_lasting (s : State) : (tallyTick s).lasting = s.lasting := by
  unfold tallyTick
  repeat' split
  all_goals simp
@[simp] theorem tallySend_lasting (pf : Nat) (a : Nat) (x : Snapshot) (s : State) :
    (tallySend pf a x s).lasting = s.lasting := by
  first
  | rfl
  | (simp [tallySend]; done)
  | (unfold tallySend; (repeat' split) <;> simp)
  | (simp only [tallySend]; (repeat' split) <;> first | rfl | simp)
@[simp] theorem tallyStopped_lasting (s : State) :
    (tallyStopped s).lasting = s.lasting := by
  first
  | rfl
  | (simp [tallyStopped]; done)
  | (unfold tallyStopped; (repeat' split) <;> simp)
  | (simp only [tallyStopped]; (repeat' split) <;> first | rfl | simp)
@[simp] theorem tallyDone_lasting (s : State) : (tallyDone s).lasting = s.lasting := by
  unfold tallyDone
  repeat' split
  all_goals simp
@[simp] theorem tallyWrite_lasting (r : Requester) (o : Nat) (h : Half) (w : Word) (s : State) :
    (tallyWrite r o h w s).lasting = s.lasting := by
  simp only [tallyWrite]
  repeat' split
  all_goals simp
@[simp] theorem refuseAt_lasting (off : Nat) (s : State) : (refuseAt off s).lasting = s.lasting := by
  simp only [refuseAt]
  repeat' split
  all_goals simp
@[simp] theorem plainSlice_lasting (i : Fin 16) (r : Requester) (o : Nat) (h : Half) (w : Word) (s : State) :
    (plainSlice i r o h w s).lasting = s.lasting := by
  unfold plainSlice
  repeat' split
  all_goals simp
@[simp] theorem pmcCtrWrite_lasting (i : Fin 16) (k : Nat) (s : State) :
    (pmcCtrWrite i k s).lasting = s.lasting := by
  unfold pmcCtrWrite
  dsimp only
  split
  · rfl
  · simp
@[simp] theorem plainGlobal_lasting (may : Bool) (o : Nat) (h : Half) (w : Word) (s : State) :
    (plainGlobal may o h w s).lasting = s.lasting := by
  unfold plainGlobal
  repeat' split
  all_goals simp
@[simp] theorem seedNextWrite_lasting (r : Requester) (h : Half) (w : Word) (s : State) :
    (seedNextWrite r h w s).lasting = s.lasting := by
  unfold seedNextWrite
  repeat' split
  all_goals simp
@[simp] theorem winDataWrite_lasting (r : Requester) (o : Nat) (h : Half) (w : Word) (s : State) :
    (winDataWrite r o h w s).lasting = s.lasting := by
  unfold winDataWrite
  repeat' split
  all_goals simp
@[simp] theorem gpioWrite_lasting (r : Requester) (h : Half) (w : Word) (s : State) :
    (gpioWrite r h w s).lasting = s.lasting := by
  unfold gpioWrite
  split
  · dsimp only
    rw [foldl_lasting]
    · simp
    · intro a k
      repeat' split
      all_goals simp
  · rfl
@[simp] theorem writeSliceCommand_lasting (i : Fin 16) (r : Requester) (o : Nat) (w : Word) (err : Nat) (s : State) :
    (writeSliceCommand i r o w err s).lasting = s.lasting := by
  unfold writeSliceCommand
  repeat' split
  all_goals simp
@[simp] theorem writeSliceReg_lasting (i : Fin 16) (r : Requester) (o : Nat) (h : Half) (w : Word) (s : State) :
    (writeSliceReg i r o h w s).lasting = s.lasting := by
  unfold writeSliceReg
  repeat' split
  all_goals simp
@[simp] theorem writeWindow_lasting (i : Fin 16) (r : Requester) (o : Nat) (h : Half) (w : Word) (s : State) :
    (writeWindow i r o h w s).lasting = s.lasting := by
  unfold writeWindow
  repeat' split
  all_goals simp
@[simp] theorem writeGlobalCommand_lasting (r : Requester) (o : Nat) (w : Word) (s : State) :
    (writeGlobalCommand r o w s).lasting = s.lasting := by
  unfold writeGlobalCommand
  repeat' split
  all_goals simp
@[simp] theorem writeGlobalReg_lasting (r : Requester) (o : Nat) (h : Half) (w : Word) (s : State) :
    (writeGlobalReg r o h w s).lasting = s.lasting := by
  unfold writeGlobalReg
  refine ite_lasting (healthWrite_lasting _ _ _ _) (ite_lasting (rstStatusWrite_lasting _ _ _ _) (ite_lasting (clkStatusWrite_lasting _ _ _ _)
    (ite_lasting (partMapWrite_lasting _ _ _ _) (ite_lasting (trfCtrlWrite_lasting _ _ _ _) (ite_lasting (boundCfgWrite_lasting _ _ _ _)
    (ite_lasting (offsetWrite_lasting _ _ _ _) (ite_lasting (seedNextWrite_lasting _ _ _ _) (ite_lasting (sealCfgWrite_lasting _ _ _ _)
    (ite_lasting (folTimeWrite_lasting _ _ _ _ _) (ite_lasting (folTimeWrite_lasting _ _ _ _ _) (ite_lasting (plainGlobal_lasting _ _ _ _ _)
    (ite_lasting (plainGlobal_lasting _ _ _ _ _) (ite_lasting (plainGlobal_lasting _ _ _ _ _) (ite_lasting (winDataWrite_lasting _ _ _ _ _)
    (ite_lasting (gpioWrite_lasting _ _ _ _) (ite_lasting (tamperCfgWrite_lasting _ _ _ _) (ite_lasting (tallyWrite_lasting _ _ _ _ _) ?_)))))))))))))))))
  split
  · exact mbxWrite_lasting _ _ _ _ _
  · split
    · exact fltSrcWrite_lasting _ _ _ _ _ _
    · exact plainGlobal_lasting _ _ _ _ _
@[simp] theorem writeEffect_lasting (r : Requester) (off : Nat) (h : Half) (w : Word) (s : State) :
    (writeEffect r off h w s).lasting = s.lasting := by
  simp only [writeEffect]
  repeat' split
  all_goals simp
@[simp] theorem noteWrite_lasting (r : Requester) (off : Nat) (h : Half) (w : Word) (s : State) :
    (noteWrite r off h w s).lasting = s.lasting := by
  unfold noteWrite
  split <;> rfl
@[simp] theorem writeAt_lasting (r : Requester) (off : Nat) (h : Half) (w : Word) (f : State → State) (s : State)
    (hf : ∀ a, (f a).lasting = a.lasting) : (writeAt r off h w f s).lasting = s.lasting := by
  unfold writeAt
  dsimp only
  repeat' split
  all_goals simp [hf]
@[simp] theorem sliceCmd_lasting (i : Fin 16) (o : Nat) (r : Requester) (w : Word) (f : State → State) (s : State)
    (hf : ∀ a, (f a).lasting = a.lasting) : (sliceCmd i o r w f s).lasting = s.lasting := by
  simp [sliceCmd, hf]
@[simp] theorem globalCmd_lasting (o : Nat) (r : Requester) (w : Word) (f : State → State) (s : State)
    (hf : ∀ a, (f a).lasting = a.lasting) : (globalCmd o r w f s).lasting = s.lasting := by
  simp [globalCmd, hf]
@[simp] theorem rstWrite_lasting (r : Requester) (w : Word) (s : State) : (rstWrite r w s).lasting = s.lasting := by
  simp [rstWrite, apply_ite State.lasting]
@[simp] theorem writeReg_lasting (r : Requester) (off : Nat) (h : Half) (w : Word) (s : State) :
    (writeReg r off h w s).lasting = s.lasting := by
  unfold writeReg
  repeat' split
  all_goals simp
@[simp] theorem regWrite_lasting (r : Requester) (off : Nat) (size : Nat) (data : Word) (s : State) :
    (regWrite r off size data s).lasting = s.lasting := by
  unfold regWrite
  repeat' split
  all_goals simp
@[simp] theorem frozenRequest_lasting (pf : Nat) (l : Nat) (posted : Bool) (s : State) :
    (frozenRequest pf l posted s).lasting = s.lasting := by
  unfold frozenRequest
  repeat' split
  all_goals simp
@[simp] theorem isolated_lasting (s : State) : (isolated s).lasting = s.lasting := by
  rfl
@[simp] theorem hostAccessEvent_lasting (i : Fin 16) (pf : Nat) (s : State) :
    (hostAccessEvent i pf s).lasting = s.lasting := by
  simp [hostAccessEvent]
@[simp] theorem hostRegister_lasting (pf : Fin 16) (t : Nat) (len : Nat) (data : Option (List Byte)) (s : State) :
    (hostRegister pf t len data s).lasting = s.lasting := by
  simp only [hostRegister]
  repeat' split
  all_goals simp
@[simp] theorem hostScratch_lasting (pf : Fin 16) (i : Fin 16) (t : Nat) (len : Nat) (data : Option (List Byte)) (err : Nat) (s : State) :
    (hostScratch pf i t len data err s).lasting = s.lasting := by
  simp only [hostScratch]
  repeat' split
  all_goals simp
@[simp] theorem hostRequest_lasting (pf : Fin 16) (bar : Nat) (addr : Nat) (len : Nat) (data : Option (List Byte)) (err : Nat) (s : State) :
    (hostRequest pf bar addr len data err s).lasting = s.lasting := by
  simp only [hostRequest]
  repeat' split
  all_goals simp
@[simp] theorem sendPending_lasting (pf : Nat) (s : State) : (sendPending pf s).lasting = s.lasting := by
  simp [sendPending, apply_ite State.lasting]
@[simp] theorem msixAccess_lasting (pf : Fin 16) (off : Nat) (len : Nat) (data : Option (List Byte)) (s : State) :
    (msixAccess pf off len data s).lasting = s.lasting := by
  simp only [msixAccess]
  repeat' split
  all_goals simp
@[simp] theorem cfgWrite_lasting (pf : Nat) (o : Nat) (m : Nat) (new : Nat) (s : State) :
    (cfgWrite pf o m new s).lasting = s.lasting := by
  simp only [cfgWrite]
  repeat' split
  all_goals simp
@[simp] theorem configRequest_lasting (pf : Fin 16) (off : Nat) (data : Option (BitVec 4 × BitVec 32)) (s : State) :
    (configRequest pf off data s).lasting = s.lasting := by
  simp only [configRequest]
  repeat' split
  all_goals simp
@[simp] theorem readRegs_lasting (n off : Nat) (s : State) : (readRegs n off s).2.lasting = s.lasting := by
  induction n generalizing s off with
  | zero => rfl
  | succ n ih => simp [readRegs, ih]
@[simp] theorem opRegRead_lasting (x0 : Nat) (p : List Byte) (s : State) : (opRegRead x0 p s).2.2.lasting = s.lasting := by
  simp only [opRegRead]
  repeat' split
  all_goals simp
@[simp] theorem opRegWrite_lasting (x0 : Nat) (p : List Byte) (s : State) : (opRegWrite x0 p s).2.2.lasting = s.lasting := by
  simp only [opRegWrite]
  repeat' split
  all_goals simp
@[simp] theorem clearAlert_lasting (u : Nat) (s : State) : (clearAlert u s).lasting = s.lasting := by
  simp only [clearAlert]
  repeat' split
  all_goals (first | rfl | simp)
@[simp] theorem opFaultRead_lasting (x0 : Nat) (p : List Byte) (s : State) :
    (opFaultRead x0 p s).2.2.lasting = s.lasting := by
  simp only [opFaultRead]
  repeat' split
  all_goals simp
@[simp] theorem cpbReadBursts_lasting (i : Fin 16) (b : Block) (off : Nat) (len : Nat) (s : State) :
    (cpbReadBursts i b off len s).2.lasting = s.lasting := by
  unfold cpbReadBursts
  dsimp only
  repeat' split
  all_goals simp
@[simp] theorem opCpbRead_lasting (x0 : Nat) (p : List Byte) (s : State) : (opCpbRead x0 p s).2.2.lasting = s.lasting := by
  simp only [opCpbRead]
  repeat' split
  all_goals simp
@[simp] theorem opCpbRelease_lasting (x0 : Nat) (p : List Byte) (s : State) :
    (opCpbRelease x0 p s).2.2.lasting = s.lasting := by
  simp only [opCpbRelease]
  repeat' split
  all_goals simp
@[simp] theorem backSlots_lasting (i : Fin 16) (s : State) : (backSlots i s).lasting = s.lasting := by
  simp [backSlots]
@[simp] theorem tickSlice_lasting (s : State) (i : Fin 16) : (tickSlice s i).lasting = s.lasting := by
  simp [tickSlice]
@[simp] theorem stepSlices_lasting (before : State) (s : State) :
    (stepSlices before s).lasting = s.lasting := by
  simp [stepSlices]
@[simp] theorem todStep_lasting (s : State) : (todStep s).lasting = s.lasting := by
  simp only [todStep]
  repeat' split
  all_goals simp
@[simp] theorem servoStep_lasting (s : State) : (servoStep s).lasting = s.lasting := by
  simp only [servoStep]
  repeat' split
  all_goals simp
@[simp] theorem markerIssue_lasting (lost : BitVec 16) (late : List Nat) (s : State) :
    (markerIssue lost late s).lasting = s.lasting := by
  unfold markerIssue
  repeat' split
  all_goals simp
@[simp] theorem blockClosed_lasting (i : Fin 16) (s : State) : (blockClosed i s).lasting = s.lasting := by
  unfold blockClosed
  repeat' split
  all_goals simp
@[simp] theorem blockDrained_lasting (i : Fin 16) (fixed : List Nat) (bad : List Nat) (s : State) :
    (blockDrained i fixed bad s).lasting = s.lasting := by
  simp only [blockDrained]
  repeat' split
  all_goals simp
@[simp] theorem whenUp_lasting (f : State → State) (s : State) (hf : ∀ a, (f a).lasting = a.lasting) :
    (whenUp f s).lasting = s.lasting := by
  unfold whenUp
  split
  · exact hf s
  · rfl
@[simp] theorem spadAccess_lasting (i : Fin 16) (r : Requester) (c : Nat) (n : Nat) (h : Half) (data : Option Word) (s : State) :
    (spadAccess i r c n h data s).lasting = s.lasting := by
  unfold spadAccess
  repeat' split
  all_goals simp
@[simp] theorem time0At_lasting (r : Requester) (unit : Option (Fin 16)) (h : Half) (s : State) :
    (time0At r unit h s).lasting = s.lasting := by
  unfold time0At
  repeat' split
  all_goals simp
@[simp] theorem scribeWatchdog_lasting (s : State) : (scribeWatchdog s).lasting = s.lasting := by
  unfold scribeWatchdog
  repeat' split
  all_goals simp
@[simp] theorem faultEvent_lasting (u : Nat) (id : Nat) (syn : Nat) (s : State) :
    (faultEvent u id syn s).lasting = s.lasting := by
  unfold faultEvent
  repeat' split
  all_goals simp
@[simp] theorem fltWriteAt_lasting (r : Requester) (u : Nat) (id : Nat) (h : Half) (w : Word) (s : State) :
    (fltWriteAt r u id h w s).lasting = s.lasting := by
  simp [fltWriteAt]
@[simp] theorem fltHistAt_lasting (r : Requester) (u : Nat) (e : Nat) (h : Half) (s : State) :
    (fltHistAt r u e h s).lasting = s.lasting := by
  simp [fltHistAt]
@[simp] theorem State.withFetchWord_lasting (s : State) (nbits : Nat) (w : Nat) :
    (State.withFetchWord s nbits w).lasting = s.lasting := by
  rfl
end Sys2Proof.Machine
end

