-- ==== Sys2Proof/Tests/Slice0.lean ====
section
/-!
SUPPORT. Witnesses: for each statement with hypotheses a concrete state and operands that meet them together, clause by clause and
at boundary values; the ill-formed operands that `Instr.wf` refuses; and a few results computed by hand from the spec.
-/
set_option Elab.async false
namespace Sys2Proof.Tests
open Sys2Proof Sys2Proof.Machine Sys2Proof.Claims

/-- The state that a command answers. -/
def ans (a : Answer) : State :=
  match a with
  | .next t => t
  | _ => State.reset
/-- The device after reset with its core UP. -/
def up0 : State := { State.reset with core := .up, uptime := 2000000 }
/-- The same with slice 0 changed. -/
def on0 (f : Slice → Slice) : State := up0.modSlice 0 f
def act0 : State := on0 (fun x => { x with pwr := .active })
def goes0 : State := on0 (fun x => { x with pwr := .entering, slcCmd := { busy := true, status := .busy } })
def comes0 : State := on0 (fun x => { x with pwr := .leaving })
def waits0 : State := { up0 with xbrPending := true }
def armed0 : State := { up0.setGreg Reg.GLB_HEALTH 0x10000 with arm := true, armedAt := 0 }
def off0 : State := { State.reset with core := .off, rootLock := none }
def dark0 : State := { off0 with pwrOk := false, straps := 0xFFFF }
def held0 : State := { State.reset with uptime := 150000, straps := 0x8000, scribe := { booted := true, fw := some { slot := 0, major := 1, minor := 0, build := 1, svn := 0 } } }
def start0 : State := { held0 with core := .starting, rstCmd := { busy := true, status := .busy } }
def lane0 : Lane := { enabled := true, linkUp := true, cfg := 0x25F80001, linkUpAt := 0 }
def port0 (f : Slice → Slice) : State := on0 (fun x => f { x with pwr := .active, lanes := [(63, lane0)] })
def rx0 : State := port0 id
def busy1 : State := port0 (fun x => { x with lanes := [(63, { lane0 with rx := some 5 })], packets := [(5, { frame := 5, lane := 63, speed := 1, capture := 0 })] })
def eth60 : List Byte := List.replicate 12 1 ++ [0x88, 0xB5] ++ List.replicate 46 0
def whole0 : State := { port0 (fun x => { x with lanes := [(63, { lane0 with unparsed := [5] })], packets := [(5, { frame := 5, lane := 63, speed := 1, capture := 0 })] }) with frames := [(5, { bytes := eth60 ++ bytesLE 4 (crc32 eth60), done := true })] }
def rec0 : ParseRec := parseFrame 0x1000112B5 (whole0.frame 5).bytes 60
def pkt0 : Packet := { frame := 5, lane := 63, speed := 1, capture := 0x50007, pc := 0x100, bank := 1, epoch := 3, parsed := true }
def queued0 : State := port0 (fun x => { x with clusters := [(0, { queue := [5], headAt := 0 })], packets := [(5, pkt0)] })
def steal0 : State := queued0.modCluster 0 0 (fun c => { c with thresh := 1 })
def thr0 : Thread := { pkt := 5, pc := 0x100, bank := 1, epoch := 3, issued := 0 }
def miss0 : State := port0 (fun x => { x with clusters := [(0, { misses := [(32, 1)] })], packets := [(5, pkt0)], threads := [(1, { thr0 with hold := .icache })] })
def runs0 : State := port0 (fun x => { x with packets := [(5, pkt0)], threads := [(1, { thr0 with firstAt := some 0 })] })
def fresh0 : State := { runs0 with cycle0 := 2000000 - 255 }
def copyP : Copy := { target := .port 63, xcls := 0, cls := 0, colour := 0, edits := [], cut := false, dead := 0, slices := [0] }
def pktT : Packet := { pkt0 with seq := 7, committed := some [copyP], entry := true }
def pktU : Packet := { pkt0 with seq := 7, committed := some [], leaving := 1 }
def turn0 (p : Packet) : State := { port0 (fun x => { x with lanes := [(63, { lane0 with turn := 7, seqNext := 8 })], packets := [(5, p)] }) with frames := [(5, { bytes := eth60 ++ bytesLE 4 (crc32 eth60), done := true })] }
def crossX : Cross := { pkt := some 5, frame := 5, copy := copyP, epoch := 0, capture := 0, port := 63, speed := 1, len := 60, evidential := false, info := 0, seqnum := 7, alarm := false }
def voq0 : State := { turn0 pktU with slices := (turn0 pktU).slices.set 3 { ((turn0 pktU).slice 3) with eg := { voq := [(0 + 2, [crossX])] } } }
def eg0 : EgCopy := { id := 1, inbound := false, chain := 5, src := 0, pkt := 5, frame := 5, bytes := none, capture := 0, port := 63, edits := [], cells := 0, len := 84, cls := 0, cut := false, evidential := false, atOnce := true, forced := true }
def sendEg (p : EgPort) : State := { port0 (fun x => { x with lanes := [(63, lane0)], packets := [(5, pktU)], eg := { sch := { ports := [(63, p)] } } }) with frames := [(5, { bytes := eth60 ++ bytesLE 4 (crc32 eth60), done := true })] }
def eqx0 : State := sendEg { eqx := [eg0] }
def merge0 : State := sendEg { merge := [eg0] }
def pick0 : State := (sendEg {}).modSlice 0 (fun x => { x with eg := { x.eg with sch := { entries := [(schKey 0 0 63, { w0 := 0x8000000000140000 }), (schKey 0 1 1023, { w0 := 0x800000010000003F }), (schKey 0 2 4095, { w0 := 0x8000000103FF0000 })], queues := [(4095, { copies := [eg0] })] } } })
def tx0 : State := sendEg { tx := some { copy := eg0, stamp := 0, prio := none, start := 0 } }
def idle0 : State := (on0 (fun x => { x with pwr := .active })).setReg 0 (prt Reg.PRT_CFG 63) 0x25F80001
def names0 : State := (on0 (fun x => { x with pwr := .active })).setReg 0 (prt Reg.PRT_CFG 63) 0x25F800C1
def down0 : State := port0 (fun x => { x with lanes := [(63, { lane0 with linkUp := false, cfg := 0x25F80141 })] })
def ver0 : State := port0 (fun x => { x with lanes := [(63, { lane0 with cfg := 0x25F80101 })] })
def pause0 : State := port0 (fun x => { x with lanes := [(63, { lane0 with cfg := 0x25F80041, pauseUntil := some 1999999 })], eg := { sch := { ports := [(63, { tx := some { copy := eg0, stamp := 0, prio := none, start := 0 } })] } } })
def ask0 : State := (port0 (fun x => { x with lanes := [(63, { lane0 with cfg := 0x25F80081, asking := 0x81 })] })).setReg 0 (prt Reg.PRT_PAUSE 63) 0x7FFF
def key0 : List Byte := fragKey (padTo 256 []) {}
def fe0 (st : FragState) : FragEntry := { key := key0, created := 0, life := 100000000, state := st, maker := 0 }
def frag0 : State := on0 (fun x => { x with frg := { cmd := { busy := true, status := .busy }, entries := [(4095, some (fe0 .pending))], waiting := [] } })
def expired0 : State := frag0.modSlice 0 (fun x => { x with tbu := { acc := 2 ^ 90 } })
def place0 : Nat := (fragPlaces key0).headD 0
def wait0 : State := on0 (fun x => { x with frg := { entries := [(place0, some (fe0 (.decided 1 0x77 5 2)))], waiting := [(5, place0)] }, packets := [(5, { frame := 5, lane := 63, speed := 1, capture := 0 })] })
def staging0 : State := { up0 with fol := { state := .staging } }
def seq0 (w : Nat) (trap : Bool) : State := on0 (fun x => { x with seq := { state := .running, pc := 4095, store := [(4095, w)], inTrap := trap } })
def mark0 : State := { up0 with uptime := 3000000, trf := { acc := 7 * 2 ^ 44, todPending := some (2999850, 5 * 2 ^ 44, 1000 * 2 ^ 14 + 3), servo := .acquiring, stepPending := some (-16), freerunPending := true } }
def late1 : State := ({ up0 with trf := { time1 := 7 } } : State).modSlice 15 (fun x => { x with tbu := { time1 := 9 } })
def tod0 : State := up0.setGreg Reg.TRF_OPERAND0 (BitVec.ofNat 64 (1000000000 * 2 ^ 18))
def lock0 : State := { up0 with trf := { servo := .locked } }
def refTod0 : State := lock0.setGreg Reg.TRF_CTRL 3
def skew0 : State := { mark0 with trf := { acc := 2 ^ 50 } }
def missed0 : State := on0 (fun x => { x with marker := some 1999940, tbu := { checks := 2, checkValid := true } })
def pps0 : State := { up0.setGreg Reg.TRF_CTRL 1 with trf := { todLoaded := true } }
def ptp0 : State := { up0.setGreg Reg.TRF_CTRL 0x102 with trf := { todLoaded := true, lastSample := some 1250000 } }
def soon0 : State := { ptp0 with trf := { todLoaded := true, lastSample := some 1250001 } }
def loss0 : State := { up0.setGreg Reg.TRF_CTRL 1 with uptime := 2 ^ 40, trf := { servo := .locked, lossFrom := some 0 } }
def freq0 : State := up0.setGreg Reg.TRF_CTRL 0x100000000
def freq1 : State := { freq0 with trf := { freqLost := true, fSrc := 12 } }
def th0 : Thread := { pkt := 5, pc := 0x100, bank := 1, g := [(1, 0x8000000000000001), (2, 3), (4, 0xFFFFFFFFFFFFFFFF)], issued := 0 }
def cpu (w : Word) : State := port0 (fun x => { x with packets := [(5, { pkt0 with parse := { frameLen := 60, ethType := 0x88B5 } })], threads := [(65, th0)], program := [(32768 + 0x100, w)], clusters := [(1, { icache := [(icacheLine 1 0x100 % 256, [icacheLine 1 0x100])], spad := [(0xFFF8, 0x11), (0xFFFF, 0x80)] })] })
def fields (d a b flags imm : Nat) : BitVec 56 := BitVec.ofNat 56 (d * 2 ^ 51 + a * 2 ^ 46 + b * 2 ^ 41 + flags * 2 ^ 32 + imm)
def fAlu : BitVec 56 := fields 31 1 2 32 0
def fImm : BitVec 56 := fields 31 1 0 16 0xFFFFFFFF
def fExt : BitVec 56 := BitVec.ofNat 56 (31 * 2 ^ 51 + 12 * 2 ^ 21 + 15 * 2 ^ 12)
def fLd4 : BitVec 56 := fields 31 1 0 56 0
def cpuWith (w : Word) (f : Thread → Thread) : State := (cpu w).modSlice 0 (fun x => { x with threads := [(65, f th0)] })
def waitT (th : Thread) : Thread := { th with tags := [(7, .pending)], ops := [(7, .seqAdd none 0 false 0)] }
def trapOn (w : Word) : State := (cpu w).setReg 0 Reg.PGM_TRAP (BitVec.ofNat 64 (2 ^ 48 + 0x55 * 2 ^ 32))
def inH (th : Thread) : Thread := { th with m := [(8, 8)] }
def last0 (w : Word) : State := port0 (fun x => { x with packets := [(5, pkt0)], threads := [(65, { th0 with pc := 0x7FFF })], program := [(32768 + 0x7FFF, w)], clusters := [(1, { icache := [(icacheLine 1 0x7FFF % 256, [icacheLine 1 0x7FFF])] })], regs := [(Reg.PGM_TRAP, BitVec.ofNat 64 (2 ^ 48 + 0x55 * 2 ^ 32))] })
def opsT (th : Thread) : Thread := { th with tags := [(7, .pending)], ops := [(7, .seqAdd none 0 false 1)] }
def fStBad : BitVec 56 := fields 0 1 2 48 0
def fRm : BitVec 56 := fields 30 1 0 (7 * 64) (15 * 2 ^ 28)
def fEm1 : BitVec 56 := fields 31 1 0 (7 * 64 + 4 + 2) 0
def fMet : BitVec 56 := fields 31 2 1 (7 * 64 + 16) 0
def fMetR : BitVec 56 := fields 31 0 0 (7 * 64 + 32) 0
def fSeq : BitVec 56 := fields 31 2 0 (7 * 64 + 8 + 16) 0xFFFF
def fSeqR : BitVec 56 := fields 31 0 1 (7 * 64 + 32) 0
def fSha : BitVec 56 := fields 28 2 0 (7 * 64) (15 * 256 + 10)
def fRply : BitVec 56 := fields 31 2 1 (7 * 64) 0x1234
def pend0 (g : Nat) (o : AsyncOp) : State := cpuWith 0 (fun th => { th with tags := [(g, .pending)], ops := [(g, o)] })
def slot5 : Nat := ((up0.slice 0).tbl.near.searchSlots false false 5).headD 0
def ent5 : Entry := { key := 5, wide := false, result := 0x3FFFF }
def hit0 : State := (pend0 7 (.lkpEm 0 false true 5 31)).modSlice 0 (fun x => { x with tbl := { near := { slots := [(slot5, some ent5)] } } })
def far0 : State := (pend0 7 (.rply 1 2 3 0 0 0 31)).modSlice 0 (fun x => { x with dram := { state := .ready } })
def arch3 : ArchSlot := { seq := 3, valid := true, time := 0, bytes := [1, 2, 3] }
def far1 : State := (((pend0 7 (.rply 1 2 3 7 0 9 31)).modSlice 0 (fun x =>
  { x with dram := { state := .ready, nextSeq := [(2, 4)], slots := [(slotKey 2 3, some arch3)] } })).setReg 0 (Reg.RPL_GROUP0 + 16)
  0x8000000000000000).setReg 0 (Reg.RPL_GROUP1 + 16) (256 * 2 ^ 32)
def fEd : BitVec 56 := fields 0 2 1 0 (8 * 256 + 245)
def fSt0 : BitVec 56 := fields 0 2 0 (16 + 8) 249
def first0 : State := (cpu (insWord 0x48 (fields 31 1 2 0 0))).modSlice 0 (fun x => { x with frg := { entries := [(77, some (fe0 .pending))] }, packets := [(5, { pkt0 with parse := { flags := 2 ^ flgFirst } })] })
def rev0 (w : Word) : State := { cpu w with slices := (cpu w).slices.map (fun x => { x with pwr := .active }) }
def fLearn : BitVec 56 := fields 0 1 4 0 0
def learnOn : State := (cpu (insWord 0x4E fLearn)).setReg 0 Reg.TBL_CFG (2 ^ 40)
def learnF : State := (trapOn (insWord 0x4E (fields 0 1 4 0 0))).modSlice 0 (fun x => { x with flt := { srcs := [(0x905, { active := true, reaction := 1 })] } })
def first1 : State := first0.modSlice 0 (fun x => { x with frg := { entries := [(77, some { fe0 .pending with maker := 5 })] }, packets := [(5, { pkt0 with parse := { flags := 2 ^ flgFirst } })] })
def tabs (f : Tables → Tables) : State := (on0 (fun x => { x with seq := { state := .running }, dram := { state := .ready }, tbl := f {} })).setReg 0 Reg.TBL_KEY 5 |>.setReg 0 Reg.TBL_RES0 0xAB
def wIns : Word := BitVec.ofNat 64 (3 * 2 ^ 10)
def slot0 : Nat := ((([((tabs id).slice 0).tbl.near].flatMap (fun t => [(t.homesAt false t.gen false 5).1, (t.homesAt false t.gen false 5).2])).flatMap (bucketPlaces false)).find? (((tabs id).slice 0).usable false false)).getD 0
def held5 : State := tabs (fun t => { t with near := { slots := [(slot0, some ent5)] } })
def farK : Nat := ((((tabs id).slice 0).tier true).searchSlots true false 5).headD 0
def held6 : State := tabs (fun t => { t with far := { slots := [(farK, some ent5)] } })
def wSlot : Word := BitVec.ofNat 64 (slot0 * 2 ^ 16)
def wRec : Word := BitVec.ofNat 64 (2 * 16 + 131071 * 2 ^ 16 + 2 * 2 ^ 49)
def recS : State := { (tabs (fun t => { t with records := [(131072 * 2 + 131071, 2 ^ 200 + 7)] })) with fol := { state := .staging } }
def busyT : State := tabs (fun t => { t with cmd := { busy := true, status := .busy }, waiting := some (0, 500000) })
def waitT2 : State := tabs (fun t => { t with cmd := { busy := true, status := .busy }, waiting := some (0, 500001) })
def flush0 : State := tabs (fun t => { t with near := { flush := true, mig := true } })
def learn0 : State := (tabs (fun t => { t with learn := [(5, 0x3FFFF), (6, 1)], near := { slots := [(slot5, some { ent5 with lrn := true, old := true })] } }))
def learn1 : State := (tabs (fun t => { t with learn := [(5, 0x77)] }))
def sweepB : State := { (tabs id) with uptime := 2 ^ 50 }
def sweep (e : Entry) : State := tabs (fun t => { t with near := { passing := true, parity := true, slots := [(9, some e)] } })
def rules0 : State := ({ up0 with fol := { state := .staging } }.setReg 0 Reg.RMX_VAL 5 |>.setReg 0 Reg.RMX_CARE 7).setReg 0 Reg.RMX_CTL 0x8000000000000009 |>.setReg 0 Reg.RMX_RES 0x123
def bad0 : State := { up0 with fol := { state := .staging } }.setReg 0 Reg.RMX_VAL 8
def wRow : Word := BitVec.ofNat 64 (32767 * 2 ^ 16)
def arg0 (v : Nat) (f : Bpm → Bpm) : State := (on0 (fun x => { x with bpm := f {} })).setReg 0 Reg.BPM_ARG (BitVec.ofNat 64 v)
def want0 : State := arg0 (512 * 2 ^ 48 + 0x123 * 2 ^ 32) id
def none0 : State := arg0 (9728 * 2 ^ 48 + 0x123 * 2 ^ 32) (fun b => { b with n2 := 0 })
def ptr0 : Nat := (({} : Bpm).bufferPtr 0 (((({} : Bpm).pool 0).pop.map (·.1)).getD 0))
def take0 : State := arg0 (ptr0 + 0x123 * 2 ^ 32) (fun b => { b with cells := [(ptr0 / 128, { allocated := true, owner := 0x123 })] })
def fmt0 : State := up0.setReg 0 Reg.BPM_POOL_CFG (BitVec.ofNat 64 (4096 * 2 ^ 32))
def bank0 (f : Bpm → Bpm) : State := arg0 0 f
def wBank : Word := BitVec.ofNat 64 (13 * 2 ^ 16)
def lone0 : State := bank0 (fun b => { b with banks := (List.range 13).map (fun k => (k, .retention)) })
def drain0 : State := bank0 (fun b => { b with banks := [(13, .draining)] })
def sleep0 : State := bank0 (fun b => { b with banks := [(13, .retention)] })
def wake0 : State := bank0 (fun b => { b with banks := [(13, .waking)], waking := some 13, cmd := { busy := true, status := .busy } })
def broke0 : State := bank0 (fun b => { b with lists := [(13, { broken := true })] })
def run0 : State := bank0 (fun b => { b with cmd := { busy := true, status := .busy } })
def sch0 (f : Sched → Sched) : State := (on0 (fun x => { x with eg := { sch := f {} }, tbu := { acc := 2 ^ 64 } })).setReg 0 Reg.SCH_DATA 0x10000 |>.setReg 0 (Reg.SCH_DATA + 8) 0
def sStg (f : Sched → Sched) : State := { (sch0 f) with fol := { state := .staging } }
def wQ : Word := BitVec.ofNat 64 (2 * 2 ^ 49 + 4095 * 2 ^ 16 + 2 * 2 ^ 8)
def wG : Word := BitVec.ofNat 64 (2 * 2 ^ 49 + 63 * 2 ^ 16 + 4 * 2 ^ 8)
def gsw (t : Nat) : Sched → Sched := fun c => { c with ports := [(63, { gswitch := .at t })] }
def gate0 : State := (sch0 id).setReg 0 Reg.SCH_DATA 0x1000003E8
def when0 (lo w2 : Nat) : State := ((sch0 id).setReg 0 Reg.SCH_DATA (BitVec.ofNat 64 lo)).setReg 0 (Reg.SCH_DATA + 16) (BitVec.ofNat 64 w2)
def pend1 : State := { (when0 0 1) with fol := { state := .pending } }
def mcl0 : State := (up0.setReg 0 Reg.MCL_DATA0 0xFFFF).setReg 0 Reg.MCL_DATA1 7
def mcl1 : State := up0.setReg 0 Reg.MCL_DATA0 0x10000
def eqxD (d : Nat) : State := up0.setReg 0 Reg.EQX_DATA0 (BitVec.ofNat 64 d)
def ligM : State := (sendEg { merge := [eg0] }).setReg 0 (Reg.LIG_CFG + 8 * 63) 1000
def seedT : State := up0.setGreg Reg.LIG_SEED_TIME0 (BitVec.ofNat 64 (2 ^ 40))
def seedP : State := { up0 with lig := { pending := some (9, 0) } }
def seedQ : State := { up0 with lig := { pending := some (9, 1) } }
def seedE : State := on0 (fun x => { x with eg := { prevSeed := [(4, 0)] }, tbu := { acc := 160000 * 2 ^ 44 } })
def seedF : State := on0 (fun x => { x with eg := { prevSeed := [(4, 0)] }, tbu := { acc := 159999 * 2 ^ 44 } })
def cpbS (f : Cpb → Cpb) : State := on0 (fun x => { x with pwr := .active, seq := { state := .running }, dram := { state := .ready }, cpb := f { region := 2 ^ 26, free := 2 ^ 26 } })
def cbr0 : WaitRec := { pkt := 3, frame := 0, capture := 0, port := 5, index := 1, fragment := false, punted := false, missing := 1, commitAt := 0 }
def rep0 : State := cpbS (fun c => { c with reports := [(3, true, false, 1)], waiting := [cbr0] })
def exp0 : State := cpbS (fun c => { c with waiting := [cbr0] })
def exp1 : State := cpbS (fun c => { c with waiting := [{ cbr0 with missing := 0, fcs := some true }] })
def exp2 : State := cpbS (fun c => { c with waiting := [{ cbr0 with commitAt := 2000000 }] })
def sealOn (f : State → State) : State := f { up0.setGreg Reg.CPB_SEAL_CFG 0x80000000000003E8 with uptime := 3000000, trf := { acc := 0 }, signer := { ready := true } }
def seal0 : State := sealOn (fun s => { s with scribe := { s.scribe with seed := some 5 } })
def seal1 : State := sealOn (fun s => { s with scribe := { s.scribe with seed := none } })
def seal2 : State := { up0 with signer := { signing := some [1, 2], number := 4, resumed := true } }
def blk0 : Block := { number := 7, run := 0, firstSeq := 0, openTime := 0, prev := [] }
def close0 : State := cpbS (fun c => { c with closing := [blk0] })
def drain0x : State := { (on0 (fun x => { x with pwr := .active, dram := { state := .ready }, cpb := { region := 2 ^ 26, free := 0, blocks := [blk0] }, rings := [(fld (up0.reg 0 Reg.CPB_CFG) 47 40, { state := .running, desc := some (padTo 16 [0, 0, 0, 0, 0, 0, 0, 0, 0, 4, 2]) })] })) with host := { up0.host with links := [(0, { dlActive := true })], pfs := [(0, { bme := true })] } }
def rel0 : State := (cpbS (fun c => { c with nextBlock := 8, blocks := [blk0] })).setReg 0 Reg.CPB_CFG 0x64000300000000 |>.setReg 0 Reg.CPB_ARG 7
def folS (f : Folio → Folio) : State := (({ up0 with fol := f { staged := 6 } } : State).setGreg Reg.FOL_TIME0 (BitVec.ofNat 64 (2000000 * 2 ^ 18)))
def folAt (st : FolState) : State := folS (fun f => { f with state := st, time := 320001 })
def folM : State := (folAt .staging).setGreg Reg.FOL_TIME0 (BitVec.ofNat 64 (1000000000 * 2 ^ 18))
def folB : State := folS (fun f => { f with prevValid := true, previous := 4 })
def opn : State := { (folS (fun f => { f with state := .opening, copy := true, active := 0 })) with slices := up0.slices.map (fun x => { x with seq := { state := .running } }) }
def armAll (st : FolState) (T : Nat) : State := { up0 with slices := up0.slices.map (fun x => { x with pwr := .active, seq := { state := .running }, fol := { armed := true } }), fol := { state := st, time := T, staged := 6 } }
def notArm : State := { up0 with slices := up0.slices.map (fun x => { x with pwr := .active, seq := { state := .running } }), fol := { state := .pending, time := 320000, staged := 6 } }
def drn (d : Bool) : State := { up0 with slices := up0.slices.map (fun x => { x with pwr := .active, tbu := { acc := 2 ^ 64 }, fol := { switched := true, drained := d, previous := 9 } }), fol := { state := .draining, time := 0 } }
def drn1 : State := (drn true).modSlice 0 (fun x => { x with fol := { x.fol with drained := false } })
def dramS (f : Dram → Dram) : State := on0 (fun x => { x with pwr := .active, seq := { state := .running }, dram := f {} })
def geo0 : Word := 0x8000000000017101
def trn0 (p : Bool) : State := dramS (fun d => { d with state := .training, geom := geo0, freqPending := p })
def rdy0 (f : Dram → Dram) : State := dramS (fun d => f { d with state := .ready, geom := geo0 })
def eye1 : List (BitVec 128) := List.replicate 20 (BitVec.allOnes 128)
def relk : State := dramS (fun d => { d with state := .selfRefresh, relocking := true, pendSpeed := 2 })
def bank0x : State := rdy0 (fun d => { d with banks := [(63, { row := some 5 })] })
def aw0 (b : Option Nat) : ArchWrite := { key := 16777216 * 255 + 3, seq := 3, frame := 0, edits := [], capture := 0, buf := b }
def arch0 (b : Option Nat) : State := ({ (rdy0 (fun d => { d with writes := [aw0 b] })) with frames := [(0, { bytes := List.replicate 68 1, done := true })] } : State).setReg 0 (Reg.RPL_GROUP0 + 8 * 255) 0x8000000000000000 |>.setReg 0 (Reg.RPL_GROUP1 + 8 * 255) (16 * 2 ^ 32)
def grp (w : Word) : State := ((dramS (fun d => { d with rpl := 0x8000000500000001, slots := [(16777216 * 255 + 3, some { seq := 3, valid := true, time := 0, bytes := [] })] })).setReg 0 (Reg.RPL_GROUP0 + 8 * 255) w).setReg 0 (Reg.RPL_GROUP1 + 8 * 255) (16 * 2 ^ 32)
def grpW : Word := 0x8000000000000007
def hiB : Word := 0x8000000000000000
def hostS (f : HostPort → HostPort) : State := { up0 with host := f { up0.host with links := [(0, { dlActive := true })], pfs := [(0, { mse := true, bme := true })] } }
def winS (f : HostPort → HostPort) (d0 : Nat) : State := (hostS f).setGreg Reg.HST_WIN_DATA0 (BitVec.ofNat 64 d0)
def winOk : Nat := 2 ^ 63 + 2 ^ 62 + 16 * 2 ^ 48
def actv : State := (hostS id).modSlice 0 (fun x => { x with pwr := .active })
def frz : State := (hostS (fun h => { h with links := [(0, { dlActive := true, frozen := true, cause := 4 })] })).modSlice 15 (fun x => { x with rings := [(255, { state := .frozen }), (7, { state := .running })] })
def run0x : State := (hostS id).modSlice 15 (fun x => { x with rings := [(255, { state := .running })] })
def d3S : State := hostS (fun h => { h with pfs := (List.range 16).map (fun p => (p, { d3 := true })) })
def eight : List Byte := [1, 2, 3, 4, 5, 6, 7, 8]
def scrS : State := ((hostS (fun h => { h with windows := [(1, { valid := true, writeEn := true, kind := 1, slice := 15, log2 := 16, off := 0x6000000, target := 0 })] })).setGreg 0 0).modSlice 15 (fun x => { x with dram := { state := .ready, scr := 0x8000000000000001 } })
def scrW : State := { scrS with host := { scrS.host with windows := [(0, { valid := false }), (1, { valid := true, writeEn := true, kind := 1, slice := 15, log2 := 16, off := 0x6000000, target := 0 })] } }
def own5 : State := (hostS (fun h => { h with pfs := [(5, { mse := true, bme := true })] }))
def noWin : State := hostS (fun h => { h with windows := [(0, { valid := false })] })
def msx : State := hostS (fun h => { h with pfs := [(0, { mse := true, bme := true, msixOn := true, vecs := [(2047, { addr := 4, data := 9, pending := true })] })] })
def ringS (cfg : Nat) (x : Ring) : State := ((hostS id).modSlice 15 (fun y => { y with rings := [(255, x)] })).setReg 15 (rng Reg.RNG_CFG 255) (BitVec.ofNat 64 cfg)
def cfg6 : Nat := 2 ^ 63 + 6 * 2 ^ 56
def wRun : Word := BitVec.ofNat 64 cfg6
def rxd (n : Nat) : List Byte := bytesLE 8 0x1000 ++ bytesLE 4 n ++ List.replicate 20 0
def rxS (it : RxItem) (n : Nat) : State := ringS cfg6 { state := .running, items := [it], desc := some (rxd n), head := 63 }
def txd (m n tgt : Nat) : List Byte := bytesLE 8 0x1000 ++ bytesLE 2 n ++ [byte m, 0] ++ bytesLE 2 tgt ++ bytesLE 2 (64 * 15) ++ List.replicate 16 0
def cfgT : Nat := 2 ^ 63 + 2 ^ 62 + 6 * 2 ^ 56
def txS (x : Ring) : State := ringS cfgT { x with state := .running }
def txS0 (m n : Nat) (x : Ring) : State := (txS { x with desc := some (txd m n 5) }).modSlice 15 (fun y => { y with lanes := [(0, lane0)] })
def frm60 : List Byte := List.replicate 60 7
def coal : State := ringS (cfg6 + 1 + 2 ^ 16) { unsig := 1, unsigAt := 1998500 }
def coal2 : State := ringS (cfg6 + 1 + 2 ^ 16) { unsig := 1, unsigAt := 1998501 }
def tg (f : Bool) (q : Option Nat) : ReadTag := { link := 0, pf := 0, slice := 15, ring := 255, frame := f, issued := 100, quar := q }
def tagS (f : Bool) (q : Option Nat) (cfg : Nat) : State := let s := ringS cfg { state := .running, read := some 16383, desc := if f then some (txd 1 60 5) else none, want := if f then 60 else 0 }
   { s with host := { s.host with tags := [(16383, some (tg f q))] } }
def tagT (q : Option Nat) : State := { (tagS true q cfg6) with uptime := 2 ^ 30 }
def msgOf (op n : Nat) (p : List Byte) : List Byte := [0x53, 0x42, 1, 1] ++ bytesLE 2 op ++ [0, 0] ++ bytesLE 8 0 ++ bytesLE 8 n ++ bytesLE 2 p.length ++ List.replicate 6 0 ++ p
def reqS (op path : Nat) (p : List Byte) (f : Scribe → Scribe) : State := { up0 with scribe := f { up0.scribe with queue := [{ path := path, bytes := msgOf op 1 p }], booted := true, keyLoaded := true } }
def fieldS (op : Nat) (p : List Byte) : State := reqS op 1 p (fun c => { c with lc := 2 })
def ff : FwImage := { slot := 1, major := 1, minor := 0, build := 5, svn := 3 }
def cpbR (op : Nat) (p : List Byte) : State := (fieldS op p).modSlice 15 (fun x => { x with cpb := { blocks := [blk0], nextBlock := 8 } }) |>.setReg 15 Reg.CPB_CFG 0x64000300000000
def slR (p : List Byte) : State := { (fieldS 0x32 p) with signer := { buffer := [⟨5, List.replicate 1632 9⟩] } }
def lrS : State := { (fieldS 0x40 [3]) with host := { up0.host with links := [(3, { dlActive := true, frozen := true, cause := 4 })] } }
def prvS : State := reqS 0x50 1 (2 :: List.replicate 32 8) (fun c => { c with lc := 1, fw := some ff })
def retS : State := reqS 0x50 0 (3 :: List.replicate 32 0) (fun c => { c with lc := 2, fw := some ff })
def blankS : State := reqS 0x52 1 [] (fun c => { c with lc := 0, seed := none, fw := some ff })
def latS : State := reqS 0x51 1 [] (fun c => { c with lc := 2, tampers := 2, acked := 1, fw := some ff })
def fwS (g off : Nat) (bs : List Byte) : State := reqS 0x70 1 ([byte g] ++ bytesLE 4 off ++ bytesLE 2 bs.length ++ bs) (fun c => { c with lc := 2, fw := some ff })
def svnS : State := reqS 0x71 1 [] (fun c => { c with lc := 2, fw := some ff })
def noteP : List Byte := List.replicate 20 1 ++ [2, 0, 0, 0, 0, 0, 0, 0]
def scrB (f : Scribe → Scribe) : State := { up0 with scribe := f { up0.scribe with booted := true, fw := some ff } }
def keyS : State := scrB (fun c => { c with keysWait := true, mgmt := some [1] })
def tampS (n : Nat) : State := (scrB (fun c => { c with tampers := n })).setGreg Reg.SEC_TAMPER_CFG 2
def mbx0 (f : Scribe → Scribe) : State := (List.range 4).foldl (fun a k => a.setGreg (Reg.SCB_MBX_DATA + 8 * k) (word (ofBytesLE (slice (msgOf 1 1 []) (8 * k) 8)))) (scrB f)
def wSend (n : Nat) : Word := BitVec.ofNat 64 (n * 2 ^ 16)
def m60 : List Byte := msgOf 0x60 9 noteP
def hd3 : State := scrB (fun c => { c with queue := List.replicate 8 { path := 0, bytes := [] } })
def key1 : State := scrB (fun c => { c with lc := 1 })
def pmxS (f : Nat) (w : Word) : State := up0.setGreg (Reg.PMX_FEAT + 8 * f) w
def enB : Word := 0x8000000000000000
def pmxC : State := (pmxS 0 enB).setGreg (Reg.PMX_FEAT + 8 * 5) (enB + 0x100)
def pmxT : State := (pmxS 0 enB).setGreg (Reg.PMX_FEAT + 8 * 5) (enB + 1)
def ppsS : State := { up0 with pmx := { applied := [(1, enB)] } }
def gtS : State := { (on0 (fun x => { x with eg := { sch := { gcfg := [(0, { w0 := 0x80000001000003E8 })] } } })) with pmx := { applied := [(5, enB)] } }
def fltU (u id : Nat) (x : FaultSrc) : State := if u < 16 then up0.modSlice (sl u) (fun y => { y with flt := { srcs := [(id, x)] } }) else { up0 with flt := { srcs := [(id, x)] } }
def autoX : FaultSrc := { active := true, auto := true, quiet := 1, reaction := 1, quietFrom := some 1998500 }
def wF (n : Nat) : Word := BitVec.ofNat 64 n
def actX : FaultSrc := { active := true }
def condX : FaultSrc := { cond := true, active := true, reaction := 1 }
def intS (l : Option Nat) : State := ({ up0 with flt := { intWaits := true, lastInt := l } } : State).setGreg Reg.DFLT_INT_CFG 0x8000000000000000
def hist0 : State := up0.modSlice 15 (fun x => { x with flt := { hist := [{ time := 9, source := 0x900, kind := 1, flags := 0, unit := 2, syndrome := 77 }], written := 1 } })
def pmcS (p : Pmc) : State := up0.modSlice 15 (fun x => { x with pmc := p })
def tlyS (w : Word) (f : Tally → Tally) : State := ({ mark0 with trf := {}, tally := f {}, host := { up0.host with links := [(0, { dlActive := true })], pfs := [(0, { bme := true })] } } : State).setGreg Reg.TLY_CFG w |>.setGreg Reg.TLY_LIST 0x8000000004000000
def tlyW : Word := 0x8010000000010000
def snp : Snapshot := { number := 4, skipped := true, time := 5, values := [7] }
def snpS : State := (tlyS tlyW (fun t => { t with head := 1, writing := some snp })).setGreg Reg.TLY_BASE 0x1000
def seq1 : State := on0 (fun x => { x with seq := { state := .running } })
def busyB0 : Lane := { lane0 with enabled := false, draining := true, cmd := running }
def goesR : State := goes0.modSlice 0 (fun x => { x with cpb := { region := 2 ^ 26, free := 2 ^ 26, waiting := [cbr0] } })
def goesQ : State := goesR.modSlice 0 (fun x => { x with seq := { state := .running }, dram := { state := .ready } })
def copyE : Copy := { copyP with target := .port 197, slices := [3] }
def pktE : Packet := { pkt0 with seq := 7, committed := some [copyE], entry := true }
def turnE : State := (turn0 pktE).modSlice 3 (fun x => { x with pwr := .active })
def txDis : State := tx0.modSlice 0 (fun x => { x with lanes := [(63, busyB0)] })
def ask1 : State := ask0.modSlice 0 (fun x => { x with lanes := [(63, { lane0 with cfg := 0x25F80081, asking := 0x81, askedAt := [(0, 2000000)] })] })
def ask2 : State := ask0.modSlice 0 (fun x => { x with lanes := [(63, { lane0 with cfg := 0x25F80081, asking := 0x81, askedAt := [(0, 2000000), (7, 2000000)] })] })
def seqR (w : Nat) (trap : Bool) : State := on0 (fun x => { x with seq := { state := .running, pc := 4095, store := [(4095, w)], inTrap := trap, depth := 3, stack := [(2, 77)], savedPc := 9, savedDepth := 8, savedFlags := 3 } })
def flushH : State := flush0.modSlice 0 (fun x => { x with seq := { state := .halted } })
def learnC : State := tabs (fun t => { t with learn := [(5, 0x77)], near := { flush := true } })
def learnN : State := (tabs (fun t => { t with learn := [(5, 0x77)] })).modSlice 0 (fun x => { x with dram := { state := .training } })
def sweepN (e : Entry) : State := (sweep e).modSlice 0 (fun x => { x with flt := { srcs := [(0x310, { active := true, reaction := 1 })] } })
def clsd (s : State) : Bool := ((s.slice 0).tier (bitAt (s.reg 0 Reg.TBL_CFG) 32)).flush || (s.slice 0).farFenced || (s.slice 0).keyFenced false 5 || decide ((s.slice 0).seq.state ≠ .running)
def rulesF : State := rules0.modSlice 0 (fun x => { x with rmx := { x.rmx with copies := [((rules0.slice 0).fol.settled.roleS, { rows := [(32767, { value := 4, care := 4, fenced := true })] })] } })
def k0 : Nat := (((({} : Bpm).pool 0).pop).map (·.1)).getD 0
def take1 : State := arg0 (ptr0 + 0x123 * 2 ^ 32) (fun b => { b with cells := (List.range 4).map (fun j => (ptr0 / 128 + j, { allocated := true, owner := 0x123 })) })
def brokeP : State := bank0 (fun b => { b with n0 := 4, pools := [(0, { broken := true })], cells := (List.range 4).map (fun j => (({} : Bpm).bufferPtr 0 1 / 128 + j, { allocated := true, owner := 0x123 })) })
def wObj : Word := BitVec.ofNat 64 (6 * 2 ^ 8)
def wSel : Word := BitVec.ofNat 64 (3 * 2 ^ 49)
def pend2 : State := { pend1 with fol := { state := .pending, rollback := true } }
def drainS : State := drain0x.modSlice 0 (fun x => { x with rings := [(fld (up0.reg 0 Reg.CPB_CFG) 47 40, { state := .running, desc := some (padTo 16 [0, 0, 0, 0, 0, 0, 0, 0, 0, 4]) })] })
def fragE (ep : Nat) : State := (folAt .idle).modSlice 0 (fun x => { x with frg := { entries := [(7, some (fe0 (.decided 0 0 0 ep)))] } })
def retA : State := (armAll .pending 0).modSlice 15 (fun x => { x with pwr := .leaving })
def opnR : State := opn.modSlice 0 (fun x => { x with pwr := .retention, fol := { x.fol with recorded := [some 3] }, rmx := { x.rmx with copies := [(2, { rows := [(5, { value := 1, care := 1 })] }), (1, { rows := [(5, { fenced := true })] })] } })
def txLong : State := (txS0 1 5000 { buf := some 4, part := List.replicate 96 1 })
def other0 : State := on0 (fun x => { x with owner := 3 })
def rail0 : State := { held0 with railsOk := false }
def railOff : State := { off0 with railsOk := false }
def eth (t : Nat) (rest : List Byte) : List Byte := List.replicate 12 1 ++ bytesBE 2 t ++ rest
def zeros (n : Nat) : List Byte := List.replicate n 0
def hu (bs : List Byte) (o : Nat) : Nat := (byteAt (padTo 256 bs) o).toNat
def hb (bs : List Byte) (o n : Nat) : Nat := ofBytesBE (slice (padTo 256 bs) o n)
def ip4 (ihl frag proto : Nat) (rest : List Byte) : List Byte :=
  eth 0x0800 ([byte (64 + ihl), 0, 0, 40, 0, 9] ++ bytesBE 2 frag ++ [64, byte proto, 0, 0, 10, 0, 0, 1, 10, 0, 0, 2] ++ zeros (4 * (ihl - 5)) ++ rest)
def ip6 (v next : Nat) (rest : List Byte) : List Byte := eth 0x86DD ([byte (16 * v), 0, 0, 0, 0, 0, byte next, 64] ++ zeros 32 ++ rest)
def cfgV : Word := 0x12B5
def cfgP : Word := 0x112B5
def schQ : Sched := { entries := [(schKey 0 0 63, { w0 := 0x8000000000140007 }), (schKey 0 1 1023, { w0 := 0x800000010000003F }),
  (schKey 0 2 4095, { w0 := 0x8000000103FF0000, w2 := 0x1000000000000 }), (schKey 0 2 7, { w0 := 0x8000000103FF0000, w2 := 0x1000000000000 })] }
/-- Slice 3 holds a crossing to slice 0, whose port 63 is up and paused. -/
def crossT (t : Target) : Cross := { crossX with copy := { copyP with target := t } }
def cross0 (t : Target) (f : Egress → Egress) : State :=
  ((turn0 pktU).modSlice 3 (fun x => { x with pwr := .active, eg := { voq := [(2, [crossT t])] } })).modSlice 0 (fun x =>
    { x with lanes := [(63, { lane0 with pauseUntil := some 3000000 })], eg := f { sch := schQ } })
def crossM : State := (cross0 (.merge 63) id).setReg 0 (Reg.LIG_CFG + 8 * 63) 0x8000000000000000
def crossE : State := cross0 (.eqx 5) (fun g => { g with eqx := [(5, { w0 := 0x8000000000000000, w1 := 0x8000000000000000 })] })
def crossL : State := cross0 (.mcast 9) (fun g => { g with mcl := [(9, (0x8000000000000000, 0x8000000000000000))] })
/-- The crossing of `t` in state `s` reaches slice 0 with all its cells. -/
def Crosses (t : Target) (s : State) : Prop :=
  s.core = .up ∧ (∀ l ∈ (s.slice 0).lanes, l.2.paused s.uptime = true ∧ ((s.sch 0).port l.1).tx = none) ∧ (∀ q ∈ (s.sch 0).queues, q.2.copies = []) ∧
    NMap.get [] (s.slice 3).eg.voq 2 = [crossT t] ∧ (s.frame 5).done = true ∧ (s.frame 5).cutOff = false ∧ (s.frame 5).bad = false ∧ crossDrop s 3 0 = 0 ∧
    s.packetBroken 3 (some 5) = false ∧ (s.slice 0).chainOf 5 = none ∧
    (takeCells 0 false 1 [] (countCells 3 0 2 1 (epochSplit 0 0 (s.modEg 3 (fun g => { g with voq := NMap.set [] g.voq 2 [] }))))).1.isSome = true
def endC (cs : List Copy) : State := ((cpuWith (insWord 0x3D 0) (fun th => { th with copies := cs })).modSlice 0 (fun x => { x with eg := { sch := schQ } })).modSlice 3 (fun x => { x with pwr := .active })
  |>.setReg 3 (Reg.LIG_CFG + 8 * 63) 0x8000000000000000
def copyQ : Copy := { copyP with target := .queue 4095, slices := [] }
def copyM : Copy := { copyP with target := .merge (64 * 3 + 63), slices := [], xcls := 7 }
def rmS (m key : Nat) (rows : NMap RmxRow) : State :=
  (pend0 7 (.lkpRm 0 m key 30)).modSlice 0 (fun x => { x with rmx := { x.rmx with copies := [(x.fol.roleA, { rows := rows })] } })
def rowOf (v p : Nat) : RmxRow := { value := v, care := 0xFF, result := 77, prio := p, valid := true }
def rmTwo : State := rmS 0 5 [(3, rowOf 5 1), (9, rowOf 5 1), (11, rowOf 6 0)]
def farS (tier : Nat) (st : DramState) : State :=
  (pend0 7 (.lkpEm tier false true 5 31)).modSlice 0 (fun x => { x with dram := { state := st }, tbl := { far := { slots := [(farK, some ent5)] } } })
def fencedS (ids : List Nat) (o : AsyncOp) : State :=
  (pend0 7 o).modSlice 0 (fun x => { x with flt := { srcs := ids.map (fun id => (id, { active := true, reaction := 1 })) } })
def buf20 : EditBuf := editBuf ([0x45] ++ zeros 19)
def buf24 : EditBuf := editBuf ([0x46] ++ zeros 23)
def seedH (p : Option (Word × Nat)) : State := { (on0 (fun x => { x with eg := { seed := 8, prevSeed := [(7, 90), (4, 40)] } })) with lig := { pending := p } }
def folG : State := (folAt .pending).modSlice 0 (fun x => { x with eg := { sch := { ports := [(63, { gswitch := .folio 6 }), (5, { gswitch := .folio 7 })] } } })
def opnF : State := opn.modSlice 0 (fun x => { x with dram := { state := .training } })
def rollS : State := { (armAll .pending 0) with fol := { state := .pending, time := 0, staged := 6, rollback := true } }
def mapS : State := (hostS id).setGreg Reg.HST_PF_MAP 0x98
def froS : State := (hostS (fun h => { h with links := [(0, { dlActive := true, frozen := true, cause := 4 })] })).modSlice 15 (fun y => { y with rings := [(255, {})] })
def lateS : State := let s := ringS cfg6 { state := .running }
  { s with host := { s.host with tags := [(16383, some (tg true none))] } }
def heldSerial : State := { (reqS 0x10 1 (bytesLE 8 (globalOff Reg.SEC_SERIAL) ++ bytesLE 2 1) (fun c => { c with lc := 2 })) with core := .off }
def heldFault (u : Nat) : State := { (fieldS 0x20 [byte u]) with core := .held }
def cpbF (st : DramState) : State := (cpbR 0x30 ([15] ++ bytesLE 8 7 ++ bytesLE 4 0 ++ bytesLE 2 64)).modSlice 15 (fun x => { x with dram := { state := st } })
def certS (seed : Option Nat) (p : List Byte) : State := reqS 0x53 1 p (fun c => { c with lc := 0, seed := seed, fw := some ff })
def mctp60 : List Byte := [0x01, 0, 8, 0xC3] ++ mctpPrefix ++ msgOf 1 1 []
def unkS : State := scrB (fun c => { c with lc := 2, mgmt := some (List.replicate 32 8), keyLoaded := true })
def m99 : List Byte := msgOf 0x99 9 [] ++ scribeTag (List.replicate 32 8) (msgOf 0x99 9 [])
def liveS (w : Word) : State := { ppsS with pmx := { ppsS.pmx with live := true, high := [(0, 2000001)] } }.setGreg Reg.PMX_GPIO w
def msxI (v : Vec) (cfg : Word) : State :=
  ({ (hostS (fun h => { h with pfs := [(0, { mse := true, bme := true, msixOn := true, vecs := [(0, v)] })] })) with flt := { intWaits := true } } : State).setGreg Reg.DFLT_INT_CFG cfg
def stopT : State := { snpS with tally := { snpS.tally with stopping := true } }

theorem ready_up0 : Ready up0 := ⟨⟨rfl, rfl⟩, rfl⟩
theorem ready_on0 (f : Slice → Slice) : Ready (on0 f) := ⟨⟨rfl, rfl⟩, rfl⟩
theorem ready_act0 : Ready act0 := ⟨⟨rfl, rfl⟩, rfl⟩
theorem ready_goes0 : Ready goes0 := ⟨⟨rfl, rfl⟩, rfl⟩
theorem ready_comes0 : Ready comes0 := ⟨⟨rfl, rfl⟩, rfl⟩
theorem ready_waits0 : Ready waits0 := ⟨⟨rfl, rfl⟩, rfl⟩
theorem ready_armed0 : Ready armed0 := ⟨⟨rfl, rfl⟩, rfl⟩
theorem ready_off0 : Calm off0 := ⟨rfl, rfl⟩
theorem ready_dark0 : Calm dark0 := ⟨rfl, rfl⟩
theorem ready_held0 : Calm held0 := ⟨rfl, rfl⟩
theorem ready_start0 : Calm start0 := ⟨rfl, rfl⟩
theorem ready_port0 (f : Slice → Slice) : Ready (port0 f) := ⟨⟨rfl, rfl⟩, rfl⟩
theorem ready_rx0 : Ready rx0 := ⟨⟨rfl, rfl⟩, rfl⟩
theorem ready_busy1 : Ready busy1 := ⟨⟨rfl, rfl⟩, rfl⟩
theorem ready_whole0 : Ready whole0 := ⟨⟨rfl, rfl⟩, rfl⟩
theorem ready_queued0 : Ready queued0 := ⟨⟨rfl, rfl⟩, rfl⟩
theorem ready_steal0 : Ready steal0 := ⟨⟨rfl, rfl⟩, rfl⟩
theorem ready_miss0 : Ready miss0 := ⟨⟨rfl, rfl⟩, rfl⟩
theorem ready_runs0 : Ready runs0 := ⟨⟨rfl, rfl⟩, rfl⟩
theorem ready_fresh0 : Ready fresh0 := ⟨⟨rfl, rfl⟩, rfl⟩
theorem ready_turn0 (p : Packet) : Ready (turn0 p) := ⟨⟨rfl, rfl⟩, rfl⟩
theorem ready_voq0 : Ready voq0 := ⟨⟨rfl, rfl⟩, rfl⟩
theorem ready_eqx0 : Ready eqx0 := ⟨⟨rfl, rfl⟩, rfl⟩
theorem ready_merge0 : Ready merge0 := ⟨⟨rfl, rfl⟩, rfl⟩
theorem ready_pick0 : Ready pick0 := ⟨⟨rfl, rfl⟩, rfl⟩
theorem ready_tx0 : Ready tx0 := ⟨⟨rfl, rfl⟩, rfl⟩
theorem ready_idle0 : Ready idle0 := ⟨⟨rfl, rfl⟩, rfl⟩
theorem ready_names0 : Ready names0 := ⟨⟨rfl, rfl⟩, rfl⟩
theorem ready_down0 : Ready down0 := ⟨⟨rfl, rfl⟩, rfl⟩
theorem ready_ver0 : Ready ver0 := ⟨⟨rfl, rfl⟩, rfl⟩
theorem ready_pause0 : Ready pause0 := ⟨⟨rfl, rfl⟩, rfl⟩
theorem ready_ask0 : Ready ask0 := ⟨⟨rfl, rfl⟩, rfl⟩
theorem ready_frag0 : Ready frag0 := ⟨⟨rfl, rfl⟩, rfl⟩
theorem ready_expired0 : Ready expired0 := ⟨⟨rfl, rfl⟩, rfl⟩
theorem ready_wait0 : Ready wait0 := ⟨⟨rfl, rfl⟩, rfl⟩
theorem ready_staging0 : Ready staging0 := ⟨⟨rfl, rfl⟩, rfl⟩
theorem ready_seq0 (w : Nat) (trap : Bool) : Ready (seq0 w trap) := ⟨⟨rfl, rfl⟩, rfl⟩
theorem ready_mark0 : Ready mark0 := ⟨⟨rfl, rfl⟩, rfl⟩
theorem ready_late1 : Ready late1 := ⟨⟨rfl, rfl⟩, rfl⟩
theorem ready_tod0 : Ready tod0 := ⟨⟨rfl, rfl⟩, rfl⟩
theorem ready_lock0 : Ready lock0 := ⟨⟨rfl, rfl⟩, rfl⟩
theorem ready_refTod0 : Ready refTod0 := ⟨⟨rfl, rfl⟩, rfl⟩
theorem ready_skew0 : Ready skew0 := ⟨⟨rfl, rfl⟩, rfl⟩
theorem ready_missed0 : Ready missed0 := ⟨⟨rfl, rfl⟩, rfl⟩
theorem ready_pps0 : Ready pps0 := ⟨⟨rfl, rfl⟩, rfl⟩
theorem ready_ptp0 : Ready ptp0 := ⟨⟨rfl, rfl⟩, rfl⟩
theorem ready_soon0 : Ready soon0 := ⟨⟨rfl, rfl⟩, rfl⟩
theorem ready_loss0 : Ready loss0 := ⟨⟨rfl, rfl⟩, rfl⟩
theorem ready_freq0 : Ready freq0 := ⟨⟨rfl, rfl⟩, rfl⟩
theorem ready_freq1 : Ready freq1 := ⟨⟨rfl, rfl⟩, rfl⟩
theorem ready_cpu (w : Word) : Ready (cpu w) := ⟨⟨rfl, rfl⟩, rfl⟩
theorem ready_cpuWith (w : Word) (f : Thread → Thread) : Ready (cpuWith w f) := ⟨⟨rfl, rfl⟩, rfl⟩
theorem ready_trapOn (w : Word) : Ready (trapOn w) := ⟨⟨rfl, rfl⟩, rfl⟩
theorem ready_last0 (w : Word) : Ready (last0 w) := ⟨⟨rfl, rfl⟩, rfl⟩
theorem ready_pend0 (g : Nat) (o : AsyncOp) : Ready (pend0 g o) := ⟨⟨rfl, rfl⟩, rfl⟩
theorem ready_hit0 : Ready hit0 := ⟨⟨rfl, rfl⟩, rfl⟩
theorem ready_far0 : Ready far0 := ⟨⟨rfl, rfl⟩, rfl⟩
theorem ready_far1 : Ready far1 := ⟨⟨rfl, rfl⟩, rfl⟩
theorem ready_first0 : Ready first0 := ⟨⟨rfl, rfl⟩, rfl⟩
theorem ready_learnOn : Ready learnOn := ⟨⟨rfl, rfl⟩, rfl⟩
theorem ready_learnF : Ready learnF := ⟨⟨rfl, rfl⟩, rfl⟩
theorem ready_first1 : Ready first1 := ⟨⟨rfl, rfl⟩, rfl⟩
theorem ready_tabs (f : Tables → Tables) : Ready (tabs f) := ⟨⟨rfl, rfl⟩, rfl⟩
theorem ready_held5 : Ready held5 := ⟨⟨rfl, rfl⟩, rfl⟩
theorem ready_held6 : Ready held6 := ⟨⟨rfl, rfl⟩, rfl⟩
theorem ready_recS : Ready recS := ⟨⟨rfl, rfl⟩, rfl⟩
theorem ready_busyT : Ready busyT := ⟨⟨rfl, rfl⟩, rfl⟩
theorem ready_waitT2 : Ready waitT2 := ⟨⟨rfl, rfl⟩, rfl⟩
theorem ready_flush0 : Ready flush0 := ⟨⟨rfl, rfl⟩, rfl⟩
theorem ready_learn0 : Ready learn0 := ⟨⟨rfl, rfl⟩, rfl⟩
theorem ready_learn1 : Ready learn1 := ⟨⟨rfl, rfl⟩, rfl⟩
theorem ready_sweepB : Ready sweepB := ⟨⟨rfl, rfl⟩, rfl⟩
theorem ready_sweep (e : Entry) : Ready (sweep e) := ⟨⟨rfl, rfl⟩, rfl⟩
theorem ready_rules0 : Ready rules0 := ⟨⟨rfl, rfl⟩, rfl⟩
theorem ready_bad0 : Ready bad0 := ⟨⟨rfl, rfl⟩, rfl⟩
theorem ready_arg0 (v : Nat) (f : Bpm → Bpm) : Ready (arg0 v f) := ⟨⟨rfl, rfl⟩, rfl⟩
theorem ready_want0 : Ready want0 := ⟨⟨rfl, rfl⟩, rfl⟩
theorem ready_none0 : Ready none0 := ⟨⟨rfl, rfl⟩, rfl⟩
theorem ready_take0 : Ready take0 := ⟨⟨rfl, rfl⟩, rfl⟩
theorem ready_fmt0 : Ready fmt0 := ⟨⟨rfl, rfl⟩, rfl⟩
theorem ready_bank0 (f : Bpm → Bpm) : Ready (bank0 f) := ⟨⟨rfl, rfl⟩, rfl⟩
theorem ready_lone0 : Ready lone0 := ⟨⟨rfl, rfl⟩, rfl⟩
theorem ready_drain0 : Ready drain0 := ⟨⟨rfl, rfl⟩, rfl⟩
theorem ready_sleep0 : Ready sleep0 := ⟨⟨rfl, rfl⟩, rfl⟩
theorem ready_wake0 : Ready wake0 := ⟨⟨rfl, rfl⟩, rfl⟩
theorem ready_broke0 : Ready broke0 := ⟨⟨rfl, rfl⟩, rfl⟩
theorem ready_run0 : Ready run0 := ⟨⟨rfl, rfl⟩, rfl⟩
theorem ready_sch0 (f : Sched → Sched) : Ready (sch0 f) := ⟨⟨rfl, rfl⟩, rfl⟩
theorem ready_sStg (f : Sched → Sched) : Ready (sStg f) := ⟨⟨rfl, rfl⟩, rfl⟩
theorem ready_gate0 : Ready gate0 := ⟨⟨rfl, rfl⟩, rfl⟩
theorem ready_when0 (lo w2 : Nat) : Ready (when0 lo w2) := ⟨⟨rfl, rfl⟩, rfl⟩
theorem ready_pend1 : Ready pend1 := ⟨⟨rfl, rfl⟩, rfl⟩
theorem ready_mcl0 : Ready mcl0 := ⟨⟨rfl, rfl⟩, rfl⟩
theorem ready_mcl1 : Ready mcl1 := ⟨⟨rfl, rfl⟩, rfl⟩
theorem ready_eqxD (d : Nat) : Ready (eqxD d) := ⟨⟨rfl, rfl⟩, rfl⟩
theorem ready_ligM : Ready ligM := ⟨⟨rfl, rfl⟩, rfl⟩
theorem ready_seedT : Ready seedT := ⟨⟨rfl, rfl⟩, rfl⟩
theorem ready_seedP : Ready seedP := ⟨⟨rfl, rfl⟩, rfl⟩
theorem ready_seedQ : Ready seedQ := ⟨⟨rfl, rfl⟩, rfl⟩
theorem ready_seedE : Ready seedE := ⟨⟨rfl, rfl⟩, rfl⟩
theorem ready_seedF : Ready seedF := ⟨⟨rfl, rfl⟩, rfl⟩
theorem ready_cpbS (f : Cpb → Cpb) : Ready (cpbS f) := ⟨⟨rfl, rfl⟩, rfl⟩
theorem ready_rep0 : Ready rep0 := ⟨⟨rfl, rfl⟩, rfl⟩
theorem ready_exp0 : Ready exp0 := ⟨⟨rfl, rfl⟩, rfl⟩
theorem ready_exp1 : Ready exp1 := ⟨⟨rfl, rfl⟩, rfl⟩
theorem ready_exp2 : Ready exp2 := ⟨⟨rfl, rfl⟩, rfl⟩
theorem ready_seal0 : Ready seal0 := ⟨⟨rfl, rfl⟩, rfl⟩
theorem ready_seal1 : Ready seal1 := ⟨⟨rfl, rfl⟩, rfl⟩
theorem ready_seal2 : Ready seal2 := ⟨⟨rfl, rfl⟩, rfl⟩
theorem ready_close0 : Ready close0 := ⟨⟨rfl, rfl⟩, rfl⟩
theorem ready_drain0x : Ready drain0x := ⟨⟨rfl, rfl⟩, rfl⟩
theorem ready_rel0 : Ready rel0 := ⟨⟨rfl, rfl⟩, rfl⟩
theorem ready_folS (f : Folio → Folio) : Ready (folS f) := ⟨⟨rfl, rfl⟩, rfl⟩
theorem ready_folAt (st : FolState) : Ready (folAt st) := ⟨⟨rfl, rfl⟩, rfl⟩
theorem ready_folM : Ready folM := ⟨⟨rfl, rfl⟩, rfl⟩
theorem ready_folB : Ready folB := ⟨⟨rfl, rfl⟩, rfl⟩
theorem ready_opn : Ready opn := ⟨⟨rfl, rfl⟩, rfl⟩
theorem ready_armAll (st : FolState) (T : Nat) : Ready (armAll st T) := ⟨⟨rfl, rfl⟩, rfl⟩
theorem ready_notArm : Ready notArm := ⟨⟨rfl, rfl⟩, rfl⟩
theorem ready_drn (d : Bool) : Ready (drn d) := ⟨⟨rfl, rfl⟩, rfl⟩
theorem ready_drn1 : Ready drn1 := ⟨⟨rfl, rfl⟩, rfl⟩
theorem ready_dramS (f : Dram → Dram) : Ready (dramS f) := ⟨⟨rfl, rfl⟩, rfl⟩
theorem ready_trn0 (p : Bool) : Ready (trn0 p) := ⟨⟨rfl, rfl⟩, rfl⟩
theorem ready_rdy0 (f : Dram → Dram) : Ready (rdy0 f) := ⟨⟨rfl, rfl⟩, rfl⟩
theorem ready_relk : Ready relk := ⟨⟨rfl, rfl⟩, rfl⟩
theorem ready_bank0x : Ready bank0x := ⟨⟨rfl, rfl⟩, rfl⟩
theorem ready_arch0 (b : Option Nat) : Ready (arch0 b) := ⟨⟨rfl, rfl⟩, rfl⟩
theorem ready_grp (w : Word) : Ready (grp w) := ⟨⟨rfl, rfl⟩, rfl⟩
theorem ready_hostS (f : HostPort → HostPort) : Ready (hostS f) := ⟨⟨rfl, rfl⟩, rfl⟩
theorem ready_winS (f : HostPort → HostPort) (d0 : Nat) : Ready (winS f d0) := ⟨⟨rfl, rfl⟩, rfl⟩
theorem ready_actv : Ready actv := ⟨⟨rfl, rfl⟩, rfl⟩
theorem ready_frz : Ready frz := ⟨⟨rfl, rfl⟩, rfl⟩
theorem ready_run0x : Ready run0x := ⟨⟨rfl, rfl⟩, rfl⟩
theorem ready_d3S : Ready d3S := ⟨⟨rfl, rfl⟩, rfl⟩
theorem ready_scrS : Ready scrS := ⟨⟨rfl, rfl⟩, rfl⟩
theorem ready_scrW : Ready scrW := ⟨⟨rfl, rfl⟩, rfl⟩
theorem ready_own5 : Ready own5 := ⟨⟨rfl, rfl⟩, rfl⟩
theorem ready_noWin : Ready noWin := ⟨⟨rfl, rfl⟩, rfl⟩
theorem ready_msx : Ready msx := ⟨⟨rfl, rfl⟩, rfl⟩
theorem ready_ringS (cfg : Nat) (x : Ring) : Ready (ringS cfg x) := ⟨⟨rfl, rfl⟩, rfl⟩
theorem ready_rxS (it : RxItem) (n : Nat) : Ready (rxS it n) := ⟨⟨rfl, rfl⟩, rfl⟩
theorem ready_txS (x : Ring) : Ready (txS x) := ⟨⟨rfl, rfl⟩, rfl⟩
theorem ready_txS0 (m n : Nat) (x : Ring) : Ready (txS0 m n x) := ⟨⟨rfl, rfl⟩, rfl⟩
theorem ready_coal : Ready coal := ⟨⟨rfl, rfl⟩, rfl⟩
theorem ready_coal2 : Ready coal2 := ⟨⟨rfl, rfl⟩, rfl⟩
theorem ready_tagS (f : Bool) (q : Option Nat) (cfg : Nat) : Ready (tagS f q cfg) := ⟨⟨rfl, rfl⟩, rfl⟩
theorem ready_tagT (q : Option Nat) : Ready (tagT q) := ⟨⟨rfl, rfl⟩, rfl⟩
theorem ready_reqS (op path : Nat) (p : List Byte) (f : Scribe → Scribe) : Ready (reqS op path p f) := ⟨⟨rfl, rfl⟩, rfl⟩
theorem ready_fieldS (op : Nat) (p : List Byte) : Ready (fieldS op p) := ⟨⟨rfl, rfl⟩, rfl⟩
theorem ready_cpbR (op : Nat) (p : List Byte) : Ready (cpbR op p) := ⟨⟨rfl, rfl⟩, rfl⟩
theorem ready_slR (p : List Byte) : Ready (slR p) := ⟨⟨rfl, rfl⟩, rfl⟩
theorem ready_lrS : Ready lrS := ⟨⟨rfl, rfl⟩, rfl⟩
theorem ready_prvS : Ready prvS := ⟨⟨rfl, rfl⟩, rfl⟩
theorem ready_retS : Ready retS := ⟨⟨rfl, rfl⟩, rfl⟩
theorem ready_blankS : Ready blankS := ⟨⟨rfl, rfl⟩, rfl⟩
theorem ready_latS : Ready latS := ⟨⟨rfl, rfl⟩, rfl⟩
theorem ready_fwS (g off : Nat) (bs : List Byte) : Ready (fwS g off bs) := ⟨⟨rfl, rfl⟩, rfl⟩
theorem ready_svnS : Ready svnS := ⟨⟨rfl, rfl⟩, rfl⟩
theorem ready_scrB (f : Scribe → Scribe) : Ready (scrB f) := ⟨⟨rfl, rfl⟩, rfl⟩
theorem ready_keyS : Ready keyS := ⟨⟨rfl, rfl⟩, rfl⟩
theorem ready_tampS (n : Nat) : Ready (tampS n) := ⟨⟨rfl, rfl⟩, rfl⟩
theorem ready_mbx0 (f : Scribe → Scribe) : Ready (mbx0 f) := ⟨⟨rfl, rfl⟩, rfl⟩
theorem ready_hd3 : Ready hd3 := ⟨⟨rfl, rfl⟩, rfl⟩
theorem ready_key1 : Ready key1 := ⟨⟨rfl, rfl⟩, rfl⟩
theorem ready_pmxS (f : Nat) (w : Word) : Ready (pmxS f w) := ⟨⟨rfl, rfl⟩, rfl⟩
theorem ready_pmxC : Ready pmxC := ⟨⟨rfl, rfl⟩, rfl⟩
theorem ready_pmxT : Ready pmxT := ⟨⟨rfl, rfl⟩, rfl⟩
theorem ready_ppsS : Ready ppsS := ⟨⟨rfl, rfl⟩, rfl⟩
theorem ready_gtS : Ready gtS := ⟨⟨rfl, rfl⟩, rfl⟩
theorem ready_intS (l : Option Nat) : Ready (intS l) := ⟨⟨rfl, rfl⟩, rfl⟩
theorem ready_hist0 : Ready hist0 := ⟨⟨rfl, rfl⟩, rfl⟩
theorem ready_pmcS (p : Pmc) : Ready (pmcS p) := ⟨⟨rfl, rfl⟩, rfl⟩
theorem ready_tlyS (w : Word) (f : Tally → Tally) : Ready (tlyS w f) := ⟨⟨rfl, rfl⟩, rfl⟩
theorem ready_snpS : Ready snpS := ⟨⟨rfl, rfl⟩, rfl⟩
theorem ready_seq1 : Ready seq1 := ⟨⟨rfl, rfl⟩, rfl⟩
theorem ready_goesR : Ready goesR := ⟨⟨rfl, rfl⟩, rfl⟩
theorem ready_goesQ : Ready goesQ := ⟨⟨rfl, rfl⟩, rfl⟩
theorem ready_turnE : Ready turnE := ⟨⟨rfl, rfl⟩, rfl⟩
theorem ready_txDis : Ready txDis := ⟨⟨rfl, rfl⟩, rfl⟩
theorem ready_ask1 : Ready ask1 := ⟨⟨rfl, rfl⟩, rfl⟩
theorem ready_ask2 : Ready ask2 := ⟨⟨rfl, rfl⟩, rfl⟩
theorem ready_seqR (w : Nat) (trap : Bool) : Ready (seqR w trap) := ⟨⟨rfl, rfl⟩, rfl⟩
theorem ready_flushH : Ready flushH := ⟨⟨rfl, rfl⟩, rfl⟩
theorem ready_learnC : Ready learnC := ⟨⟨rfl, rfl⟩, rfl⟩
theorem ready_learnN : Ready learnN := ⟨⟨rfl, rfl⟩, rfl⟩
theorem ready_sweepN (e : Entry) : Ready (sweepN e) := ⟨⟨rfl, rfl⟩, rfl⟩
theorem ready_rulesF : Ready rulesF := ⟨⟨rfl, rfl⟩, rfl⟩
theorem ready_take1 : Ready take1 := ⟨⟨rfl, rfl⟩, rfl⟩
theorem ready_brokeP : Ready brokeP := ⟨⟨rfl, rfl⟩, rfl⟩
theorem ready_pend2 : Ready pend2 := ⟨⟨rfl, rfl⟩, rfl⟩
theorem ready_drainS : Ready drainS := ⟨⟨rfl, rfl⟩, rfl⟩
theorem ready_fragE (ep : Nat) : Ready (fragE ep) := ⟨⟨rfl, rfl⟩, rfl⟩
theorem ready_retA : Ready retA := ⟨⟨rfl, rfl⟩, rfl⟩
theorem ready_opnR : Ready opnR := ⟨⟨rfl, rfl⟩, rfl⟩
theorem ready_txLong : Ready txLong := ⟨⟨rfl, rfl⟩, rfl⟩
theorem ready_other0 : Ready other0 := ⟨⟨rfl, rfl⟩, rfl⟩
theorem ready_rail0 : Calm rail0 := ⟨rfl, rfl⟩
theorem ready_railOff : Calm railOff := ⟨rfl, rfl⟩
theorem ready_endC (cs : List Copy) : Ready (endC cs) := ⟨⟨rfl, rfl⟩, rfl⟩
theorem ready_rmS (m key : Nat) (rows : NMap RmxRow) : Ready (rmS m key rows) := ⟨⟨rfl, rfl⟩, rfl⟩
theorem ready_farS (tier : Nat) (st : DramState) : Ready (farS tier st) := ⟨⟨rfl, rfl⟩, rfl⟩
theorem ready_fencedS (ids : List Nat) (o : AsyncOp) : Ready (fencedS ids o) := ⟨⟨rfl, rfl⟩, rfl⟩
theorem ready_seedH (p : Option (Word × Nat)) : Ready (seedH p) := ⟨⟨rfl, rfl⟩, rfl⟩
theorem ready_folG : Ready folG := ⟨⟨rfl, rfl⟩, rfl⟩
theorem ready_opnF : Ready opnF := ⟨⟨rfl, rfl⟩, rfl⟩
theorem ready_rollS : Ready rollS := ⟨⟨rfl, rfl⟩, rfl⟩
theorem ready_mapS : Ready mapS := ⟨⟨rfl, rfl⟩, rfl⟩
theorem ready_froS : Ready froS := ⟨⟨rfl, rfl⟩, rfl⟩
theorem ready_lateS : Ready lateS := ⟨⟨rfl, rfl⟩, rfl⟩
theorem ready_heldSerial : Calm heldSerial := ⟨rfl, rfl⟩
theorem ready_heldFault (u : Nat) : Calm (heldFault u) := ⟨rfl, rfl⟩
theorem ready_cpbF (st : DramState) : Ready (cpbF st) := ⟨⟨rfl, rfl⟩, rfl⟩
theorem ready_certS (seed : Option Nat) (p : List Byte) : Ready (certS seed p) := ⟨⟨rfl, rfl⟩, rfl⟩
theorem ready_unkS : Ready unkS := ⟨⟨rfl, rfl⟩, rfl⟩
theorem ready_liveS (w : Word) : Ready (liveS w) := ⟨⟨rfl, rfl⟩, rfl⟩
theorem ready_msxI (v : Vec) (cfg : Word) : Ready (msxI v cfg) := ⟨⟨rfl, rfl⟩, rfl⟩
theorem ready_stopT : Ready stopT := ⟨⟨rfl, rfl⟩, rfl⟩

theorem ready_fltU (u id : Nat) (x : FaultSrc) : Ready (fltU u id x) := by
  unfold fltU
  split <;> exact ⟨⟨rfl, rfl⟩, rfl⟩

-- Hypotheses over every timestamp, over opaque constants, and over a step ------------------------------------------------

/-- A copy without edits fits whatever its transmit timestamp. -/
theorem editProblem_stampFree (s : State) (k : Nat) (st : Stamp) : editProblem s 0 k st eg0 = editProblem s 0 k 0 eg0 := by
  simp only [editProblem, show eg0.edits = [] from rfl, editedFrame, applyEdits]
theorem witness_PortStarts_sendable : Sendable (refreshTags 0 eqx0) 0 63 eg0 :=
  ⟨by decide +kernel, by decide +kernel, fun st => by rw [editProblem_stampFree]; decide +kernel⟩
theorem witness_PortStarts_picked : Sendable (refreshTags 0 pick0) 0 63 eg0 :=
  ⟨by decide +kernel, by decide +kernel, fun st => by rw [editProblem_stampFree]; decide +kernel⟩
theorem witness_TransmissionsEndAndRelease_sendable : Sendable eqx0 0 63 eg0 :=
  ⟨by decide +kernel, by decide +kernel, fun st => by rw [editProblem_stampFree]; decide +kernel⟩
theorem witness_TimeChecks_inTime : ((0x8000 : BitVec 16).getLsbD 0 = false) ∧ (Config.legDelay 0).val + (([] : List Nat)[0]?).getD 0 ≤ 40 * 256 :=
  ⟨by decide, by simpa using Nat.le_of_lt_succ (Nat.lt_of_lt_of_le (Config.legDelay 0).isLt (by decide : 2561 ≤ 40 * 256 + 1))⟩
theorem padTo_ne_nil {n : Nat} {bs : List Byte} (hn : 0 < n) (h : [] = padTo n bs) : False := by
  have := congrArg List.length h
  simp [padTo] at this
  omega
theorem witness_ScribeDomain_addresses :
    (scrB id).scribe.fw.isSome = true ∧ ([] : List Byte) ≠ padTo 4 Config.mgtIp4 ∧ ([] : List Byte) ≠ padTo 16 Config.mgtIp6 :=
  ⟨by decide, fun h => padTo_ne_nil (by decide) h, fun h => padTo_ne_nil (by decide) h⟩
theorem witness_InstructionWords : (37 : Nat) < 56 ∧ (36 : Nat) ≤ 37 ∧ 3 < 2 ^ (37 + 1 - 36) := by decide
/-- The device with one command waiting. -/
theorem witness_StepTakesTheFrontCommand : ({ up0 with pending := [Instr.xbrApplyDone] } : State).pending = Instr.xbrApplyDone :: [] := rfl
theorem witness_EveryStepSettles : ({ up0 with pending := [Instr.xbrApplyDone] } : State).Settled ∧
    step { up0 with pending := [Instr.xbrApplyDone] } = .next up0 ∧ up0.scribe.otp.Sound :=
  ⟨⟨rfl, fun x h => by cases h⟩, rfl, by unfold Otp.Sound; decide⟩
theorem witness_IdleStepIsOneCycle : up0.pending = [] := rfl

-- Ill-formed operands, each refused --------------------------------------------------------------------------------------

theorem test_wf_registerWrite : (Instr.registerWrite .scribe 0x7FFFFF8 9 0).wf = false ∧ (Instr.registerWrite .scribe 0x7FFFFF9 8 0).wf = false ∧
    (Instr.registerWrite .scribe 0 0 0).wf = false ∧ (Instr.registerWrite .scribe 0x7FFFFF8 8 0).wf = true := by decide
theorem test_wf_rcFieldRead : (Instr.rcFieldRead .scribe 0x8000000 1).wf = false := by decide
theorem test_wf_frameCellReceived : (Instr.frameCellReceived 0 0 (List.replicate 127 0)).wf = false := by decide +kernel
theorem test_wf_frameEnd : (Instr.frameEnd 0 0 (List.replicate 129 0) false 0 0 0).wf = false := by decide +kernel
theorem test_wf_parseComplete : (Instr.parseComplete 0 0 16384).wf = false := by decide
theorem test_wf_timeMarker : (Instr.timeMarker 0 (List.replicate 17 0)).wf = false := by decide
theorem test_wf_pauseFrameReceived : (Instr.pauseFrameReceived 0 0 none [1, 2]).wf = false ∧ (Instr.pauseFrameReceived 0 0 (some 3) [1]).wf = false ∧
    (Instr.pauseFrameReceived 0 0 none [65536]).wf = false := by decide
theorem test_wf_rmxScrubPass : (Instr.rmxScrubPass 0 [(3, 0, false)] false).wf = false ∧ (Instr.rmxScrubPass 0 [(0, 32768, false)] false).wf = false := by decide
theorem test_wf_trainSweepDone : (Instr.trainSweepDone 0 (List.replicate 21 0) []).wf = false := by decide
theorem test_wf_dramTrackingStep : (Instr.dramTrackingStep 0 0 []).wf = false ∧ (Instr.dramTrackingStep 0 0 (List.replicate 10 (128, 0))).wf = false := by decide
theorem test_wf_hostRequest : (Instr.hostRequest 0 0 (2 ^ 64) 4 none 0).wf = false ∧ (Instr.hostRequest 0 0 0 0 none 0).wf = false ∧
    (Instr.hostRequest 0 0 0 4 (some []) 0).wf = false := by decide
theorem test_wf_msixAccess : (Instr.msixAccess 0 0 0 none).wf = false := by decide
theorem test_wf_completionReceived : (Instr.completionReceived 0 0 0 (List.replicate 16385 0)).wf = false := by decide +kernel
theorem test_wf_arpRequest : (Instr.arpRequest [] [1, 2, 3, 4] [1, 2, 3, 4]).wf = false := by decide
theorem test_wf_neighbourDiscovery : (Instr.neighbourDiscovery ([], List.replicate 16 0)).wf = false := by decide
theorem test_wf_faultRaise : (Instr.faultRaise 0 0 (2 ^ 32)).wf = false := by decide

-- Results computed by hand -----------------------------------------------------------------------------------------------

/-- The check value of CRC-32 as IEEE 802.3 defines it. -/
theorem test_crc32 : crc32 [0x31, 0x32, 0x33, 0x34, 0x35, 0x36, 0x37, 0x38, 0x39] = 0xCBF43926 := by decide +kernel
/-- FIPS 180-4: the digests of the empty message begin E3B0C442 and 38B060A7. -/
theorem test_sha256 : (sha256 []).take 4 = [0xE3, 0xB0, 0xC4, 0x42] := by decide +kernel
theorem test_sha384 : (sha384 []).take 4 = [0x38, 0xB0, 0x60, 0xA7] := by decide +kernel
/-- R359: taps 4 to 6 are the longest run, whose centre is 5; of an even run the lower centre. -/
theorem test_runCentre : runCentre 0x76 = (5, 3) ∧ runCentre 0x0F0 = (5, 4) := by decide +kernel
/-- R355: 16 row bits, 6 column bits and one rank hold 2^34 bytes. -/
theorem test_geomBits : geomBits 0x8000000000006000 = 34 ∧ geomSupported 0x8000000000006000 = true ∧ geomSupported 0x8000000000026000 = false := by decide
/-- R3: a 4-byte write at the upper half of a command register starts no command. -/
theorem test_halfWrite : execRegisterWrite .scribe (sliceOff 0 Reg.SLC_CMD + 4) 4 2 up0 =
    .next up0 := rfl
/-- R39, R40: an NS field of 10^9 is malformed, one of 999,999,999 is not. -/
theorem test_malformed : Stamp.malformed (BitVec.ofNat 96 (1000000000 * 2 ^ 18)) = true ∧ Stamp.malformed (BitVec.ofNat 96 (999999999 * 2 ^ 18)) = false := by decide

-- The hypotheses of each statement, met together --------------------------------------------------------------------------------

theorem witness_AccessWidths_1 :
    up0.due = [] ∧
    ((sliceOff 1 Reg.SLC_CMD + 4) % 4 = 0) ∧
    isCommand ((sliceOff 1 Reg.SLC_CMD + 4) / 8 * 8) = true := by decide +kernel
theorem witness_AccessWidths_2 :
    ((3 : Nat) = 8 → 16 % 8 ≠ 0) ∧
    ((3 : Nat) = 4 → 16 % 4 ≠ 0) ∧
    ((8 : Nat) = 8 → 20 % 8 ≠ 0) := by decide +kernel
theorem witness_RegisterAccess_1 :
    (0x20100, 0x7fff03ffffff) ∈ plainWritable ∧
    0xe00d8 ∈ clearedByRead ∧
    up0.sliceWriter 15 .scribe = true := by decide +kernel
theorem witness_SlicePower_1 :
    act0.sliceWriter 0 .scribe = true ∧
    (act0.slice 0).slcCmd.busy = false ∧
    (act0.slice 0).pwr = .active ∧
    (act0.slice 0).anyPort = false := by decide +kernel
theorem witness_SlicePower_2 :
    (up0.slice 15).pwr = .retention ∧
    (up0.slice 15).slcCmd.busy = false ∧
    up0.sliceWriter 15 (.pf 0) = true := by decide +kernel
theorem witness_SlicePower_3 :
    (up0.slice 0).pwr ≠ .active ∧
    (act0.slice 0).pwr ≠ .retention := by decide +kernel
theorem witness_SlicePower_4 :
    (goes0.slice 0).pwr = .entering ∧
    (goes0.slice 0).holdsNone = true ∧
    (∀ y ∈ goes0.slices.toList, y.sendsTo 0 = false) ∧
    (comes0.slice 0).pwr = .leaving := by decide +kernel
theorem witness_PartitionMapWrites_1 :
    waits0.xbrPending = true ∧
    waits0.globalWriter (.pf 0) = true ∧
    waits0.globalWriter (.pf 1) = false := by decide +kernel
theorem witness_PartitionMapApplies_1 :
    waits0.core = .up := by decide +kernel
theorem witness_PowerAndHealth_1 :
    armed0.arm = true ∧
    armed0.wdogMs = 1 ∧
    armed0.armedAt + armed0.wdogMs * 1500000 ≤ armed0.uptime ∧
    up0.arm = false ∧
    up0.globalWriter (.pf 0) = true := by decide +kernel
theorem witness_PowerAndHealth_2 :
    up0.rootLock.isSome = true ∧
    up0.core ≠ .off ∧
    up0.pwrOk = true ∧
    dark0.pwrOk = false ∧
    off0.pwrOk = true ∧
    off0.refPresent = true ∧
    off0.rootLock = none ∧
    off0.core = .off := by decide +kernel
theorem witness_CoreResets_1 :
    up0.core ≠ .off ∧
    up0.pwrOk = true ∧
    up0.src 16 0xE02 = { reaction := 3 } ∧
    up0.src 16 0xE01 = { reaction := 3 } := by decide +kernel
theorem witness_CoreResets_2 :
    held0.globalWriter (.pf 0) = true ∧
    held0.startReady = true ∧
    held0.coolEnough = true ∧
    held0.rstCmd.busy = false ∧
    State.reset.startReady = false ∧
    bitAt held0.straps 15 = true ∧
    held0.fatalReset = false ∧
    start0.core = .starting := by decide +kernel
theorem witness_CoreResets_3 :
    up0.globalWriter .scribe = true ∧
    act0.core ≠ .off ∧
    act0.rstCmd.busy = false := by decide +kernel
theorem witness_FramesArrive_1 :
    rx0.receives 0 63 = true ∧
    (rx0.lane 0 63).rx = none := by decide +kernel
theorem witness_FramesArrive_2 :
    (busy1.lane 0 63).rx = some 5 ∧
    (busy1.slice 0).cpb.waiting = [] ∧
    (List.replicate 128 (0 : Byte)).length = 128 := by decide +kernel
theorem witness_ParseCompleteDispatches_1 :
    (whole0.lane 0 63).unparsed = [5] ∧
    (whole0.packet 0 5).map (fun p => (p.lane, p.alarm)) = some (63, false) ∧
    (whole0.frame 5).done = true ∧
    ((whole0.slice 0).cluster 15).queue.length < 128 ∧
    rec0.has flgFirst = false ∧
    rec0.has flgFragment = false := by decide +kernel
theorem witness_ThreadsStart_1 :
    queued0.packet 0 5 = some pkt0 ∧
    ((queued0.slice 0).cluster 0).queue = [5] ∧
    (queued0.slice 0).freeThread 0 = some 0 ∧
    queued0.canStart 0 0 pkt0 = true := by decide +kernel
theorem witness_ThreadsStart_2 :
    ringDistance 15 0 = 1 ∧
    ringDistance 2 0 = 2 ∧
    (steal0.slice 0).freeThread 1 = some 64 ∧
    steal0.idleCluster 0 1 = true ∧
    steal0.canStart 0 1 pkt0 = true ∧
    pkt0.pinned = false ∧
    steal0.lostHead 0 0 = false ∧
    steal0.stealBeaten 0 1 0 pkt0 = false ∧
    steal0.stealBeaten 0 2 0 pkt0 = true ∧
    ((steal0.slice 0).cluster 0).headAt + ((steal0.slice 0).cluster 0).thresh < steal0.uptime := by decide +kernel
theorem witness_CacheFillAndRunLimit_1 :
    ((miss0.slice 0).cluster 0).misses = [(32, 1)] ∧
    (miss0.thread 0 1).isSome = true := by decide +kernel
theorem witness_CacheFillAndRunLimit_2 :
    runs0.thread 0 1 = some { thr0 with firstAt := some 0 } ∧
    thr0.limit ≤ ({ thr0 with firstAt := some 0 } : Thread).ran runs0.cycle ∧
    ({ thr0 with firstAt := some 0 } : Thread).ran fresh0.cycle < thr0.limit := by decide +kernel
theorem witness_HandOnAndCrossing_1 :
    (turn0 pktT).turnPacket 0 63 = some (5, pktT) ∧
    pktT.committed = some [copyP] ∧
    [copyP].any Copy.isPunt = false ∧
    (turn0 pktU).turnPacket 0 63 = some (5, pktU) ∧
    ((turn0 pktU).frame 5).bad = false ∧
    ((turn0 pktU).lane 0 63).doneAhead = [] ∧
    0 < pktU.leaving := by decide +kernel
theorem witness_HandOnAndCrossing_2 :
    NMap.get [] (voq0.slice 3).eg.voq (8 * 0 + 2) = [crossX] ∧
    (voq0.frame 5).done = true := by decide +kernel
theorem witness_PortStarts_1 :
    ((eqx0.sch 0).port 63).tx = none ∧
    ((refreshTags 0 eqx0).lane 0 63).enabled = true ∧
    ((refreshTags 0 eqx0).lane 0 63).linkUp = true ∧
    ((refreshTags 0 eqx0).lane 0 63).paused (refreshTags 0 eqx0).uptime = false ∧
    ((((refreshTags 0 eqx0).sch 0).port 63).tx = none) ∧
    eg0.badFrame (refreshTags 0 eqx0) 0 = false ∧
    editProblem (refreshTags 0 eqx0) 0 63 0 eg0 = none ∧
    (refreshTags 0 eqx0).eqxReady 0 63 = some eg0 := by decide +kernel
theorem witness_PortStarts_2 :
    (refreshTags 0 merge0).eqxReady 0 63 = none ∧
    (refreshTags 0 merge0).nextRelease 0 63 = none ∧
    (refreshTags 0 merge0).mergeReady 0 63 = some eg0 ∧
    eg0.badFrame (refreshTags 0 merge0) 0 = false ∧
    editProblem (refreshTags 0 merge0) 0 63 0 eg0 = none := by decide +kernel
theorem witness_PortStarts_3 :
    ((pick0.sch 0).port 63).tx = none ∧
    ((refreshTags 0 pick0).lane 0 63).enabled = true ∧
    ((refreshTags 0 pick0).lane 0 63).linkUp = true ∧
    ((refreshTags 0 pick0).lane 0 63).paused (refreshTags 0 pick0).uptime = false ∧
    (((refreshTags 0 pick0).sch 0).port 63).tx = none ∧
    (refreshTags 0 pick0).eqxReady 0 63 = none ∧
    (refreshTags 0 pick0).nextRelease 0 63 = none ∧
    (refreshTags 0 pick0).mergeReady 0 63 = none ∧
    (((refreshTags 0 pick0).sch 0).port 63).preempted = none ∧
    (refreshTags 0 pick0).portPick 0 63 = some (1023, 4095) ∧
    (((refreshTags 0 pick0).sch 0).queue 4095).copies = [eg0] ∧
    eg0.badFrame (refreshTags 0 pick0) 0 = false ∧
    editProblem (refreshTags 0 pick0) 0 63 0 eg0 = none := by decide +kernel
theorem witness_TransmissionsEndAndRelease_1 :
    (((tx0.sch 0).port 63).tx).map (·.copy) = some eg0 ∧
    eg0.whole tx0 = true ∧
    (tx0.lane 0 63).enabled = true ∧
    ((eqx0.sch 0).port 63).tx = none ∧
    eqx0.eqxReady 0 63 = some eg0 ∧
    eg0.badFrame eqx0 0 = false ∧
    editProblem eqx0 0 63 0 eg0 = none := by decide +kernel
theorem witness_PortCommands_1 :
    idle0.sliceWriter 0 (.pf 0) = true ∧
    (idle0.lane 0 63).cmd.busy = false ∧
    badEnable idle0 0 63 = false ∧
    (∀ j ∈ enableLanes idle0 0 63, idle0.unitFenced 0 (.port j) = false ∧ (idle0.slice 0).portOf j = none) ∧
    (idle0.slice 0).pwr = .active ∧
    badEnable names0 0 63 = true ∧
    (rx0.lane 0 63).enabled = true ∧
    (idle0.lane 0 63).enabled = false := by decide +kernel
theorem witness_LinksAndPause_1 :
    (down0.lane 0 63).enabled = true ∧
    (down0.lane 0 63).linkUp = false ∧
    (rx0.lane 0 63).enabled = true ∧
    (rx0.lane 0 63).linkUp = true ∧
    (rx0.lane 0 63).linkUpAt + 1500 ≤ rx0.uptime ∧
    rx0.sliceWriter 0 .scribe = true ∧
    bitAt (ver0.lane 0 63).cfg 8 = true ∧
    bitAt (ver0.lane 0 63).preCfg 10 = false ∧
    (ver0.lane 0 63).linkUp = true := by decide +kernel
theorem witness_LinksAndPause_2 :
    pause0.receives 0 63 = true ∧
    fld (pause0.lane 0 63).cfg 7 6 = 1 ∧
    ((pause0.sch 0).port 63).tx.isSome = true ∧
    (pause0.lane 0 63).pauseUntil = some 1999999 ∧
    (ask0.lane 0 63).asking ≠ 0 ∧
    2 * NMap.get 0 (ask0.lane 0 63).askedAt 7 + (ask0.lane 0 63).quantaCycles (fld (ask0.reg 0 (prt Reg.PRT_PAUSE 63)) 15 0) ≤ 2 * ask0.uptime := by decide +kernel
theorem witness_FragmentTable_1 :
    up0.sliceWriter 0 .scribe = true ∧
    (up0.frg 0).cmd.busy = false ∧
    (up0.frg 0).waiting = [] ∧
    (frag0.frg 0).cmd.busy = true ∧
    (frag0.frg 0).entry 4095 = some (fe0 .pending) ∧
    frag0.sliceT 0 < (fe0 .pending).created + (fe0 .pending).life := by decide +kernel
theorem witness_FragmentTable_2 :
    (fe0 .pending).created + (fe0 .pending).life ≤ expired0.sliceT 0 ∧
    (wait0.frg 0).waiting = [(5, place0)] ∧
    (wait0.packet 0 5).map (fun p => (p.capture.t16, p.lane)) = some (0, 63) ∧
    (wait0.frg 0).entry place0 = some (fe0 (.decided 1 0x77 5 2)) ∧
    wait0.fragClosed 0 = false ∧
    0 < (fe0 (.decided 1 0x77 5 2)).created + (fe0 (.decided 1 0x77 5 2)).life ∧
    (wait0.frg 0).find (fragKey (padTo 256 (wait0.frame 5).bytes) {}) = some place0 ∧
    ((wait0.slice 0).cluster (63 / 4)).queue.length < 128 := by decide +kernel
theorem witness_ProgramAndScratchpadWindows_1 :
    staging0.inStaging = true ∧
    (1 : Nat) ≠ (staging0.slice 0).fol.bank ∧
    up0.inStaging = false ∧
    (staging0.slice 0).fol.bank = 0 ∧
    staging0.sliceWriter 0 (.pf 0) = true := by decide +kernel
theorem witness_SequencerSteps_1 :
    ((seq0 0 false).slice 0).seq.state = .running ∧
    ((seq0 0 false).slice 0).seq.pending = 0 ∧
    ((seq0 0 false).slice 0).seq.inTrap = false ∧
    ((seq0 0 true).slice 0).seq.inTrap = true ∧
    bitsOf ((seq0 (2 ^ 240 + 0x123 * 2 ^ 244) false).slice 0).seq.word 243 240 = 1 ∧
    bitsOf ((seq0 (3 * 2 ^ 240 + 0x123 * 2 ^ 244) false).slice 0).seq.word 243 240 = 3 := by decide +kernel
theorem witness_TimeReadsLatch_1 :
    up0.mayReadSlice 15 (.pf 0) = true := by decide +kernel
theorem witness_TimeReadsLatch_2 :
    late1.mayReadSlice 15 (.pf 0) = true := by decide +kernel
theorem witness_TimeSetting_1 :
    up0.trf.cmd.busy = false ∧
    up0.globalWriter (.pf 0) = true ∧
    tod0.todOperand.malformed = true ∧
    up0.todOperand.malformed = false ∧
    up0.trf.servo = .freerun ∧
    refTod0.refSel = 3 ∧
    lock0.trf.servo = .locked ∧
    up0.globalWriter (.pf 1) = false := by decide +kernel
theorem witness_MarkersApply_1 :
    mark0.trf.todPending = some (2999850, 5 * 2 ^ 44, 1000 * 2 ^ 14 + 3) ∧
    mark0.atMarker = true ∧
    2999850 + 150 ≤ mark0.uptime ∧
    mark0.trf.stepPending = some (-16) ∧
    mark0.trf.servo = .acquiring ∧
    ({ up0 with uptime := 2000001 } : State).atMarker = false := by decide +kernel
theorem witness_TimeChecks_1 :
    skew0.atMarker = true ∧
    skew0.lastMarker ≠ some skew0.uptime ∧
    (missed0.slice 0).marker = some 1999940 ∧
    1999940 + 60 ≤ missed0.uptime := by decide +kernel
theorem witness_References_1 :
    pps0.refSel = 1 ∧
    pps0.sampleAllowed = true ∧
    ptp0.refSel = 2 ∧
    ptp0.sampleAllowed = true ∧
    bitAt (ptp0.greg Reg.TRF_CTRL) 8 = true ∧
    ptp0.trf.lastSample = some 1250000 ∧
    1250000 + 750000 ≤ ptp0.uptime ∧
    soon0.uptime < 1250001 + 750000 ∧
    up0.refSel ≠ 2 := by decide +kernel
theorem witness_References_2 :
    loss0.lossDue = true ∧
    loss0.trf.servo = .locked ∧
    freq0.freqSrc ≠ 0 ∧
    freq0.trf.freqLost = false ∧
    freq1.freqSrc ≠ 0 ∧
    freq1.trf.freqLost = true := by decide +kernel
theorem witness_TimeSetting_2 :
    lock0.globalWriter .scribe = true ∧
    lock0.globalWriter (.pf 2) = false := by decide +kernel
theorem witness_AluResults_1 :
    (cpu (insWord 0x01 fAlu)).thread 0 65 = some th0 ∧
    ((cpu (insWord 0x01 fAlu)).packet 0 5).isSome = true ∧
    th0.hold = .none ∧
    (((cpu (insWord 0x01 fAlu)).slice 0).cluster 1).cached (icacheLine 1 0x100) = true ∧
    ((cpu (insWord 0x01 fAlu)).slice 0).instr 1 0x100 = insWord 0x01 fAlu ∧
    th0.pc ≠ 0x7FFF ∧
    fld (insWord 0x01 fAlu) 35 32 = 0 ∧
    bitAt (insWord 0x01 fAlu) 36 = false ∧
    fld (insWord 0x01 fAlu) 31 0 = 0 ∧
    bitAt (insWord 0x01 fAlu) 38 = false ∧
    bitAt (insWord 0x01 fAlu) 39 = false ∧
    bitAt (insWord 0x01 fAlu) 40 = false ∧
    bitAt (insWord 0x01 fAlu) 37 = true ∧
    th0.ops = [] ∧
    bitAt (insWord 0x01 fImm) 36 = true ∧
    rB (insWord 0x01 fImm) = ⟨false, 0⟩ ∧
    fld (insWord 0x01 fImm) 35 32 = 0 := by decide +kernel
theorem witness_AluResults_2 :
    fld (insWord 0x0E (fields 31 1 0 16 8)) 31 0 = 8 ∧
    rB (insWord 0x0E (fields 31 1 0 16 8)) = ⟨false, 0⟩ ∧
    (th0.get (rA (insWord 0x0F (fields 31 1 0 0 0)))).toNat < 2 ^ 64 ∧
    2 ^ 63 ≤ (th0.get (rA (insWord 0x0F (fields 31 1 0 0 0)))).toNat ∧
    rA (insWord 0x10 (fields 31 0 1 0 0)) = ⟨false, 0⟩ := by decide +kernel
theorem witness_FieldsAndHash_1 :
    fld (insWord 0x20 fExt) 40 39 = 0 ∧
    fld (insWord 0x20 fExt) 29 21 = 12 ∧
    fld (insWord 0x20 fExt) 17 12 = 15 ∧
    fld (insWord 0x20 fExt) 35 30 = 0 ∧
    fld (insWord 0x20 fExt) 11 0 = 0 := by decide +kernel
theorem witness_Branches_1 :
    fld (insWord 0x28 0x7FFF) 55 15 = 0 ∧
    fld (insWord 0x29 (fields 31 0 0 0 0x7FFF)) 55 51 = 31 ∧
    (th0.get ⟨false, 1⟩).toInt ≤ (widened true 17 1).toInt ∧
    (widened true 17 1).toNat < (th0.get ⟨false, 1⟩).toNat ∧
    (th0.get (rA (insWord 0x2A (fields 0 2 0 0 0)))).toNat < 0x8000 := by decide +kernel
theorem witness_ScratchpadAndCsrs_1 :
    (({ th0 with g := [(1, 0xFFF8), (2, 3)] } : Thread).get (rA (insWord 0x30 fLd4)) + widened true 16 (fld (insWord 0x30 fLd4) 31 16)).toNat = 0xFFF8 ∧
    (0xFFF8 : Nat) % 2 ^ 3 = 0 ∧
    fld (insWord 0x32 (fields 31 1 2 48 0)) 37 32 = 0x30 ∧
    fld (insWord 0x38 (fields 31 0 0 0 0x1F)) 11 0 = 0x1F ∧
    fld (insWord 0x39 (fields 0 1 0 0 0x30)) 11 0 = 0x30 := by decide +kernel
theorem witness_ThreadsEndAndTrap_1 :
    fld (insWord 0x41 0x7F) 55 8 = 0 ∧
    fld (insWord 0x41 0x7F) 7 0 ≠ 0 ∧
    (waitT th0).tag 7 = .pending ∧
    (0x80 : Nat).testBit 7 = true ∧
    (∀ g : Fin 8, th0.tag g.val ≠ .pending) ∧
    th0.copies = [] ∧
    pkt0.full = false := by decide +kernel
theorem witness_ThreadsEndAndTrap_2 :
    (cpu 0).cycle - th0.firstAt.getD (cpu 0).cycle < th0.limit ∧
    bitAt ((trapOn 0).reg 0 Reg.PGM_TRAP) 48 = true ∧
    bitAt (NMap.get 0 th0.m 8) 3 = false := by decide +kernel
theorem witness_Exceptions_1 :
    fld (insWord 0x01 (fields 31 1 2 8 0)) 35 32 ≠ 0 ∧
    bitAt (insWord 0x01 (fields 2 1 2 256 0)) 40 = true ∧
    bitAt (NMap.get 0 (inH th0).m 8) 3 = true ∧
    fld (insWord 0x38 (fields 31 0 0 0 0x20)) 11 0 = 0x20 ∧
    0x8000 ≤ (th0.get (rA (insWord 0x2A (fields 0 4 0 0 0)))).toNat ∧
    fld (insWord 0x38 (fields 31 0 0 0 5)) 11 0 = 5 := by decide +kernel
theorem witness_Exceptions_2 :
    255 < (th0.get ⟨false, 0⟩).toNat + 511 + (0 + 15) / 8 ∧
    ((last0 0).thread 0 65).map (·.pc) = some 0x7FFF ∧
    (opsT th0).ops = [(7, .seqAdd none 0 false 1)] ∧
    rA (insWord 0x01 (fields 31 1 2 32 0)) ∈ (AsyncOp.seqAdd none 0 false 1).dests ∧
    0xFFFF < (th0.get (rA (insWord 0x31 fStBad)) + widened true 16 0).toNat := by decide +kernel
theorem witness_AsyncStarts_1 :
    fld (kindWord 0x40 37 36 0 fEm1) 35 34 = 1 ∧
    fld (kindWord 0x40 37 36 1 fRm) 27 26 = 0 ∧
    fld (kindWord 0x40 37 36 1 fRm) 31 28 + 2 ^ 0 ≤ 16 ∧
    fld (kindWord 0x40 37 36 1 fRm) 35 32 = 0 ∧
    bitAt (insWord 0x42 fMet) 36 = true ∧
    bitAt (insWord 0x42 fMetR) 37 = true ∧
    fld (insWord 0x42 fMetR) 50 46 = 0 ∧
    bitAt (insWord 0x45 fSeq) 35 = true ∧
    bitAt (insWord 0x45 fSeqR) 37 = true ∧
    fld (kindWord 0x46 37 37 1 fSha) 36 16 = 0 ∧
    (th0.get (gReg 2)).toNat + 10 + 16 ≤ 256 ∧
    fld (insWord 0x4D fRply) 37 16 = 0 ∧
    th0.issued < 32 ∧
    ((cpu 0).slice 0).unitFenced .meters = false ∧
    ((cpu 0).slice 0).unitFenced .seqCtrs = false ∧
    ((cpu 0).slice 0).digestFenced = false ∧
    ((cpu 0).slice 0).unitFenced .ddr5 = false := by decide +kernel
theorem witness_AsyncCompletions_1 :
    (pend0 7 (.lkpEm 1 false false 5 31)).thread 0 65 = some { th0 with tags := [(7, .pending)], ops := [(7, .lkpEm 1 false false 5 31)] } ∧
    ((pend0 7 (.lkpEm 1 false false 5 31)).slice 0).orphans = [] ∧
    ((pend0 7 (.lkpEm 1 false false 5 31)).slice 0).opFenced (.lkpEm 1 false false 5 31) = false ∧
    ((pend0 7 (.lkpEm 1 false false 5 31)).slice 0).found false false 5 (fun e => ((pend0 7 (.lkpEm 1 false false 5 31)).slice 0).tbl.visible th0.epoch e.vis) = none ∧
    ((cpu 0).slice 0).nearFenced = false ∧
    ((pend0 7 (.seqAdd (some 9) 5 true 31)).lane 0 63).allEnded 0 = true := by decide +kernel
theorem witness_AsyncCompletions_2 :
    (hit0.slice 0).found false false 5 (fun e => (hit0.slice 0).tbl.visible th0.epoch e.vis) = some (slot5, ent5) ∧
    (hit0.slice 0).nearFenced = false ∧
    (hit0.slice 0).opFenced (.lkpEm 0 false true 5 31) = false := by decide +kernel
theorem witness_AsyncCompletions_3 :
    (far0.slice 0).farReady = true ∧
    far0.archFind 0 2 3 = none ∧
    (far0.slice 0).opFenced (.rply 1 2 3 0 0 0 31) = false := by decide +kernel
theorem witness_AsyncCompletions_4 :
    (far1.slice 0).farReady = true ∧
    far1.archFind 0 2 3 = some arch3 ∧
    (far1.slice 0).opFenced (.rply 1 2 3 7 0 9 31) = false := by decide +kernel
theorem witness_EditsAndMarks_1 :
    th0.edits.length < 32 ∧
    (th0.get (gReg (fld (kindWord 0x44 40 37 0 fEd) 50 46))).toNat + fld (kindWord 0x44 40 37 0 fEd) 7 0 + 8 = 256 ∧
    fld (kindWord 0x43 40 38 1 fSt0) 37 36 = 1 := by decide +kernel
theorem witness_EditsAndMarks_2 :
    fld (insWord 0x47 (fields 0 1 0 32 0)) 37 37 = 1 ∧
    fld (insWord 0x49 (fields 0 0 0 (16 + 32) 31)) 37 36 = 3 ∧
    pkt0.parse.has flgFirst = false := by decide +kernel
theorem witness_EditsAndMarks_3 :
    (first0.packet 0 5).map (fun p => p.parse.has flgFirst) = some true ∧
    first0.fragClosed 0 = false := by decide +kernel
theorem witness_CopiesAndLearning_1 :
    th0.issued < 32 ∧
    bitAt (kindWord 0x4A 38 36 0 (fields 0 2 0 8 0)) 35 = true ∧
    (rev0 0).core = .up := by decide +kernel
theorem witness_CopiesAndLearning_2 :
    bitAt (learnOn.reg 0 Reg.TBL_CFG) 40 = true ∧
    (learnOn.slice 0).tbl.learn.length < 256 ∧
    bitAt ((cpu 0).reg 0 Reg.TBL_CFG) 40 = false ∧
    (learnOn.slice 0).unitFenced .learn = false := by decide +kernel
theorem witness_Exceptions_3 :
    (learnF.slice 0).unitFenced .learn = true := by decide +kernel
theorem witness_EditsAndMarks_4 :
    (first1.packet 0 5).map (fun p => p.parse.has flgFirst) = some true ∧
    first1.fragClosed 0 = false ∧
    first1.ownFragment 0 5 = some (77, { fe0 .pending with maker := 5 }) := by decide +kernel
theorem witness_TableCommands_1 :
    (tabs id).sliceWriter 0 .scribe = true ∧
    ((tabs id).slice 0).tbl.cmd.busy = false ∧
    ((tabs id).slice 0).seq.state = .running ∧
    ((tabs id).slice 0).farFenced = false ∧
    ((tabs id).slice 0).farReady = true ∧
    ((tabs id).slice 0).keyFenced (bitAt wIns 9) ((tabs id).tblKey 0 (bitAt wIns 9)) = false ∧
    fld wIns 5 4 ≤ 1 ∧
    fld wIns 11 10 = 3 ∧
    (tabs id).tblKey 0 false = 5 ∧
    ((tabs id).slice 0).conflicts false false 5 3 [] = false ∧
    (held5.slice 0).conflicts false false 5 3 [] = true ∧
    held5.exact 0 false false 3 = some (slot0, ent5) ∧
    (tabs id).exact 0 false false 3 = none ∧
    held5.lookupAny 0 false 3 false = some (slot0, ent5) ∧
    (tabs id).lookupAny 0 false 3 true = none ∧
    held6.lookupAny 0 false 3 true = some (farK, ent5) ∧
    held6.lookupAny 0 false 3 false = none := by decide +kernel
theorem witness_TableCommands_2 :
    fld wSlot 36 16 < tierSlots false ∧
    (held5.slice 0).slotFenced false (fld wSlot 36 16) = false ∧
    ((held5.slice 0).tier false).holder (fld wSlot 36 16) = some (slot0, ent5) ∧
    (((tabs id).slice 0).tier false).holder (fld wSlot 36 16) = none ∧
    bitAt (held5.reg 0 Reg.TBL_RES1) 63 = false ∧
    ((held5.slice 0).tier false).flush = false ∧
    ((held5.slice 0).tier false).mig = false ∧
    fld wIns 36 16 < tierSegs false ∧
    fld wRec 5 4 = 2 ∧
    fld wRec 36 16 = 131071 ∧
    fld wRec 50 49 = 2 ∧
    recS.keyRecord 0 &&& recordReserved = 0 ∧
    recS.fol.state = .staging := by decide +kernel
theorem witness_TableBackground_1 :
    busyT.sliceWriter 0 (.pf 0) = true ∧
    (busyT.slice 0).tbl.cmd.busy = true ∧
    (busyT.slice 0).tbl.waiting = some (0, 500000) ∧
    500000 + 1500000 ≤ busyT.uptime ∧
    waitT2.uptime < 500001 + 1500000 := by decide +kernel
theorem witness_TableBackground_2 :
    ((flush0.slice 0).tier false).flush = true ∧
    ((flush0.slice 0).tier false).mig = true ∧
    ((flush0.slice 0).tier false).stalled = false ∧
    (learn0.slice 0).tbl.learn = [(5, 0x3FFFF), (6, 1)] ∧
    (learn0.slice 0).found false false 5 (fun e => e.lrn == true) = some (slot5, { ent5 with lrn := true, old := true }) ∧
    (∀ f : Bool, (learn1.slice 0).found f false 5 (fun _ => true) = none) ∧
    bitAt (learn1.reg 0 Reg.TBL_CFG) 32 = false ∧
    (learn1.slice 0).tbl.near.flush = false ∧
    (learn1.slice 0).farFenced = false ∧
    (learn1.slice 0).keyFenced false 5 = false ∧
    (learn1.slice 0).seq.state = .running := by decide +kernel
theorem witness_TableBackground_3 :
    (sweepB.slice 0).tbl.sweepAt + sweepB.sweepPeriod 0 ≤ sweepB.uptime ∧
    ((sweepB.slice 0).tier false).passing = false ∧
    ((sweepB.slice 0).tier true).passing = false ∧
    ((sweep { ent5 with lrn := true }).slice 0).nextSweep false = some (9, { ent5 with lrn := true }) ∧
    ((sweep { ent5 with pass := true }).slice 0).nextSweep false = none ∧
    (((sweep { ent5 with pass := true }).slice 0).tier false).again = false := by decide +kernel
theorem witness_RuleMatcher_1 :
    rules0.sliceWriter 0 (.pf 0) = true ∧
    (rules0.slice 0).rmx.cmd.busy = false ∧
    rules0.fol.state = .staging ∧
    badRow 0 rules0 = false ∧
    badRow 0 bad0 = true ∧
    up0.fol.state ≠ .staging ∧
    fld wRow 50 49 ≠ 3 ∧
    fld (BitVec.ofNat 64 (15 * 2 ^ 16)) 30 16 < 16 := by decide +kernel
theorem witness_BufferManager_1 :
    want0.sliceWriter 0 .scribe = true ∧
    (want0.slice 0).bpm.cmd.busy = false ∧
    legalOwner 0x123 = true ∧
    ((want0.slice 0).bpm.pool 0).broken = false ∧
    ((want0.slice 0).bpm.pool 0).pop.isSome = true ∧
    ((none0.slice 0).bpm.pool 2).pop = none ∧
    0xE00000 ≤ ptr0 ∧
    (take0.slice 0).bpm.freeCheck ptr0 0x123 = 0 ∧
    ((take0.slice 0).bpm.poolOf ptr0).isSome = true ∧
    ptr0 % 128 = 0 := by decide +kernel
theorem witness_BufferManager_2 :
    (let c := fmt0.reg 0 Reg.BPM_POOL_CFG; fld c 47 32 ≤ 4096 ∧ fld c 31 16 ≤ 1024 ∧ fld c 15 0 ≤ 215 ∧ 4 * fld c 47 32 + 16 * fld c 31 16 + 76 * fld c 15 0 ≤ 16384) ∧
    (fmt0.slice 0).bpm.cells = [] ∧
    fld wBank 19 16 < 14 ∧
    ((bank0 id).slice 0).bpm.bank 13 = .active ∧
    2 ≤ ((bank0 id).slice 0).bpm.activeBanks ∧
    (lone0.slice 0).bpm.activeBanks ≤ 1 ∧
    (lone0.slice 0).bpm.bank 13 = .active ∧
    (drain0.slice 0).bpm.bank 13 = .draining ∧
    (drain0.slice 0).bpm.bankEmpty 13 = true ∧
    (sleep0.slice 0).bpm.bank 13 = .retention ∧
    (wake0.slice 0).bpm.waking = some 13 ∧
    (run0.slice 0).bpm.cmd.busy = true ∧
    (run0.slice 0).bpm.waking = none ∧
    ((broke0.slice 0).bpm.list 13).broken = true := by decide +kernel
theorem witness_SchedulerCommands_1 :
    (sch0 id).sliceWriter 0 .scribe = true ∧
    ((sch0 id).sch 0).cmd.busy = false ∧
    fld wQ 11 8 = 2 ∧
    fld wQ 31 16 < schCount 2 ∧
    fld wQ 50 49 = 2 ∧
    (sStg id).fol.state = .staging ∧
    badSchData 2 ((sStg id).schData 0) = false ∧
    (sch0 id).fol.state ≠ .staging ∧
    fld wG 11 8 = 4 ∧
    fld wG 31 16 < 64 ∧
    (((sch0 id).sch 0).port 63).gswitch = .none ∧
    badSchData 4 (gate0.schData 0) = false := by decide +kernel
theorem witness_SchedulerCommands_2 :
    ((when0 (2 ^ 40) 0).sch 0).gateTooShort 63 1 = false ∧
    bitAt ((when0 (2 ^ 40) 0).schData 0 2) 0 = false ∧
    (stampOfPair ((when0 (2 ^ 40) 0).schData 0 0) ((when0 (2 ^ 40) 0).schData 0 1)).malformed = false ∧
    (when0 (2 ^ 40) 0).sliceT 0 + 160000 ≤ (stampOfPair ((when0 (2 ^ 40) 0).schData 0 0) ((when0 (2 ^ 40) 0).schData 0 1)).t16 ∧
    bitAt (pend1.schData 0 2) 0 = true ∧
    pend1.fol.state = .pending ∧
    (((sch0 (gsw 5)).sch 0).port 63).gswitch ≠ .none ∧
    5 ≤ (sch0 (gsw 5)).sliceT 0 ∧
    (sch0 (gsw (2 ^ 40))).sliceT 0 < 2 ^ 40 := by decide +kernel
theorem witness_LigatureAndEquinox_1 :
    up0.sliceWriter 0 .scribe = true ∧
    (up0.slice 0).eg.mclCmd.busy = false ∧
    fld (mcl0.reg 0 Reg.MCL_DATA0) 62 16 = 0 ∧
    fld (mcl1.reg 0 Reg.MCL_DATA0) 62 16 ≠ 0 ∧
    (up0.slice 0).eg.eqxCmd.busy = false ∧
    300 ≤ fld ((eqxD 300).reg 0 Reg.EQX_DATA0) 15 0 ∧
    fld ((eqxD 50001).reg 0 Reg.EQX_DATA0) 15 0 = 50001 ∧
    ((ligM.sch 0).port 63).merge = [eg0] ∧
    fld (ligM.reg 0 (Reg.LIG_CFG + 8 * 63)) 13 0 = 1000 ∧
    ((up0.sch 0).port 63).merge = [] := by decide +kernel
theorem witness_LigatureAndEquinox_2 :
    seedT.globalWriter (.pf 0) = true ∧
    seedT.lig.cmd.busy = false ∧
    seedT.ligTime.malformed = false ∧
    seedT.centralT + 16000000 ≤ seedT.ligTime.t16 ∧
    seedT.lig.pending = none ∧
    seedP.lig.pending = some (9, 0) ∧
    0 ≤ seedP.centralT ∧
    seedQ.centralT < 1 ∧
    (seedE.slice 0).eg.prevSeed = [(4, 0)] ∧
    0 + 160000 ≤ seedE.sliceT 0 ∧
    seedF.sliceT 0 < 0 + 160000 ∧
    (seedE.slice 0).packets = [] := by decide +kernel
theorem witness_Copybook_1 :
    (rep0.cpb 0).reports = [(3, true, false, 1)] ∧
    (rep0.slice 0).pwr ≠ .retention ∧
    (rep0.cpb 0).waiting = [cbr0] ∧
    (exp0.cpb 0).waiting = [cbr0] ∧
    cbr0.gap = none ∧
    cbr0.commitAt + fld (exp0.reg 0 Reg.CPB_CFG) 63 48 * 1500 ≤ exp0.uptime ∧
    exp0.canWrite 0 = true ∧
    exp1.canWrite 0 = true ∧
    exp2.uptime < 2000000 + fld (exp2.reg 0 Reg.CPB_CFG) 63 48 * 1500 := by decide +kernel
theorem witness_Copybook_2 :
    seal0.sealDue = true ∧
    seal0.keyPresent = true ∧
    seal0.signer.ready = true ∧
    seal0.signer.signing = none ∧
    seal1.sealDue = true ∧
    seal1.keyPresent = false ∧
    up0.sealDue = false ∧
    seal2.signer.signing = some [1, 2] := by decide +kernel
theorem witness_Copybook_3 :
    (close0.cpb 0).closing = [blk0] ∧
    (close0.slice 0).farReady = true ∧
    close0.drainHost 0 = true ∧
    (close0.cpb 0).hostNext ≤ blk0.number ∧
    (close0.cpb 0).waiting = [] ∧
    (drain0x.cpb 0).blocks.find? (fun b => decide ((drain0x.cpb 0).hostNext ≤ b.number)) = some blk0 ∧
    (drain0x.ring 0 (fld (drain0x.reg 0 Reg.CPB_CFG) 47 40)).desc = some (padTo 16 [0, 0, 0, 0, 0, 0, 0, 0, 0, 4, 2]) ∧
    drain0x.drainHost 0 = true ∧
    (drain0x.slice 0).farReady = true ∧
    (drain0x.ring 0 (fld (drain0x.reg 0 Reg.CPB_CFG) 47 40)).state = .running ∧
    drain0x.ringIsTx 0 (fld (drain0x.reg 0 Reg.CPB_CFG) 47 40) = false ∧
    drain0x.pfUsable (drain0x.ringPf 0 (fld (drain0x.reg 0 Reg.CPB_CFG) 47 40)) = true ∧
    blk0.size ≤ descLen (padTo 16 [0, 0, 0, 0, 0, 0, 0, 0, 0, 4, 2]) ∧
    (rel0.cpb 0).cmd.busy = false ∧
    rel0.drainScribe 0 = true ∧
    (rel0.cpb 0).closed (rel0.reg 0 Reg.CPB_ARG).toNat = true ∧
    (rel0.cpb 0).scribeNext ≤ (rel0.reg 0 Reg.CPB_ARG).toNat := by decide +kernel
theorem witness_Copybook_4 :
    up0.sliceWriter 0 .scribe = true ∧
    up0.globalWriter .scribe = true ∧
    fld (mergeWrite (up0.reg 0 Reg.CPB_CFG) (20 * 2 ^ 48 + 2 ^ 32) .both 0xFFFFFF0300000001) 63 48 = 20 ∧
    fld (mergeWrite (up0.reg 0 Reg.CPB_CFG) (1001 * 2 ^ 48 + 2 ^ 32) .both 0xFFFFFF0300000001) 63 48 = 1001 ∧
    fld (mergeWrite (up0.reg 0 Reg.CPB_CFG) (20 * 2 ^ 48) .both 0xFFFFFF0300000001) 33 32 = 0 ∧
    fld (mergeWrite (up0.greg Reg.CPB_SEAL_CFG) 100 .both 0x800FFF00000FFFFF) 19 0 = 100 ∧
    fld (mergeWrite (up0.greg Reg.CPB_SEAL_CFG) 99 .both 0x800FFF00000FFFFF) 19 0 = 99 := by decide +kernel
theorem witness_FolioSwitches_1 :
    up0.globalWriter .scribe = true ∧
    (folAt .idle).fol.cmd.busy = false ∧
    (folAt .idle).badFolTime = false ∧
    (folAt .staging).seedsBusy = false ∧
    folB.fol.prevValid = true ∧
    folB.badFolTime = false ∧
    (folAt .pending).centralT + 320000 < (folAt .pending).fol.time ∧
    folM.badFolTime = true := by decide +kernel
theorem witness_FolioSwitches_2 :
    opn.fol.state = .opening ∧
    (∀ i : Fin 16, (opn.slice i).seq.state = .running) ∧
    (∀ i : Fin 16, ∀ t ∈ (opn.slice i).threads, t.2.epoch = opn.fol.active) ∧
    opn.fol.copy = true ∧
    (opn.slice 0).fol.recorded = [] ∧
    up0.fol.state ≠ .opening ∧
    notArm.fol.state = .pending ∧
    (notArm.slice 0).seq.state = .running ∧
    notArm.fol.time ≤ notArm.centralT + 320000 ∧
    (notArm.slice 0).fol.armed = false ∧
    (armAll .pending 0).fol.state = .pending ∧
    (∀ j, ((armAll .pending 0).slice j).fol.armed = true) ∧
    ((armAll .pending 0).slice 0).fol.switched = false ∧
    (armAll .pending 0).fol.time ≤ (armAll .pending 0).sliceT 0 ∧
    ((armAll .pending 0).slice 0).pwr ≠ .retention ∧
    (armAll .pending 1).sliceT 0 < (armAll .pending 1).fol.time ∧
    drn1.fol.state = .draining ∧
    (drn1.slice 0).fol.switched = true ∧
    (drn1.slice 0).fol.drained = false ∧
    drn1.fol.time + 16000 ≤ drn1.sliceT 0 ∧
    (drn1.slice 0).drainedOf (drn1.slice 0).fol.previous = true ∧
    (∀ j : Fin 16, j ≠ 0 → (drn1.slice j).fol.switched = true ∧ (drn1.slice j).fol.drained = true) ∧
    ((drn false).slice 1).fol.drained = false ∧
    notArm.atMarker = false ∧
    mark0.atMarker = true ∧
    mark0.fol.state ≠ .draining := by decide +kernel
theorem witness_FolioSliceRegisters_1 :
    (folAt .staging).sliceWriter 15 .scribe = true ∧
    (folAt .staging).fol.state = .staging ∧
    up0.fol.state ≠ .staging ∧
    (folAt .staging).sliceWriter 15 (.pf 3) = false := by decide +kernel
theorem witness_ChannelAndArchive_1 :
    up0.sliceWriter 0 .scribe = true ∧
    (up0.dram 0).cmd.busy = false ∧
    fld (0 : Word) 9 8 ≠ 3 ∧
    regionsOk (up0.reg 0 Reg.DRM_REGION_FAR) (up0.reg 0 Reg.DRM_REGION_CPB) (up0.reg 0 Reg.DRM_REGION_RPL) (up0.reg 0 Reg.DRM_REGION_SCR) = true ∧
    (up0.dram 0).state = .off ∧
    geomSupported geo0 = true ∧
    (∀ k : Fin 7, maskLegal geo0 k.val (up0.drmXor 0 k.val) = true) ∧
    (regionFits geo0 (up0.reg 0 Reg.DRM_REGION_FAR) && regionFits geo0 (up0.reg 0 Reg.DRM_REGION_CPB) && regionFits geo0 (up0.reg 0 Reg.DRM_REGION_RPL) && regionFits geo0 (up0.reg 0 Reg.DRM_REGION_SCR)) = true ∧
    geomSupported 0 = false ∧
    fld (0x300 : Word) 9 8 = 3 ∧
    ((rdy0 id).dram 0).state = .ready ∧
    ((rdy0 id).dram 0).draining = false ∧
    fld (0x100 : Word) 9 8 ≠ ((rdy0 id).dram 0).speed ∧
    fld (0 : Word) 9 8 = ((rdy0 id).dram 0).speed := by decide +kernel
theorem witness_ChannelAndArchive_2 :
    ((rdy0 (fun d => { d with draining := true })).dram 0).draining = true ∧
    (relk.dram 0).state = .selfRefresh ∧
    (relk.dram 0).relocking = true ∧
    ((trn0 true).dram 0).freqPending = true ∧
    ((trn0 false).dram 0).state = .training ∧
    geomK ((trn0 false).dram 0).geom = 1 ∧
    (∀ l : Fin 20, ((trn0 false).dram 0).eyeMin ≤ (runCentre ((eye1[l.val]?).getD 0)).2) ∧
    (runCentre (((eye1.take 9)[9]?).getD 0)).2 < ((trn0 false).dram 0).eyeMin ∧
    ((rdy0 id).slice 0).farReady = true ∧
    (0 : Fin 2).val ≤ geomK ((rdy0 id).dram 0).geom ∧
    (NMap.get {} (bank0x.dram 0).banks (bankKey 0 63)).row.isSome = true ∧
    fld (bank0x.reg 0 Reg.DRM_CFG) 63 48 ≤ (bank0x.uptime - (NMap.get {} (bank0x.dram 0).banks (bankKey 0 63)).last) * 16 / 15 ∧
    fld (bank0x.reg 0 Reg.DRM_CFG) 47 32 ≠ 0 ∧
    fld (bank0x.reg 0 Reg.DRM_CFG) 47 32 ≤ (bank0x.uptime - NMap.get 0 (bank0x.dram 0).ranks 0) * 16 / 15 := by decide +kernel
theorem witness_ChannelAndArchive_3 :
    ((arch0 none).dram 0).writes = [aw0 none] ∧
    ((arch0 none).frame 0).done = true ∧
    ((arch0 none).slice 0).farReady = true ∧
    bitAt ((arch0 none).rplGroup0 0 ((aw0 none).key / 16777216)) 63 = true ∧
    archivedBytes (arch0 (some 1)) (aw0 (some 1)) = some (List.replicate 64 1) ∧
    64 ≤ slotBytes ((arch0 (some 1)).rplGroup0 0 ((aw0 none).key / 16777216)) - 16 ∧
    bitAt ((grp 0).rplGroup0 0 255) 63 = false ∧
    bitAt ((grp hiB).rplGroup0 0 255) 63 = true ∧
    bitAt (mergeWrite ((grp hiB).rplGroup0 0 255) hiB .both 0xF000FFFFFFFFFFFF) 63 = true ∧
    bitAt (mergeWrite ((grp hiB).rplGroup0 0 255) 0 .both 0xF000FFFFFFFFFFFF) 63 = false ∧
    bitAt (mergeWrite ((grp 0).rplGroup0 0 255) grpW .both 0xF000FFFFFFFFFFFF) 63 = true ∧
    (grp 0).badGroup 0 255 (mergeWrite ((grp 0).rplGroup0 0 255) grpW .both 0xF000FFFFFFFFFFFF) = false ∧
    grpW &&& halfMask .both &&& 0x0FFF000000000000 = 0 := by decide +kernel
theorem witness_FolioSwitches_3 :
    (folAt .pending).fol.state = .pending ∧
    up0.fol.state ≠ .pending := by decide +kernel
theorem witness_HostPort_1 :
    (hostS id).host.cmd.busy = false ∧
    (hostS id).globalWriter .scribe = true ∧
    badWindow 1 0 ((winS id (winOk + 1)).greg Reg.HST_WIN_DATA0) ((winS id winOk).greg Reg.HST_WIN_DATA1) (winS id (winOk + 1)) = true ∧
    badWindow 1 0 ((winS id (2 ^ 47)).greg Reg.HST_WIN_DATA0) ((winS id winOk).greg Reg.HST_WIN_DATA1) (winS id (2 ^ 47)) = true ∧
    badWindow 1 0 ((winS id (2 ^ 62 + 16 * 2 ^ 48)).greg Reg.HST_WIN_DATA0) ((winS id winOk).greg Reg.HST_WIN_DATA1) (winS id (2 ^ 62 + 16 * 2 ^ 48)) = false ∧
    (hostS id).host.flushed = true ∧
    (winS (fun h => { h with flushed := false }) (2 ^ 62 + 16 * 2 ^ 48)).host.flushed = false ∧
    ((hostS id).setGreg Reg.HST_PF_MAP 8).pfMap 15 = none ∧
    ((hostS id).pfMap 0).isSome = true ∧
    ((hostS id).slice 15).pwr = .retention ∧
    (∀ q ∈ ((hostS id).slice 15).rings, q.2.state = .stopped) ∧
    (actv.slice 0).pwr ≠ .retention ∧
    (hostS id).globalWriter (.pf 5) = false := by decide +kernel
theorem witness_HostPort_2 :
    frz.mayRelease (.pf 0) 0 = false ∧
    frz.mayRelease .scribe 0 = true ∧
    ((hostS id).link 0).frozen = false ∧
    (frz.link 0).frozen = true ∧
    (frz.link 0).dlActive = true ∧
    (frz.pfn (frz.slice 15).owner.val).link = some 0 ∧
    (frz.ring 15 255).state = .frozen ∧
    (run0x.pfn 0).link = some 0 ∧
    (run0x.pfn 0).d3 = false ∧
    (run0x.link 0).frozen = false ∧
    (run0x.link 0).dlActive = true ∧
    (run0x.ring 15 255).state = .running ∧
    run0x.ringPf 15 255 ≠ 16 ∧
    (up0.pfn 0).link = some 0 ∧
    (up0.link 0).dlActive = false := by decide +kernel
theorem witness_HostPort_3 :
    0 < up0.nLinks ∧
    up0.pfsOf 0 ≠ [] ∧
    (d3S.link 0).dlActive = true ∧
    (∀ p ∈ d3S.pfsOf 0, (d3S.pfn p).d3 = true) ∧
    (up0.link 0).dlActive = false := by decide +kernel
theorem witness_HostPort_4 :
    (hostS id).linkFor 0 = some (0, false) ∧
    ((hostS id).pfn 0).mse = true ∧
    ((hostS id).pfn 0).d3 = false ∧
    ((hostS id).translate 0 0 0x4010000 8 true).map (fun p => (p.1.kind, p.2)) = some (0, 0x4010000) ∧
    own5.linkFor 5 = some (0, false) ∧
    (own5.pfn 5).mse = true ∧
    (own5.translate 5 0 0x100 4 false).map (fun p => (p.1.kind, p.2)) = some (0, 0x100) ∧
    (own5.translate 5 0 0x100 8 true).map (fun p => (p.1.kind, p.2)) = some (0, 0x100) ∧
    own5.sliceWriter 0 (.pf 5) = false ∧
    own5.globalWriter (.pf 5) = false ∧
    scrW.linkFor 0 = some (0, false) ∧
    (scrW.translate 0 0 0x6000005 8 true).map (fun p => (p.1.kind, p.1.slice, p.2)) = some (1, 15, 5) ∧
    scrW.sliceWriter 15 (.pf 0) = true ∧
    (scrW.slice 15).farReady = true ∧
    regionEn (scrW.dram 15).scr = true ∧
    noWin.linkFor 0 = some (0, false) ∧
    noWin.translate 0 0 0 4 false = none ∧
    noWin.translate 0 0 0 8 true = none ∧
    frz.linkFor 0 = some (0, true) ∧
    own5.linkFor 0 = some (0, false) ∧
    (own5.pfn 0).mse = false := by decide +kernel
theorem witness_HostPort_5 :
    msx.linkFor 0 = some (0, false) ∧
    (msx.pfn 0).mse = true ∧
    (msx.pfn 0).d3 = false ∧
    eight.length = 8 ∧
    ((msx.pfn 0).vec 2047).pending = true ∧
    (msx.pfn 0).msixOn = true ∧
    (msx.pfn 0).msixMask = false ∧
    msx.pfUsable 0 = true := by decide +kernel
theorem witness_RingsAndTags_1 :
    (ringS 0 {}).sliceWriter 15 .scribe = true ∧
    ((ringS 0 {}).ring 15 255).state = .stopped ∧
    bitAt (mergeWrite ((ringS 0 {}).ringCfg 15 255) wRun .both 0xDF0007FFFFFFFF01) 63 = true ∧
    ((ringS 0 { state := .error }).ring 15 255).state ≠ .running ∧
    bitAt (mergeWrite ((ringS cfg6 {}).ringCfg 15 255) 0 .both 0xDF0007FFFFFFFF01) 63 = false ∧
    ((ringS cfg6 { state := .running }).ring 15 255).state = .running ∧
    ((ringS cfg6 { state := .error }).ring 15 255).state ≠ .stopped ∧
    fld (mergeWrite ((ringS cfg6 { state := .running }).reg 15 (rng Reg.RNG_TAIL 255)) 63 .both 0xFFFF) 15 0 < (ringS cfg6 { state := .running }).ringSize 15 255 ∧
    (ringS cfg6 { state := .running }).ringSize 15 255 ≤ fld (mergeWrite ((ringS cfg6 { state := .running }).reg 15 (rng Reg.RNG_TAIL 255)) 64 .both 0xFFFF) 15 0 ∧
    (ringS 0 {}).sliceWriter 15 (.pf 3) = false := by decide +kernel
theorem witness_RingsAndTags_2 :
    ((rxS (.learn [1, 2]) 64).ring 15 255).items = [.learn [1, 2]] ∧
    ((rxS (.learn [1, 2]) 64).ring 15 255).desc = some (rxd 64) ∧
    ((rxS (.learn [1, 2]) 64).ring 15 255).state = .running ∧
    (rxS (.learn [1, 2]) 64).pfUsable ((rxS (.learn [1, 2]) 64).ringPf 15 255) = true ∧
    2 ≤ descLen (rxd 64) ∧
    descLen (rxd 1) < [1, 2].length ∧
    ((ringS 0 {}).ring 15 255).items = [] := by decide +kernel
theorem witness_RingsAndTags_3 :
    ((txS0 0 59 {}).ring 15 255).desc = some (txd 0 59 5) ∧
    ((txS0 0 59 {}).ring 15 255).state = .running ∧
    (txS0 0 59 {}).ringIsTx 15 255 = true ∧
    ((txS0 0 59 {}).ring 15 255).read = none ∧
    (txS0 0 59 {}).pfUsable ((txS0 0 59 {}).ringPf 15 255) = true ∧
    badTx 15 (txd 0 59 5) (txS0 0 59 {}) = true ∧
    badTx 15 (txd 1 60 5) (txS0 1 60 { frame := some frm60 }) = false ∧
    ((txS0 1 60 { frame := some frm60 }).ring 15 255).frame = some frm60 ∧
    txMode (txd 1 60 5) = 1 ∧
    ((txS0 1 60 { buf := some 4 }).ring 15 255).frame = none ∧
    ((txS0 1 60 { buf := some 4 }).ring 15 255).buf = some 4 ∧
    (takeTag 15 255 true (txS0 1 60 { buf := some 4 })).map Prod.fst = some 0 ∧
    (allocPool 15 60 (0x100 + 255) (txS0 1 60 {})).1.isSome = true ∧
    (allocPool 15 60 (0x100 + 255) ((txS0 1 60 {}).modSlice 15 (fun y => { y with bpm := { cmd := { busy := true } } }))).1 = none := by decide +kernel
theorem witness_RingsAndTags_4 :
    0 < (coal.ring 15 255).unsig ∧
    bitAt (coal.ringCfg 15 255) 0 = true ∧
    (coal.ring 15 255).unsigAt + fld (coal.ringCfg 15 255) 31 16 * 1500 ≤ coal.uptime ∧
    coal2.uptime < (coal2.ring 15 255).unsigAt + fld (coal2.ringCfg 15 255) 31 16 * 1500 := by decide +kernel
theorem witness_RingsAndTags_5 :
    (tagS true none cfgT).tag 16383 = some (tg true none) ∧
    ((tagS true none cfgT).ring 15 255).read = some 16383 ∧
    badDesc ((tagS false none cfgT).ringIsTx 15 255) (txd 0 60 5) = false ∧
    ((tagS true none cfgT).ring 15 255).state = .running ∧
    (tagS true (some 5) cfg6).tag 16383 = some (tg true (some 5)) ∧
    (∀ j : Fin 16, ∀ e ∈ ((tagS true (some 5) cfg6).slice j).rings, e.2.wantsFrom = none) ∧
    (hostS id).tag 16383 = none ∧
    ((hostS id).link 3).frozen = false := by decide +kernel
theorem witness_RingsAndTags_6 :
    (tagT none).tag 16383 = some (tg true none) ∧
    (tg true none).link < 4 ∧
    100 + (tagT none).cto 0 ≤ (tagT none).uptime ∧
    (tagS true none cfg6).uptime < 100 + (tagS true none cfg6).cto 0 ∧
    5 + 2 * (tagT (some 5)).cto 0 ≤ (tagT (some 5)).uptime ∧
    (tagS true (some 5) cfg6).uptime < 5 + 2 * (tagS true (some 5) cfg6).cto 0 ∧
    ((ringS cfg6 { wantsFrom := some 500000 }).ring 15 255).wantsFrom = some 500000 ∧
    500000 + 1500000 ≤ (ringS cfg6 { wantsFrom := some 500000 }).uptime ∧
    (ringS cfg6 { wantsFrom := some 500001 }).uptime < 500001 + 1500000 := by decide +kernel
theorem witness_ScribeServes_1 :
    (fieldS 1 []).scribe.queue = [{ path := 1, bytes := msgOf 1 1 [] }] ∧
    msgOpcode (msgOf 1 1 []) = 1 ∧
    (fieldS 1 []).scribe.allows 1 (msgOf 1 1 []) = true ∧
    (reqS 0x11 1 [] (fun c => { c with fw := some ff })).scribe.allows 1 (msgOf 0x11 1 []) = false ∧
    (fieldS 0x10 (bytesLE 8 0x4000000 ++ bytesLE 2 128)).scribe.allows 1 (msgOf 0x10 1 (bytesLE 8 0x4000000 ++ bytesLE 2 128)) = true ∧
    msgPayload (msgOf 0x10 1 (bytesLE 8 0x4000000 ++ bytesLE 2 128)) = bytesLE 8 0x4000000 ++ bytesLE 2 128 ∧
    (∀ k : Fin 128, (fieldS 0x10 []).coreFenced (0x4000000 + 8 * k.val) = false) ∧
    State.reset.coreFenced 0 = true ∧
    msgPayload (msgOf 0x11 1 (bytesLE 8 12 ++ bytesLE 8 7 ++ [4])) = bytesLE 8 12 ++ bytesLE 8 7 ++ [4] := by decide +kernel
theorem witness_ScribeServes_2 :
    (cpbR 0x30 []).up = true ∧
    ((cpbR 0x30 []).cpb 15).blocks.find? (fun b => decide (b.number = 7 ∧ b.run = ((cpbR 0x30 []).cpb 15).run)) = some blk0 ∧
    24 + 1000 ≤ (blk0.bytes 15).length ∧
    (cpbR 0x31 []).drainScribe 15 = true ∧
    ((cpbR 0x31 []).cpb 15).closed 7 = true ∧
    ((cpbR 0x31 []).cpb 15).scribeNext ≤ 7 ∧
    (slR []).signer.buffer.find? (fun x => decide (x.number = 5)) = some ⟨5, List.replicate 1632 9⟩ := by decide +kernel
theorem witness_ScribeServes_3 :
    (lrS.link 3).frozen = true ∧
    (lrS.link 3).dlActive = true ∧
    ((fieldS 0x40 [3]).link 3).frozen = false ∧
    prvS.scribe.allows 1 (msgOf 0x50 1 (2 :: List.replicate 32 8)) = true ∧
    prvS.scribe.lc = 1 ∧
    retS.scribe.allows 0 (msgOf 0x50 1 (3 :: List.replicate 32 0)) = true ∧
    retS.scribe.lc = 2 ∧
    latS.scribe.latched = true ∧
    latS.scribe.allows 1 (msgOf 0x51 1 []) = true ∧
    blankS.scribe.seed = none ∧
    blankS.scribe.allows 1 (msgOf 0x52 1 []) = true := by decide +kernel
theorem witness_ScribeServes_4 :
    (fwS 0 256 (List.replicate 256 1)).scribe.allows 1 (msgOf 0x70 1 ([0] ++ bytesLE 4 256 ++ bytesLE 2 256 ++ List.replicate 256 1)) = true ∧
    svnS.scribe.fw = some ff ∧
    svnS.scribe.minSvn ≠ ff.svn ∧
    (fieldS 0x72 []).up = true ∧
    ((fieldS 0x72 []).slice 0).seq.state ≠ .running ∧
    imageOk (fieldS 0x72 []).mcuKey (fieldS 0x72 []).microImage = false ∧
    msgPayload (msgOf 0x73 1 []) = [] := by decide +kernel
theorem witness_ScribeDomain_1 :
    State.reset.scribe.booted = false ∧
    (scrB id).scribe.booted = true ∧
    keyS.scribe.fw.isSome = true ∧
    keyS.scribe.keysWait = true ∧
    keyS.scribe.withheld = false ∧
    keyS.scribe.seed.isSome = true ∧
    State.reset.scribe.fw = none ∧
    bitAt ((tampS 31).greg Reg.SEC_TAMPER_CFG) 1 = true ∧
    bitAt ((tampS 31).greg Reg.SEC_TAMPER_CFG) 0 = false ∧
    up0.scribeLock = true ∧
    ({ up0 with scribeLock := false } : State).scribeLock = false := by decide +kernel
theorem witness_ScribeDomain_2 :
    (mbx0 id).scribe.mbx.busy = false ∧
    fld (wSend 32) 26 16 = 32 ∧
    fld (wSend 31) 26 16 = 31 ∧
    fld (wSend 1441) 26 16 = 1441 ∧
    msgWellFormed ((mbx0 id).mbxBytes 32) = true ∧
    knownOpcode ((mbx0 id).mbxBytes 32) = true ∧
    msgOpcode ((mbx0 id).mbxBytes 32) = 1 ∧
    (mbx0 id).scribe.queue.length < 8 ∧
    8 ≤ hd3.scribe.queue.length ∧
    msgWellFormed m60 = true ∧
    msgOpcode m60 ≠ 1 ∧
    knownOpcode m60 = true ∧
    msgNonceOk key1 m60 = true ∧
    key1.scribe.counter < msgCounter m60 ∧
    key1.scribe.lastReq ≠ m60 ∧
    msgTagOk key1 m60 = false ∧
    (scrB (fun c => { c with lc := 2 })).scribe.untagged 0 0x60 = false := by decide +kernel
theorem witness_ScribeDomain_3 :
    (scrB id).scribe.booted = true ∧
    (scrB id).scribe.fw.isSome = true := by decide +kernel
theorem witness_PinMultiplexing_1 :
    (gtS.sch 0).listGoverns 0 ((gtS.sch 0).port 0).gact = true ∧
    bitAt (gtS.pmx.feat 5) 63 = true ∧
    gtS.crosses 0 16000 = true ∧
    up0.globalWriter .scribe = true ∧
    up0.pmx.cmd.busy = false ∧
    bitAt ((pmxS 6 (enB + 3)).pmxFeat 6) 63 = true ∧
    fld ((pmxS 6 (enB + 3)).pmxFeat 6) 3 0 % 4 ≠ 0 ∧
    (∀ a b : Fin 7, a < b → pmxConflict (pmxS 6 (enB + 4)) a.val b.val = none) ∧
    (pmxConflict pmxC 0 5).isSome = true ∧
    pmxConflict pmxT 0 5 = some 1 ∧
    bitAt (ppsS.pmx.feat 1) 63 = true ∧
    ppsS.crosses 0 16000000000 = true ∧
    bitAt (up0.pmx.feat 1) 63 = false := by decide +kernel
theorem witness_FaultSources_1 :
    unitHas 0 0x900 = true ∧
    conditionSource 0x900 = false ∧
    unitHas 16 0xC04 = true ∧
    conditionSource 0xC04 = false ∧
    unitHas 0 0xC04 = false ∧
    conditionSource 0x800 = true ∧
    ((fltU 16 0xC04 autoX).src 16 0xC04).quietFrom = some 1998500 ∧
    ((fltU 16 0xC04 autoX).src 16 0xC04).active = true ∧
    ((fltU 16 0xC04 autoX).src 16 0xC04).auto = true ∧
    autoX.live 0xC04 2000000 = false ∧
    fatalSource 0xC04 = false ∧
    max 1998500 autoX.liveUntil + autoX.quietCycles ≤ (fltU 16 0xC04 autoX).uptime ∧
    (up0.src 0 0).quietFrom = none := by decide +kernel
theorem witness_FaultSources_2 :
    unitHas 0 0x800 = true ∧
    up0.fltWriter 0 .scribe = true ∧
    up0.fltWriter 0 (.pf 3) = false ∧
    badReaction 0x900 actX (wF (2 ^ 56)) = true ∧
    badReaction 0x900 {} (wF 0) = false ∧
    badReaction 0x900 actX (wF (2 ^ 59)) = false ∧
    badReaction 0x800 condX (wF (2 ^ 60 + 2 ^ 56)) = false ∧
    condX.live 0x800 2000000 = true ∧
    actX.live 0x900 2000000 = false := by decide +kernel
theorem witness_FaultSources_3 :
    ((intS (some 1985000)).fu 16).intWaits = true ∧
    ((intS (some 1985000)).fu 16).lastInt = some 1985000 ∧
    1985000 + 15000 ≤ (intS none).uptime ∧
    (intS (some 1985001)).uptime < 1985001 + 15000 ∧
    hist0.mayReadSlice 15 (.pf 0) = true := by decide +kernel
theorem witness_CountersAndTally_1 :
    ((pmcS { intWaits := true, lastInt := some 1985000 }).slice 15).pmc.intWaits = true ∧
    1985000 + 15000 ≤ up0.uptime ∧
    up0.uptime < 1985001 + 15000 ∧
    up0.mayReadSlice 15 (.pf 0) = true ∧
    up0.sliceWriter 15 (.pf 0) = true ∧
    fld (mergeWrite (up0.reg 15 (pmcCfg 15)) (wF (2 ^ 62 + 0x11 * 2 ^ 48)) .both 0xE0FF00F8FFFFFFFF) 55 48 = 0x11 ∧
    bitAt (mergeWrite (up0.reg 15 (pmcCfg 15)) (wF (2 ^ 62)) .both 0xE0FF00F8FFFFFFFF) 62 = true ∧
    (tlyS tlyW id).tallyDue = true ∧
    (tlyS tlyW id).tallyBlocked = false ∧
    (tlyS tlyW (fun t => { t with head := 1 })).tallyBlocked = true ∧
    up0.tallyDue = false ∧
    up0.tally.writing = none := by decide +kernel
theorem witness_CountersAndTally_2 :
    snpS.tally.writing = some snp ∧
    bitAt up0.tlyCfg 63 = false ∧
    bitAt snpS.tlyCfg 63 = true ∧
    tallyBars (fld (mergeWrite (up0.greg (Reg.TLY_LIST + 8 * 4095)) 0x8000000004000000 .both 0x8000000007FFFFF8) 26 3 * 8) = false ∧
    tallyBars 0x4000050 = true ∧
    mergeWrite snpS.tlyCfg (tlyW - 0x8000000000000000) .both 0xC1F007FF1FFF0000 = setFld snpS.tlyCfg 63 63 0 := by decide +kernel
theorem witness_SlicePower_5 :
    ((cpbRetention 0 goes0).cpb 0).atRest = true ∧
    (goesQ.slice 0).pwr = .entering ∧
    (goesQ.slice 0).holdsNone = true ∧
    (∀ y ∈ goesQ.slices.toList, y.sendsTo 0 = false) ∧
    ((cpbRetention 0 goesQ).cpb 0).atRest = false ∧
    ((cpbRetention 0 goesQ).slice 0).farReady = true ∧
    (goesR.slice 0).pwr = .entering ∧
    (goesR.slice 0).holdsNone = true ∧
    ((cpbRetention 0 goesR).cpb 0).atRest = false ∧
    ((cpbRetention 0 goesR).slice 0).farReady = false := by decide +kernel
theorem witness_HandOnAndCrossing_3 :
    turnE.turnPacket 0 63 = some (5, pktE) ∧
    pktE.committed = some [copyE] ∧
    copyE.slices = [3] ∧
    copyE.target = .port 197 ∧
    crossDrop turnE 0 3 = 0 ∧
    (turnE.frame pktE.frame).bad = false ∧
    (turnE.frame pktE.frame).cutOff = false ∧
    (NMap.get [] (turnE.slice 0).eg.voq (8 * 3 + copyE.xcls)).any (fun y => y.takes (crossOf 0 5 pktE copyE)) = false := by decide +kernel
theorem witness_TransmissionsEndAndRelease_2 :
    (((txDis.sch 0).port 63).tx).map (·.copy.whole txDis) = some true ∧
    (txDis.lane 0 63).enabled = false ∧
    (txDis.lane 0 63).draining = true ∧
    (txDis.lane 0 63).cmd = running ∧
    ((txDis.sch 0).port 63).preempted = none := by decide +kernel
theorem witness_PortCommands_2 :
    (∀ j ∈ enableLanes idle0 0 63, (idle0.slice 0).drainOf j = none) ∧
    (tx0.lane 0 63).enabled = true ∧
    (tx0.lane 0 63).cmd.busy = false ∧
    ((tx0.sch 0).port 63).tx.isSome = true := by decide +kernel
theorem witness_LinksAndPause_3 :
    (∀ p : Fin 8, ((0x80 : Nat).testBit p.val = true ↔ (ask1.lane 0 63).asking.testBit p.val = true ∧ 2 * NMap.get 0 (ask1.lane 0 63).askedAt p.val + (ask1.lane 0 63).quantaCycles (fld (ask1.reg 0 (prt Reg.PRT_PAUSE 63)) 15 0) ≤ 2 * ask1.uptime)) ∧
    (∀ p : Fin 8, ((0 : Nat).testBit p.val = true ↔ (ask2.lane 0 63).asking.testBit p.val = true ∧ 2 * NMap.get 0 (ask2.lane 0 63).askedAt p.val + (ask2.lane 0 63).quantaCycles (fld (ask2.reg 0 (prt Reg.PRT_PAUSE 63)) 15 0) ≤ 2 * ask2.uptime)) := by decide +kernel
theorem witness_ProgramAndScratchpadWindows_2 :
    (1 : Nat) ≠ (staging0.slice 0).fol.settled.bank ∧
    (staging0.slice 0).fol.settled.bank = 0 ∧
    (0 : Nat) = (staging0.slice 0).fol.settled.bank := by decide +kernel
theorem witness_SequencerSteps_2 :
    bitsOf ((seqR (4 * 2 ^ 240) false).slice 0).seq.word 243 240 = 4 ∧
    0 < ((seqR (4 * 2 ^ 240) false).slice 0).seq.depth ∧
    ((seqR (4 * 2 ^ 240) false).slice 0).seq.state = .running ∧
    ((seqR (4 * 2 ^ 240) false).slice 0).seq.pending = 0 ∧
    bitsOf ((seqR (6 * 2 ^ 240) true).slice 0).seq.word 243 240 = 6 := by decide +kernel
theorem witness_Exceptions_4 :
    bitAt (insWord 0x01 (fields 16 1 2 256 0)) 40 = true ∧
    16 ≤ fld (insWord 0x01 (fields 16 1 2 256 0)) 55 51 ∧
    th0.pc ≠ 0x7FFF ∧
    (cpu 0).cycle - th0.firstAt.getD (cpu 0).cycle < th0.limit := by decide +kernel
theorem witness_TableBackground_4 :
    (flush0.slice 0).tierWorks false = true ∧
    (flushH.slice 0).tierWorks false = false ∧
    (learnC.slice 0).tbl.learn = [(5, 0x77)] ∧
    clsd learnC = true ∧
    clsd learnN = false ∧
    (learnN.slice 0).farReady = false ∧
    clsd learn0 = false ∧
    (learn0.slice 0).farReady = true ∧
    clsd learn1 = false ∧
    (learn1.slice 0).farReady = true ∧
    (let t := (learn1.slice 0).tbl.near; (([(t.homesAt false t.gen false 5).1, (t.homesAt false t.gen false 5).2].flatMap (bucketPlaces false)).find? ((learn1.slice 0).usable false false)).isSome) = true := by decide +kernel
theorem witness_TableBackground_5 :
    ((sweepN { ent5 with lrn := true }).slice 0).tierWorks false = true ∧
    ((sweepN { ent5 with lrn := true }).slice 0).nextSweep false = some (9, { ent5 with lrn := true }) ∧
    ((sweepN { ent5 with lrn := true }).slice 0).slotFenced false 9 = true ∧
    ((sweep { ent5 with lrn := true }).slice 0).slotFenced false 9 = false ∧
    ((sweep { ent5 with lrn := true }).slice 0).seq.state = .running ∧
    (up0.slice 0).seq.state ≠ .running := by decide +kernel
theorem witness_RuleMatcher_2 :
    rulesF.fol.state = .staging ∧
    (rulesF.slice 0).rmx.cmd.busy = false ∧
    badRow 0 rulesF = false := by decide +kernel
theorem witness_BufferManager_3 :
    (want0.slice 0).bpm.badPoolPop 0 k0 = false ∧
    (take1.slice 0).bpm.freeCheck ptr0 0x123 = 0 ∧
    (take1.slice 0).bpm.poolOf ptr0 = some (0, k0) ∧
    (take1.slice 0).bpm.bufferBad 0 k0 = false ∧
    (take1.slice 0).bpm.validPtr ptr0 = true ∧
    (∀ e ∈ (fmt0.slice 0).bpm.cells, e.2.quarantined = false) ∧
    (∀ e ∈ (fmt0.slice 0).bpm.cells, generalCells ≤ e.1 → e.2.allocated = false) ∧
    (∀ e ∈ (wake0.slice 0).bpm.cells, e.2.quarantined = false) ∧
    ((brokeP.slice 0).bpm.pool 0).broken = true := by decide +kernel
theorem witness_SchedulerCommands_3 :
    badSchSel wObj = true ∧
    badSchSel wSel = true ∧
    badSchSel wG = false ∧
    badSchSel 0 = false ∧
    (pend1.sch 0).gateTooShort 63 1 = false ∧
    pend1.fol.rollback = false ∧
    ((pend1.sch 0).port 63).gswitch = .none ∧
    bitAt (pend2.schData 0 2) 0 = true ∧
    pend2.fol.rollback = true := by decide +kernel
theorem witness_LigatureAndEquinox_3 :
    up0.sliceWriter 0 (.pf 3) = false ∧
    (up0.slice 0).eg.mclCmd.busy = false ∧
    (up0.slice 0).eg.eqxCmd.busy = false ∧
    up0.globalWriter (.pf 3) = false ∧
    up0.lig.cmd.busy = false ∧
    fld ((eqxD (300 + 2 ^ 31)).reg 0 Reg.EQX_DATA0) 31 30 ≠ 0 ∧
    fld ((eqxD (300 + 2 ^ 62)).reg 0 Reg.EQX_DATA0) 62 51 ≠ 0 := by decide +kernel
theorem witness_Copybook_5 :
    (rep0.cpb 0).ready = [] ∧
    (exp0.cpb 0).ready = [] ∧
    (exp0.cpb 0).opened = none ∧
    cbr0.missing ≠ 0 ∧
    (close0.slice 0).seq.state = .running ∧
    (close0.cpb 0).ready = [] ∧
    (up0.slice 0).seq.state ≠ .running ∧
    132096 ≤ descLen (padTo 16 [0, 0, 0, 0, 0, 0, 0, 0, 0, 4, 2]) ∧
    blk0.size ≤ descLen (padTo 16 [0, 0, 0, 0, 0, 0, 0, 0, 0, 4]) ∧
    descLen (padTo 16 [0, 0, 0, 0, 0, 0, 0, 0, 0, 4]) < 132096 := by decide +kernel
theorem witness_FolioSwitches_4 :
    ((fragE 9).frg 0).entry 7 = some (fe0 (.decided 0 0 0 9)) ∧
    (9 : Nat) ≠ (fragE 9).fol.active ∧
    ((fragE (folAt .idle).fol.active).frg 0).entry 7 = some (fe0 (.decided 0 0 0 (folAt .idle).fol.active)) ∧
    (retA.slice 15).pwr = .leaving ∧
    retA.fol.time ≤ retA.sliceT 15 ∧
    (retA.slice 15).fol.switched = false ∧
    (∀ j, (retA.slice j).fol.armed = true) ∧
    (up0.slice 0).seq.state ≠ .running ∧
    opnR.fol.copy = true ∧
    (opnR.slice 0).fol.settled.roleA = 2 ∧
    (opnR.slice 0).fol.settled.roleS = 1 := by decide +kernel
theorem witness_ChannelAndArchive_4 :
    (seq1.slice 0).seq.state = .running ∧
    (seq1.dram 0).state = .off ∧
    (up0.slice 0).seq.state ≠ .running ∧
    ((rdy0 id).slice 0).seq.state = .running ∧
    (relk.slice 0).seq.state = .running ∧
    ((rdy0 (fun d => { d with draining := true })).dramQueue 0).all (fun q => !((rdy0 (fun d => { d with draining := true })).dram 0).queued.contains q) = true ∧
    ((arch0 none).dram 0).state = .ready := by decide +kernel
theorem witness_HostPort_6 :
    up0.linkOk 16 6 true = true ∧
    up0.linkOk 16 6 false = false ∧
    up0.linkOk 3 1 true = false := by decide +kernel
theorem witness_RingsAndTags_7 :
    badTx 15 (txd 1 5000 5) txLong = false ∧
    (txLong.ring 15 255).part.length = 96 ∧
    txLong.maxRead 0 = 512 ∧
    (tagS true none cfgT).ring 15 255 = { state := .running, read := some 16383, desc := some (txd 1 60 5), want := 60 } := by decide +kernel
theorem witness_PortStarts_4 :
    eqxGuard (refreshTags 0 merge0) 0 63 none eg0.len ≠ .hold ∧
    eqxGuard (refreshTags 0 pick0) 0 63 (some ((refreshTags 0 pick0).queuePrio 0 4095)) eg0.len ≠ .hold ∧
    (refreshTags 0 merge0).mergeReady 0 63 = some eg0 := by decide +kernel
theorem witness_RegisterAccess_2 :
    (0x30018, 0xffffffffffffffff) ∈ plainGlobals ∧
    (0x68 : Nat) ∈ globalsCleared ∧
    other0.sliceWriter 0 (.pf 0) = false ∧
    other0.globalWriter (.pf 0) = true ∧
    other0.mayReadSlice 0 (.pf 0) = true ∧
    up0.globalWriter (.pf 3) = false := by decide +kernel
theorem witness_PowerAndHealth_3 :
    railOff.railsOk = false ∧
    railOff.core = .off ∧
    railOff.pwrOk = true ∧
    railOff.refPresent = true ∧
    railOff.rootLock = none ∧
    ({ up0 with rootLock := none } : State).core ≠ .off ∧
    ({ off0 with refPresent := false } : State).refPresent = false := by decide +kernel
theorem witness_CoreResets_4 :
    rail0.globalWriter (.pf 0) = true ∧
    rail0.startReady = true ∧
    rail0.railsOk = false ∧
    rail0.rstCmd.busy = false ∧
    held0.railsOk = true ∧
    held0.core ≠ .off ∧
    ({ up0 with resetAt := some 2000000 } : State).resetAt = some ({ up0 with resetAt := some 2000000 } : State).uptime := by decide +kernel
theorem witness_ParseRecords_short : min (zeros 13).length 256 < 14 ∧ 14 ≤ min (eth 0x40 (zeros 46)).length 256 ∧ hb (eth 0x40 (zeros 46)) 12 2 < 0x600 ∧
    (∀ t ∈ [0x8100, 0x88A8, 0x8847, 0x8848, 0x0800, 0x86DD, 0x0806, 0x88F7], hb (eth 0x88B5 (zeros 46)) 12 2 ≠ t) := by decide +kernel
theorem witness_ParseRecords_tags :
    hb (eth 0x8100 (zeros 3)) 12 2 = 0x8100 ∧ (eth 0x8100 (zeros 3)).length = 17 ∧
    (∀ t ∈ [0x8100, 0x88A8, 0x8847, 0x8848, 0x0800, 0x86DD, 0x0806, 0x88F7], hb (eth 0x88A8 ([0, 5, 0x88, 0xB5])) 16 2 ≠ t) ∧
    (let f := eth 0x8100 [0, 5, 0x88, 0xA8, 0, 6, 0x81, 0]; f.length = 22 ∧ hb f 16 2 = 0x88A8 ∧ hb f 20 2 = 0x8100) := by decide +kernel
theorem witness_ParseRecords_labels :
    (let f := eth 0x8847 [0, 0, 1, 64, 0]; f.length = 19 ∧ hu f 16 % 2 = 1 ∧ hu f 18 / 16 ≠ 4 ∧ hu f 18 / 16 ≠ 6) ∧
    (let f := eth 0x8848 (zeros 16); f.length = 30 ∧ hu f 16 % 2 = 0 ∧ hu f 20 % 2 = 0 ∧ hu f 24 % 2 = 0 ∧ hu f 28 % 2 = 0) ∧
    (let f := eth 0x0806 ([0, 1, 8, 0, 6, 4, 0, 1] ++ zeros 20); hu f 18 = 6 ∧ hu f 19 = 4 ∧ 22 + 2 * (hu f 18 + hu f 19) = f.length) ∧
    (eth 0x88F7 (zeros 34)).length = 48 := by decide +kernel
theorem witness_ParseRecords_ip4 :
    (let f := ip4 4 0 17 (zeros 4); hu f 14 = 64 + 4 ∧ 34 ≤ f.length) ∧
    (let f := ip4 15 0x2001 6 []; hu f 14 = 64 + 15 ∧ 14 + 4 * 15 = f.length ∧ hb f 20 2 % 2 ^ 13 ≠ 0) ∧
    (let f := ip4 5 0x2000 1 (zeros 8); hb f 20 2 % 2 ^ 13 = 0 ∧ hb f 20 2 / 2 ^ 13 % 2 = 1 ∧ hu f 23 = 1 ∧ 34 + 8 = f.length) ∧
    (let f := ip4 5 0x4000 99 []; hb f 20 2 % 2 ^ 14 = 0 ∧ (∀ k ∈ [1, 6, 17, 47, 58], hu f 23 ≠ k)) ∧
    (let f := ip4 5 0 6 (zeros 12 ++ [0x40] ++ zeros 7); hu f 23 = 6 ∧ 34 + 20 = f.length ∧ hu f 46 / 16 < 5) ∧
    (let f := ip4 5 0 6 (zeros 12 ++ [0xF0] ++ zeros 47); hu f 46 / 16 = 15 ∧ 34 + 4 * 15 = f.length) := by decide +kernel
theorem witness_ParseRecords_udp :
    (let f := ip4 5 0 17 (zeros 7); hu f 23 = 17 ∧ f.length < 34 + 8) ∧
    (let f := ip4 5 0 17 (zeros 8); hb f 36 2 ≠ fld cfgV 15 0 ∧ hb f 36 2 ≠ 319 ∧ hb f 36 2 ≠ 320 ∧ 34 + 8 = f.length) ∧
    (let f := ip4 5 0 17 ([0, 9, 0x12, 0xB5] ++ zeros 12); hb f 36 2 = fld cfgV 15 0 ∧ 34 + 16 = f.length ∧ bitAt cfgV 16 = false) ∧
    (let f := ip4 5 0 17 ([0, 9, 0x12, 0xB5] ++ zeros 12 ++ eth 0x0806 ([0, 1, 8, 0, 6, 4, 0, 1] ++ zeros 20))
     hb f 36 2 = fld cfgP 15 0 ∧ bitAt cfgP 16 = true ∧ hb f 62 2 = 0x0806 ∧ hu f 68 = 6 ∧ hu f 69 = 4 ∧ 34 + 38 + 2 * (6 + 4) = f.length) ∧
    (let f := ip4 5 0 47 [0, 0, 8, 0]; hu f 23 = 47 ∧ 34 + 4 = f.length ∧ hb f 34 2 = 0 ∧ bitAt cfgV 32 = false) := by decide +kernel
theorem witness_ParseRecords_ip6 :
    (let f := ip6 5 58 []; 54 = f.length ∧ hu f 14 / 16 ≠ 6) ∧
    (let f := ip6 6 58 (zeros 8); hu f 14 / 16 = 6 ∧ hu f 20 = 58 ∧ 62 = f.length) ∧
    (let f := ip6 6 0 ([58, 0] ++ zeros 14); hu f 20 = 0 ∧ hu f 54 = 58 ∧ 54 + 8 * (hu f 55 + 1) + 8 = f.length) ∧
    (let f := ip6 6 0 ([59, 0] ++ zeros 6); hu f 54 = 59 ∧ 54 + 8 * (hu f 55 + 1) = f.length) ∧
    (let f := ip6 6 44 ([17, 0, 0, 9] ++ zeros 4); hu f 20 = 44 ∧ hb f 56 2 / 8 ≠ 0) ∧
    (let f := ip6 6 44 ([59, 0, 0, 0] ++ zeros 4); hb f 56 2 / 8 = 0 ∧ hb f 56 2 % 2 = 0 ∧ hu f 54 = 59) := by decide +kernel
theorem witness_ThreadsStart_3 :
    queued0.lostHead 0 0 = false ∧
    ((steal0.slice 0).cluster 0).thresh ≠ 0 ∧
    ((steal0.slice 0).cluster 0).queue = [5] := by decide +kernel
theorem witness_HandOnAndCrossing_4 :
    Crosses (.queue 4095) (cross0 (.queue 4095) id) ∧
    Admits (cross0 (.queue 4095) id) 0 4095 0 ∧
    Crosses (.merge 63) crossM ∧
    bitAt (crossM.ligCfg 0 63) 63 = true ∧
    portTargetDrop crossM 0 63 = none ∧
    ((crossM.sch 0).port 63).merge = [] := by unfold Crosses Admits; decide +kernel
theorem witness_HandOnAndCrossing_5 :
    Crosses (.eqx 5) crossE ∧
    crossE.members 0 (.eqx 5) = [63] ∧
    portTargetDrop crossE 0 63 = none ∧
    ((crossE.sch 0).port 63).eqx = [] := by unfold Crosses; decide +kernel
theorem witness_HandOnAndCrossing_6 :
    Crosses (.mcast 9) crossL ∧
    crossL.members 0 (.mcast 9) = [63] ∧
    Admits crossL 0 ((fld (crossL.actEntry 0 0 63).w0 11 0 + 0) % 4096) 0 := by unfold Crosses Admits; decide +kernel
theorem witness_HandOnAndCrossing_7 :
    Crosses (.mcast 9) (cross0 (.mcast 9) id) ∧
    (cross0 (.mcast 9) id).members 0 (.mcast 9) = [] ∧
    (cross0 (.eqx 5) id).members 0 (.eqx 5) = [] := by unfold Crosses; decide +kernel
/-- R29: a port that is paused sends nothing, so nothing but the crossing's own copies changes its queues. -/
theorem witness_HandOnAndCrossing_still : Still 0 (cross0 (.queue 4095) id) := by
  refine ⟨fun k hk => ?_, fun q hq => absurd rfl hq⟩
  by_cases h : k = 63
  · subst h; decide +kernel
  · have : (cross0 (.queue 4095) id).lane 0 k = {} := by
      simp [State.lane, Slice.lane, show ((cross0 (.queue 4095) id).slice 0).lanes = [(63, { lane0 with pauseUntil := some 3000000 })] from rfl, NMap.get, Ne.symm h]
    rw [this] at hk
    cases hk
theorem witness_ThreadsEndAndTrap_3 :
    pkt0.full = false ∧
    th0.evidential = false ∧
    copyQ.isMerge = false ∧
    (finishCopy (endC [copyQ]) 0 pkt0 copyQ).1 = some { copyQ with slices := [0] } ∧
    copyQ.dead = 0 ∧
    copyQ.barred = [] ∧
    (endC [copyQ]).queueValid 0 4095 = true ∧
    copyM.isMerge = true ∧
    ((finishCopy (endC [copyM]) 0 pkt0 copyM).1.map (·.slices)) = some [3] ∧
    (finishCopy (endC [copyM]) 0 pkt0 copyM).2 = [] ∧
    crossDrop (endC [copyM]) 0 3 = 0 ∧
    ((endC [copyM]).frame pkt0.frame).bad = false ∧
    ((endC [copyM]).frame pkt0.frame).cutOff = false ∧
    NMap.get [] ((endC [copyM]).slice 0).eg.voq (8 * 3 + 7) = [] := by decide +kernel
theorem witness_AsyncCompletions_5 :
    (let c := (rmTwo.slice 0).rmx.copy (rmTwo.recordBank (rmTwo.slice 0).fol th0.epoch)
     c.chain 0 17 0 [] = some [0] ∧ (c.row 3).valid = true ∧ (c.row 3).prio = (c.row 9).prio ∧
     (5 ^^^ (c.row 3).value) &&& (c.row 3).care = 0 ∧ (5 ^^^ (c.row 9).value) &&& (c.row 9).care = 0 ∧ (5 ^^^ (c.row 11).value) &&& (c.row 11).care ≠ 0) ∧
    (let c := ((rmS 1 5 []).slice 0).rmx.copy ((rmS 1 5 []).recordBank ((rmS 1 5 []).slice 0).fol th0.epoch); c.chain 1 17 0 [] = none) ∧
    (rmTwo.slice 0).opFenced (.lkpRm 0 0 5 30) = false := by decide +kernel
theorem witness_AsyncCompletions_6 :
    ((farS 0 .ready).slice 0).farFenced = false ∧
    ((farS 0 .ready).slice 0).farReady = true ∧
    ((farS 0 .ready).slice 0).found false false 5 (fun e => ((farS 0 .ready).slice 0).tbl.visible th0.epoch e.vis) = none ∧
    ((farS 0 .ready).slice 0).found true false 5 (fun e => ((farS 0 .ready).slice 0).tbl.visible th0.epoch e.vis) = some (farK, ent5) ∧
    ((farS 2 .training).slice 0).farFenced = false ∧
    ((farS 2 .training).dram 0).state ≠ .ready := by decide +kernel
theorem witness_AsyncCompletions_7 :
    ((fencedS [0x400] (.lkpRm 0 0 5 30)).slice 0).opFenced (.lkpRm 0 0 5 30) = true ∧
    ((fencedS [0x903] (.seqAdd (some 9) 5 true 31)).slice 0).opFenced (.seqAdd (some 9) 5 true 31) = true ∧
    ((fencedS [0x903] (.seqAdd (some 9) 5 true 31)).lane 0 63).allEnded 0 = true ∧
    ((fencedS ((List.range 16).map (0x310 + ·)) (.lkpEm 1 false true 5 31)).slice 0).nearFenced = true ∧
    ((fencedS [0x801] (.lkpEm 2 false true 5 31)).slice 0).farFenced = true := by decide +kernel
theorem witness_EditLists_1 :
    12 + 8 ≤ buf20.length ∧
    buf20.length < 13 + 8 ∧
    8 + stampWidth 0 ≤ buf20.length ∧
    buf20.length < 20 + stampWidth 0 ∧
    (0 : Stamp).t16 ≤ (0x50007 : Stamp).t16 ∧
    (byteAt buf20.bytes 0).toNat % 16 = 5 ∧
    0 + 4 * 5 ≤ buf20.length ∧
    (byteAt buf24.bytes 0).toNat % 16 = 6 ∧
    (byteAt buf24.bytes 4).toNat % 16 = 0 ∧
    (byteAt (editBuf ([0x4F] ++ zeros 19)).bytes 0).toNat % 16 = 15 ∧
    (editBuf ([0x4F] ++ zeros 19)).length < 0 + 4 * 15 := by decide +kernel
theorem witness_EditLists_2 :
    ofBytesBE (slice buf20.bytes 6 2) = 0 ∧
    (∀ p ∈ buf20.drop 0, p.2 = 0) ∧
    (match applyEdits 0 [.set 0 1 7, .del 19 1] buf20 with
      | .ok b => b.length
      | _ => 0) = 19 ∧
    (match applyEdits 0 [.set 20 1 7] buf20 with
      | .abort => true
      | _ => false) = true := by decide +kernel
theorem witness_TableBackground_6 :
    (learnC.slice 0).seq.state = .running ∧
    (learnN.slice 0).seq.state = .running ∧
    (learn0.slice 0).seq.state = .running ∧
    (flushH.slice 0).seq.state ≠ .running := by decide +kernel
theorem witness_FolioSwitches_5 :
    folG.fol.state = .pending ∧
    folG.fol.rollback = false ∧
    ((folG.sch 0).port 63).gswitch = .folio folG.fol.staged ∧
    ((folG.sch 0).port 5).gswitch ≠ .folio folG.fol.staged ∧
    (opnF.slice 0).farReady = false ∧
    (∀ i : Fin 16, (opnF.slice i).seq.state = .running) ∧
    opnF.fol.state = .opening ∧
    rollS.fol.rollback = true ∧
    (∀ j, (rollS.slice j).fol.armed = true) ∧
    rollS.fol.time ≤ rollS.sliceT 0 := by decide +kernel
theorem witness_LigatureAndEquinox_4 :
    ((seedH none).slice 0).eg.prevSeed = [(7, 90), (4, 40)] ∧
    (∀ p ∈ ((seedH none).slice 0).eg.prevSeed, p.2 ≤ 90) ∧
    ((89 : Nat) < 90 ∧ ∀ p ∈ [((4 : Word), 40)], p.2 ≤ 89) ∧
    (seedH (some (9, 91))).lig.pending = some (9, 91) := by decide +kernel
theorem witness_HostPort_7 :
    mapS.pfMap 0 = some 0 ∧
    mapS.pfMap 1 = none ∧
    (mapS.pfn 1).link = some 0 ∧
    (hostS id).globalWriter .scribe = true ∧
    (hostS id).globalWriter (.pf 5) = false := by decide +kernel
theorem witness_RingsAndTags_8 :
    ((ringS cfg6 { state := .error }).ring 15 255).state = .error ∧
    ((ringS cfg6 { state := .frozen }).ring 15 255).state = .frozen ∧
    froS.ringFrozen 15 255 = true ∧
    (froS.ring 15 255).state = .stopped ∧
    (ringS 0 {}).ringFrozen 15 255 = false ∧
    lateS.tag 16383 = some (tg true none) ∧
    (lateS.ring 15 255).read ≠ some 16383 ∧
    (∀ j : Fin 16, ∀ e ∈ (lateS.slice j).rings, e.2.wantsFrom = none) := by decide +kernel
theorem witness_ScribeServes_5 :
    heldSerial.core = .off ∧
    heldSerial.scribe.allows 1 (msgOf 0x10 1 (bytesLE 8 (globalOff Reg.SEC_SERIAL) ++ bytesLE 2 1)) = true ∧
    msgPayload (msgOf 0x10 1 (bytesLE 8 (globalOff Reg.SEC_SERIAL) ++ bytesLE 2 1)) = bytesLE 8 (globalOff Reg.SEC_SERIAL) ++ bytesLE 2 1 ∧
    (heldFault 16).up = false ∧
    (heldFault 16).scribe.allows 1 (msgOf 0x20 1 [byte 16]) = true ∧
    (heldFault 15).scribe.allows 1 (msgOf 0x20 1 [byte 15]) = true := by decide +kernel
theorem witness_ScribeServes_6 :
    ((cpbF .ready).slice 15).farReady = true ∧
    ((cpbF .training).slice 15).farReady = false ∧
    0 + 64 ≤ blk0.size ∧
    blk0.size < 2 ^ 32 - 1 + 64 ∧
    ((cpbF .ready).cpb 15).blocks.find? (fun b => decide (b.number = 7 ∧ b.run = ((cpbF .ready).cpb 15).run)) = some blk0 ∧
    (cpbF .ready).scribe.allows 1 (msgOf 0x30 1 ([15] ++ bytesLE 8 7 ++ bytesLE 4 0 ++ bytesLE 2 64)) = true ∧
    (certS none [1]).scribe.seed = none ∧
    (certS none [1]).scribe.lc = 0 ∧
    (certS (some 0) [1]).scribe.allows 1 (msgOf 0x53 1 [1]) = true ∧
    (certS none []).scribe.allows 1 (msgOf 0x53 1 []) = true := by decide +kernel
theorem witness_ScribeDomain_carries : Carries 0 0 4719 m60 { path := 0, bytes := m60 } ∧
    Carries 0 1 0 mctp60 { path := 1, bytes := msgOf 1 1 [], eid := 8, tag := 3 } :=
  ⟨.inl ⟨rfl, rfl, by decide +kernel, rfl⟩, .inr ⟨rfl, by decide +kernel, by decide +kernel⟩⟩
theorem witness_ScribeDomain_4 :
    (zeros 1473).length = 1473 ∧
    mctpJoin 0 0 0 24 0 [] = none ∧
    msgWellFormed m99 = true ∧
    msgOpcode m99 ≠ 1 ∧
    msgNonceOk unkS m99 = true ∧
    unkS.scribe.counter < msgCounter m99 ∧
    unkS.scribe.lastReq ≠ m99 ∧
    knownOpcode m99 = false ∧
    msgTagOk unkS m99 = true ∧
    unkS.scribe.withheld = false ∧
    up0.globalWriter (.pf 3) = false ∧
    (zeros 40).length % 2 = 0 := by decide +kernel
theorem witness_PinMultiplexing_2 :
    (liveS 0x10001).pmx.live = true ∧
    (liveS 0x10001).pmx.feature 0 ≠ none ∧
    bitAt ((liveS 0x10001).greg Reg.PMX_GPIO) 16 = true ∧
    (0, 2000001) ∈ (liveS 0).pmx.high ∧
    (liveS 0).pmx.cmd.busy = false ∧
    (∀ a b : Fin 7, a < b → pmxConflict (liveS 0) a.val b.val = none) ∧
    up0.pmx.live = false ∧
    bitAt ((liveS 0).pmxFeat 6) 63 = false := by decide +kernel
theorem witness_FaultSources_4 :
    (msxI {} 0x8000000000000000).flt.intWaits = true ∧
    bitAt ((msxI {} 0x8000000000000000).greg Reg.DFLT_INT_CFG) 63 = true ∧
    ((msxI {} 0x8000000000000000).pfn (msxI {} 0x8000000000000000).deviceOwner).msixOn = true ∧
    (msxI {} 0x8000000000000000).pfUsable (msxI {} 0x8000000000000000).deviceOwner = true ∧
    bitAt ((msxI {} 0).greg Reg.DFLT_INT_CFG) 63 = false ∧
    (((msxI { masked := false } 0).pfn 0).vec 0).masked = false ∧
    (((msxI { masked := true } 0).pfn 0).vec 0).masked = true := by decide +kernel
theorem witness_FaultSources_5 :
    ((fltU 0 0x310 { reaction := 2 }).src 0 0x310).reaction = 2 ∧
    (up0.src 0 0x310).reaction ≠ 2 ∧
    fenceTarget 0x310 = some (.nearBank 0) ∧
    (rx0.slice 0).portOf 63 = some 63 ∧
    ((rx0.sch 0).port 63).tx = none ∧
    (up0.slice 0).portOf 63 = none ∧
    (∀ e ∈ (up0.slice 0).threads, e.2.ops = []) ∧
    (up0.slice 0).nearFenced = false ∧
    (up0.slice 0).digestFenced = false ∧
    (fltU 0 0x901 { active := true, reaction := 1 }).unitFenced 0 .xbr = true ∧
    (fltU 0 0x901 { active := true, reaction := 1 }).partition 0 = (fltU 0 0x901 { active := true, reaction := 1 }).partition 1 ∧
    up0.unitFenced 0 .frag = false ∧
    (fltU 0 0x904 { active := true, reaction := 1 }).unitFenced 0 .frag = true ∧
    up0.unitFenced 0 .ddr5 = false ∧
    (fltU 0 0x800 { active := true, reaction := 1 }).unitFenced 0 .ddr5 = true := by decide +kernel
theorem witness_CountersAndTally_3 :
    stopT.tally.stopping = true ∧
    snpS.tally.stopping = false ∧
    bitAt snpS.tlyCfg 62 = false ∧
    bitAt (snpS.setGreg Reg.TLY_CFG 0xC010000000010000).tlyCfg 62 = true ∧
    snpS.pfUsable snpS.deviceOwner = true ∧
    (tlyS tlyW id).tally.writing = none := by decide +kernel

end Sys2Proof.Tests
end

section
/-!
PROOFS. Writes of the crossbar's partition map (R26): how a plain global register takes a write of a quiet device, and what
`partMapWrite` does with it.
-/
namespace Sys2Proof.Machine
open Sys2Proof Sys2Proof.Claims

-- A write of a plain global register ---------------------------------------------------------------------------------

theorem sliceOf?_globalOff (o : Nat) : sliceOf? (globalOff o) = none := by
  simp [sliceOf?, globalOff]

theorem isCommand_globalOff (o : Nat) : isCommand (globalOff o) = globalCommand o := by
  rw [isCommand, sliceOf?_globalOff]
  simp only [globalOff, Nat.add_sub_cancel_left]

theorem hasReg_globalOff {o : Nat} (hr : (findReg globalRegs o).isSome = true) (s : State) : s.hasReg (globalOff o) = true := by
  rw [State.hasReg, sliceOf?_globalOff]
  simp only [globalOff, Nat.add_sub_cancel_left, hr, Bool.true_or]

/-- A register of the global block that is no command register and not the Scribe's own is reached by the writers of global
registers (R483). -/
theorem reaches_plainGlobal {o : Nat} (hr : (findReg globalRegs o).isSome = true) (hc : globalCommand o = false)
    (hs : scribeOnly o = false) (s : State) (r : Requester) (h : Half) (w : Word) :
    s.reaches r (globalOff o) h w = s.globalWriter r := by
  simp only [State.reaches, hasReg_globalOff hr, isCommand_globalOff, hc, sliceOf?_globalOff]
  simp [globalOff, hs]

/-- What the fabric remembers of a write is the write itself, when it reaches its register. -/
theorem noteWrite_eq_took (r : Requester) (off : Nat) (h : Half) (w : Word) (s : State) :
    noteWrite r off h w s = if s.reaches r off h w then took r off h w s else s := rfl

-- The end of a command that leaves a settled state -------------------------------------------------------------------

/-- The end of a command changes nothing in a settled state. -/
theorem settle_of_settled {s : State} (hs : s.Settled) : settle s = s := by
  obtain ⟨hdue, hfresh⟩ := hs
  have hkept : s.writes.filter (fun x => decide (x.cycle = s.uptime / 4)) = s.writes :=
    List.filter_eq_self.mpr (fun x hx => decide_eq_true (hfresh x hx))
  rw [settle_of_due hdue, ageWrite, hkept]

theorem settled_of_calm {s : State} (hs : Calm s) : s.Settled := by
  simp [State.Settled, hs.due, hs.free]

/-- A calm device that has just taken a write is settled: the write is of the PCLK cycle in progress. -/
theorem settled_took_of_calm {s : State} (hs : Calm s) (r : Requester) (off : Nat) (h : Half) (w : Word) :
    (took r off h w s).Settled := by
  refine ⟨hs.due, fun x hx => ?_⟩
  have hx' : x ∈ [({ r := r, off := off, h := h, w := w, cycle := s.uptime / 4 } : FabricWrite)] := by
    simpa [took, hs.free] using hx
  rw [List.mem_singleton.mp hx']
  rfl

-- The partition map (R26) --------------------------------------------------------------------------------------------

/-- A write of a register whose every bit is writable replaces the part that the access covers and keeps the rest. -/
theorem mergeWrite_full (old w : Word) (h : Half) :
    mergeWrite old w h 0xFFFFFFFFFFFFFFFF = (old &&& ~~~halfMask h) ||| (w &&& halfMask h) := by
  have hmask : word 0xFFFFFFFFFFFFFFFF &&& halfMask h = halfMask h := BitVec.allOnes_and
  rw [mergeWrite, hmask]

/-- Another requester's write of the map has no effect. -/
theorem partMapWrite_denied {r : Requester} {s : State} (hp : s.globalWriter r = false) (h : Half) (w : Word) :
    partMapWrite r h w s = s := by
  simp [partMapWrite, hp]

/-- A permitted write is discarded and counted while the last one waits to apply, and replaces the written part otherwise. -/
theorem partMapWrite_permitted {r : Requester} {s : State} (hp : s.globalWriter r = true) (h : Half) (w : Word) :
    partMapWrite r h w s =
      if s.xbrPending then { s with xbrRefused := min (s.xbrRefused + 1) 65535 }
      else { s.setGreg Reg.XBR_PART_MAP ((s.greg Reg.XBR_PART_MAP &&& ~~~halfMask h) ||| (w &&& halfMask h)) with
        xbrPending := true } := by
  simp [partMapWrite, hp, mergeWrite_full, satN]

theorem partMapWrite_writes (r : Requester) (h : Half) (w : Word) (s : State) : (partMapWrite r h w s).writes = s.writes := by
  unfold partMapWrite
  split
  · split <;> rfl
  · rfl

theorem partMapWrite_calm {s : State} (hs : Calm s) (r : Requester) (h : Half) (w : Word) : Calm (partMapWrite r h w s) :=
  ⟨(partMapWrite_due r h w s).trans hs.due, (partMapWrite_writes r h w s).trans hs.free⟩

/-- The write of the map neither reads nor changes what the fabric remembers. -/
theorem partMapWrite_took {r : Requester} (off : Nat) (h h' : Half) (w w' : Word) (s : State) :
    partMapWrite r h w (took r off h' w' s) = took r off h' w' (partMapWrite r h w s) := by
  unfold partMapWrite
  rw [apply_ite (took r off h' w'), apply_ite (took r off h' w')]
  rfl

/-- XBR_PART_MAP is a plain register of the global block. -/
theorem reaches_partMap (s : State) (r : Requester) (h : Half) (w : Word) :
    s.reaches r (globalOff Reg.XBR_PART_MAP) h w = s.globalWriter r :=
  reaches_plainGlobal (by decide +kernel) (by decide) (by decide) s r h w

/-- The command XBR_PART_MAP_WRITE of a quiet device with the core UP: the fabric takes the write, then `partMapWrite` judges it. -/
theorem exec_xbrPartMapWrite {s : State} (hs : Ready s) (r : Requester) (h : Half) (w : Word) :
    exec (.xbrPartMapWrite r h w) s =
      .next (settle (partMapWrite r h w (if s.globalWriter r then took r (globalOff Reg.XBR_PART_MAP) h w s else s))) := by
  rw [← reaches_partMap s r h w, ← noteWrite_eq_took,
    ← writeAt_free (f := partMapWrite r h w) (answers_of_up hs.up _) hs.free]
  rfl

/-- Settles O12: a permitted write meets the state with the write noted, which commutes with the map's update, and no fault
reaction is left for `settle`; another requester's write is neither noted nor performed. -/
theorem partitionMapWrites : Obligations.PartitionMapWrites := by
  intro s r h w hs
  rw [exec_xbrPartMapWrite hs]
  cases hp : s.globalWriter r with
  | false =>
    simp [partMapWrite_denied hp, settle_of_settled (settled_of_calm hs.toCalm)]
  | true =>
    have hsettled := settled_took_of_calm (partMapWrite_calm hs.toCalm r h w) r (globalOff Reg.XBR_PART_MAP) h w
    simp only [if_true, partMapWrite_took]
    rw [settle_of_settled hsettled, partMapWrite_permitted hp]

end Sys2Proof.Machine
end

section
/-!
PROOFS. Writes of a slice's Folio registers (R353): how a plain register of a slice's register block takes a write of a quiet
device, and what the guard of Table 13.7 does with it.
-/
namespace Sys2Proof.Machine
open Sys2Proof Sys2Proof.Claims

-- A write of a plain slice register ----------------------------------------------------------------------------------

theorem sliceOf?_sliceOff {o : Nat} (ho : o < 0x400000) (i : Fin 16) : sliceOf? (sliceOff i o) = some (i, o) := by
  have hi := i.isLt
  have hlt : sliceOff i o < 0x4000000 := by unfold sliceOff; omega
  have hslice : sliceOff i o / 0x400000 = i.val := by unfold sliceOff; omega
  have hreg : sliceOff i o % 0x400000 = o := by unfold sliceOff; omega
  have hsl : sl i.val = i := Fin.ext (Nat.mod_eq_of_lt hi)
  rw [sliceOf?, if_pos hlt, hslice, hreg, hsl]

theorem sliceOff_ne_globalOff {o : Nat} (ho : o < 0x400000) (i : Fin 16) (o' : Nat) : sliceOff i o ≠ globalOff o' := by
  have hi := i.isLt
  unfold sliceOff globalOff
  omega

theorem sliceOff_mod_eight {o : Nat} (ho : o % 8 = 0) (i : Fin 16) : sliceOff i o % 8 = 0 := by
  unfold sliceOff
  omega

/-- A slice's register in its register block, below the indirect windows, that is no command register. -/
structure PlainReg (o : Nat) : Prop where
  inBlock : o < 0x200000
  aligned : o % 8 = 0
  listed  : (findReg sliceRegs o).isSome = true
  plain   : sliceCommand o = false

theorem PlainReg.lt_slice {o : Nat} (ho : PlainReg o) : o < 0x400000 := by
  have := ho.inBlock
  omega

/-- A plain slice register is reached by the slice's writers (R483). -/
theorem reaches_plainReg {o : Nat} (ho : PlainReg o) (s : State) (i : Fin 16) (r : Requester) (h : Half) (w : Word) :
    s.reaches r (sliceOff i o) h w = s.sliceWriter i r := by
  simp [State.reaches, State.hasReg, isCommand, sliceOf?_sliceOff ho.lt_slice, ho.listed, ho.plain]

/-- A plain slice register's write has the effect that `writeSliceReg` gives it, in whichever part. -/
theorem writeReg_plainReg {o : Nat} (ho : PlainReg o) (i : Fin 16) (r : Requester) (h : Half) (w : Word) (s : State) :
    writeReg r (sliceOff i o) h w s = writeAt r (sliceOff i o) h w (writeSliceReg i r o h w) s := by
  have heffect : writeEffect r (sliceOff i o) h w = writeSliceReg i r o h w := by
    funext t
    simp [writeEffect, sliceOf?_sliceOff ho.lt_slice, ho.plain, ho.inBlock]
  simp [writeReg, sliceOff_ne_globalOff ho.lt_slice, heffect]

/-- REGISTER_WRITE of eight bytes, of the lower four and of the upper four (R2). -/
theorem exec_registerWrite_both {off : Nat} (ho : off % 8 = 0) (r : Requester) (w : Word) (s : State) :
    exec (.registerWrite r off 8 w) s = done (writeReg r off .both w s) := by
  have hpart : accessPart off 8 = some .both := by simp [accessPart, ho]
  have hoff : off / 8 * 8 = off := by omega
  change done (regWrite r off 8 w s) = _
  simp only [regWrite, hpart, hoff, toPart]

theorem exec_registerWrite_low {off : Nat} (ho : off % 8 = 0) (r : Requester) (w : Word) (s : State) :
    exec (.registerWrite r off 4 w) s = done (writeReg r off .low (toPart .low w) s) := by
  have hpart : accessPart off 4 = some .low := by simp [accessPart, ho]
  have hoff : off / 8 * 8 = off := by omega
  change done (regWrite r off 4 w s) = _
  simp only [regWrite, hpart, hoff]

theorem exec_registerWrite_high {off : Nat} (ho : off % 8 = 0) (r : Requester) (w : Word) (s : State) :
    exec (.registerWrite r (off + 4) 4 w) s = done (writeReg r off .high (toPart .high w) s) := by
  have hmod : (off + 4) % 8 = 4 := by omega
  have hpart : accessPart (off + 4) 4 = some .high := by simp [accessPart, hmod]
  have hoff : (off + 4) / 8 * 8 = off := by omega
  change done (regWrite r (off + 4) 4 w s) = _
  simp only [regWrite, hpart, hoff]

-- The guard of Table 13.7 (R353) -------------------------------------------------------------------------------------

/-- The guard of R353 around a register's own effect `f`: performed for a writer of the slice in STAGING, otherwise counted. -/
def folGuarded (i : Fin 16) (r : Requester) (f : State → State) (s : State) : State :=
  if s.sliceWriter i r && s.inStaging then f s else refuseFol s

/-- The effect keeps a calm device calm and has nothing to do with what the fabric remembers. -/
structure FabricFree (f : State → State) : Prop where
  calm : ∀ s, Calm s → Calm (f s)
  took : ∀ r off h w s, f (took r off h w s) = took r off h w (f s)

theorem fabricFree_id : FabricFree id := ⟨fun _ hs => hs, fun _ _ _ _ _ => rfl⟩

theorem fabricFree_folGuarded {f : State → State} (hf : FabricFree f) (i : Fin 16) (r : Requester) :
    FabricFree (folGuarded i r f) where
  calm s hs := by
    unfold folGuarded
    split
    · exact hf.calm s hs
    · exact ⟨(refuseFol_due s).trans hs.due, hs.free⟩
  took r' off h w s := by
    unfold folGuarded
    rw [hf.took, apply_ite (Claims.took r' off h w)]
    rfl

/-- A quiet device takes a write of a plain slice register: `f` judges it, and the fabric remembers a write of the slice's
writers (R406). -/
theorem done_writeAt_plainReg {o : Nat} (ho : PlainReg o) {f : State → State} (hf : FabricFree f) {s : State} (hs : Ready s)
    (i : Fin 16) (r : Requester) (h : Half) (w : Word) :
    done (writeAt r (sliceOff i o) h w f s) =
      .next (if s.sliceWriter i r then took r (sliceOff i o) h w (f s) else f s) := by
  have hcalm : Calm (f s) := hf.calm s hs.toCalm
  rw [done, writeAt_free (answers_of_up hs.up _) hs.free, noteWrite_eq_took, reaches_plainReg ho]
  cases s.sliceWriter i r with
  | false => exact congrArg _ (settle_of_settled (settled_of_calm hcalm))
  | true =>
    simp only [if_true]
    rw [hf.took, settle_of_settled (settled_took_of_calm hcalm r _ h w)]

/-- What a write of a guarded register at `o` leaves of a quiet device: `f` performed or the write counted, as R353 says, and a
write of the slice's writers remembered. -/
def folWritten (i : Fin 16) (r : Requester) (o : Nat) (h : Half) (w : Word) (f : State → State) (s : State) : State :=
  let judged := if s.sliceWriter i r = true ∧ s.fol.state = .staging then f s else s.gcount Reg.FOL_COUNT 15 0
  if s.sliceWriter i r then took r (sliceOff i o) h w judged else judged

theorem done_writeAt_folGuarded {o : Nat} (ho : PlainReg o) {f : State → State} (hf : FabricFree f) {s : State} (hs : Ready s)
    (i : Fin 16) (r : Requester) (h : Half) (w : Word) :
    done (writeAt r (sliceOff i o) h w (folGuarded i r f) s) = .next (folWritten i r o h w f s) := by
  have hjudged : folGuarded i r f s =
      if s.sliceWriter i r = true ∧ s.fol.state = .staging then f s else s.gcount Reg.FOL_COUNT 15 0 := by
    simp [folGuarded, State.inStaging, refuseFol]
  rw [done_writeAt_plainReg ho (fabricFree_folGuarded hf i r) hs, hjudged, folWritten]

/-- REGISTER_WRITE of a guarded register, whole or in either half. -/
theorem exec_registerWrite_folGuarded {i : Fin 16} {r : Requester} {o : Nat} (ho : PlainReg o) {f : Half → Word → State → State}
    (hf : ∀ h w, FabricFree (f h w)) (heffect : ∀ h w, writeSliceReg i r o h w = folGuarded i r (f h w)) {s : State}
    (hs : Ready s) (w : Word) :
    exec (.registerWrite r (sliceOff i o) 8 w) s = .next (folWritten i r o .both w (f .both w) s) ∧
      exec (.registerWrite r (sliceOff i o) 4 w) s = .next (folWritten i r o .low (toPart .low w) (f .low (toPart .low w)) s) ∧
      exec (.registerWrite r (sliceOff i o + 4) 4 w) s =
        .next (folWritten i r o .high (toPart .high w) (f .high (toPart .high w)) s) := by
  have hpart : ∀ h v, done (writeReg r (sliceOff i o) h v s) = .next (folWritten i r o h v (f h v) s) := by
    intro h v
    rw [writeReg_plainReg ho, heffect, done_writeAt_folGuarded ho (hf h v) hs]
  have haligned := sliceOff_mod_eight ho.aligned i
  refine ⟨?_, ?_, ?_⟩
  · rw [exec_registerWrite_both haligned, hpart]
  · rw [exec_registerWrite_low haligned, hpart]
  · rw [exec_registerWrite_high haligned, hpart]

-- The registers of Table 13.7 ----------------------------------------------------------------------------------------

/-- A write of seed register `k` takes the writable bits of the written part: bits 1 and 0 of FOL_SEED_CTL, all of a seed. -/
def folSeedUpdate (i : Fin 16) (k : Nat) (h : Half) (w : Word) (s : State) : State :=
  let o := Reg.FOL_SEED_CTL + 8 * k
  s.setReg i o (mergeWrite (s.reg i o) w h (if k = 0 then 3 else 0xFFFFFFFFFFFFFFFF))

theorem fabricFree_folSeedUpdate (i : Fin 16) (k : Nat) (h : Half) (w : Word) : FabricFree (folSeedUpdate i k h w) :=
  ⟨fun _ hs => ⟨hs.due, hs.free⟩, fun _ _ _ _ _ => rfl⟩

theorem folSliceWrite_eq_folGuarded (i : Fin 16) (r : Requester) (k : Nat) (h : Half) (w : Word) :
    folSliceWrite i r k h w = folGuarded i r (folSeedUpdate i k h w) := rfl

theorem exec_folSliceRegWrite (i : Fin 16) (r : Requester) (k : Fin 5) (h : Half) (w : Word) (s : State) :
    exec (.folSliceRegWrite i r k h w) s =
      done (writeAt r (sliceOff i (Reg.FOL_SEED_CTL + 8 * k.val)) h w (folGuarded i r (folSeedUpdate i k h w)) s) := rfl

theorem folSeedReg_seed (k : Fin 5) : folSeedReg (Reg.FOL_SEED_CTL + 8 * k.val) = some k.val := by
  revert k
  decide

/-- A register write reaches the seed registers, with the effect of FOL_SLICE_REG_WRITE. -/
theorem writeSliceReg_seed (i : Fin 16) (r : Requester) (k : Fin 5) (h : Half) (w : Word) :
    writeSliceReg i r (Reg.FOL_SEED_CTL + 8 * k.val) h w = folGuarded i r (folSeedUpdate i k h w) := by
  have hk := k.isLt
  have hblock : 0x4010 + 8 * k.val < 0x8000 := by omega
  have htrap : 0x4010 + 8 * k.val ≠ 0x2000 := by omega
  have hreads : ¬ (0x4010 + 8 * k.val = 0x4000 ∨ 0x4010 + 8 * k.val = 0x4008) := by omega
  funext s
  rw [writeSliceReg, if_pos hblock, if_neg htrap, if_neg hreads, folSeedReg_seed, ← folSliceWrite_eq_folGuarded]

/-- FOL_SLICE_STATUS and FOL_SPLIT_COUNT have no writable bit: the guard stands around no effect. -/
theorem writeSliceReg_folRead {o : Nat} (ho : o ∈ [Reg.FOL_SLICE_STATUS, Reg.FOL_SPLIT_COUNT]) (i : Fin 16) (r : Requester)
    (h : Half) (w : Word) : writeSliceReg i r o h w = folGuarded i r id := by
  have hreads : o = 0x4000 ∨ o = 0x4008 := by simpa using ho
  have hblock : o < 0x8000 := by omega
  have htrap : o ≠ 0x2000 := by omega
  funext s
  rw [writeSliceReg, if_pos hblock, if_neg htrap, if_pos hreads]
  rfl

theorem plainReg_seed (k : Fin 5) : PlainReg (Reg.FOL_SEED_CTL + 8 * k.val) where
  inBlock := show 0x4010 + 8 * k.val < 0x200000 by omega
  aligned := show (0x4010 + 8 * k.val) % 8 = 0 by omega
  listed  := by revert k; decide +kernel
  plain   := by revert k; decide +kernel

theorem plainReg_folRead {o : Nat} (ho : o ∈ [Reg.FOL_SLICE_STATUS, Reg.FOL_SPLIT_COUNT]) : PlainReg o := by
  have hreads : o = Reg.FOL_SLICE_STATUS ∨ o = Reg.FOL_SPLIT_COUNT := by simpa using ho
  rcases hreads with rfl | rfl
  · exact ⟨by decide, by decide, by decide +kernel, by decide +kernel⟩
  · exact ⟨by decide, by decide, by decide +kernel, by decide +kernel⟩

/-- Settles O52: every one of the writes meets the guard of R353 around the register's own effect, which is the update of a seed
register's writable bits, and nothing for the two registers that have none. -/
theorem folioSliceRegisters : Obligations.FolioSliceRegisters := by
  intro s i r k h w hs
  refine ⟨⟨?_, ?_⟩, fun o ho => ?_⟩
  · rw [exec_folSliceRegWrite]
    exact done_writeAt_folGuarded (plainReg_seed k) (fabricFree_folSeedUpdate i k h w) hs i r h w
  · exact exec_registerWrite_folGuarded (plainReg_seed k) (fabricFree_folSeedUpdate i k)
      (writeSliceReg_seed i r k) hs w
  · exact exec_registerWrite_folGuarded (plainReg_folRead ho) (fun _ _ => fabricFree_id) (writeSliceReg_folRead ho i r) hs w

end Sys2Proof.Machine
end
